-- ==== Sys2Proof/Word.lean ====
section
/-!
DEFINITION. The bit vectors of the part: bytes of frames and images, words of a recipe image, tags,
conveyor positions and counters. Weights and converter values are integers (`Int`), not bit vectors.
-/

namespace Sys2Proof

/-- One byte of a loop frame or of the setup image (07 R146, 08 R169). -/
abbrev Byte := BitVec 8

/-- One 16-bit word: a word of a recipe image (06 R126), a sequence or result number. -/
abbrev Word16 := BitVec 16

/-- The 16-bit identity of a tracking entry: generation times 256 plus index (01 R2). -/
abbrev Tag := BitVec 16

/-- A conveyor position, 32 bits wrapping modulo 2^32 (01 R9, R11). -/
abbrev Pos := BitVec 32

/-- A 32-bit counter (00_scope.md, Conventions, Counters). -/
abbrev Count := BitVec 32

end Sys2Proof
end

