-- ==== Sys2Proof/Syntax.lean ====
section
/-!
DEFINITION. The commands of the part: one constructor for each row of spec/opcode_table.json, in the
table's order. The operands are what arrives with the step; a management request's arguments travel
in its frame and wait in the request queue (08 R165), so its row has no operand.
-/

namespace Sys2Proof

/-- The two readiness inputs (05 R122). -/
inductive ReadinessInput where
  | binFull
  | airOk
  deriving DecidableEq, Repr

/-- One command: one whole and indivisible step of the part (95_what_each_step_holds.md). -/
inductive Instr where
  /-- R181: the supply crosses its threshold. -/
  | powerOnReset
  /-- R183, R182: the supply has stood for the power-on interval; ADDR[5:0] and CALWE at that moment. -/
  | powerOnRelease (address : BitVec 6) (calwe : Bool)
  /-- R181: RESET_N goes low. -/
  | pinReset
  /-- R183, R182: RESET_N goes high; ADDR[5:0] and CALWE at that moment. -/
  | pinRelease (address : BitVec 6) (calwe : Bool)
  /-- R184: the start-up read of the calibration store completes. -/
  | calibrationRead
  /-- R183: the next idle interval on LOOP_IN, at which the bypass ends. -/
  | startUpCompletion
  /-- R8: the levels of ENC_A and ENC_B after a change. -/
  | encoderStep (a b : Bool)
  /-- R21: the level of EYE_IN after a change. -/
  | infeedEyeChange (level : Bool)
  /-- R21: the level of EYE_CONF after a change. -/
  | confirmEyeChange (level : Bool)
  /-- R23: the oldest recognised infeed arrival is taken. -/
  | infeedArrival
  /-- R27: the expiry of the oldest EN_ROUTE entry is taken. -/
  | missingExpiry
  /-- R67: the read trigger point of the entry with this tag. -/
  | readTriggerPoint (tag : Tag)
  /-- R44: the platform entry point. -/
  | platformEntryPoint (tag : Tag)
  /-- R45: the settle point. -/
  | settlePoint (tag : Tag)
  /-- R46: the end point. -/
  | endPoint (tag : Tag)
  /-- R47: the exit point. -/
  | exitPoint (tag : Tag)
  /-- R108: the decision point. -/
  | decisionPoint (tag : Tag)
  /-- R114: the gate point. -/
  | gatePoint (tag : Tag)
  /-- R115: the gate pulse timer expires. -/
  | gatePulseExpiry
  /-- R116: the oldest recognised confirm arrival is taken. -/
  | confirmArrival
  /-- R118: the confirm window close. -/
  | confirmWindowClose (tag : Tag)
  /-- R34: a complete converter sample, signed 24 bits, with its overrange flag. -/
  | sampleArrival (value : BitVec 24) (overrange : Bool)
  /-- R35: the sample gap timer expires. -/
  | sampleGapExpiry
  /-- R190: an EXC_MON conversion completes with this code. -/
  | excitationConversion (code : BitVec 10)
  /-- R122: the level of a readiness input after a change. -/
  | readinessInputChange (input : ReadinessInput) (level : Bool)
  /-- R123: a readiness input has held its new level for 10 ms. -/
  | readinessConditionedChange (input : ReadinessInput)
  /-- R147: a frame completes at LOOP_IN; every byte received between two idle intervals. -/
  | frameCompletion (bytes : List Byte)
  /-- R160: the sending of a frame on LOOP_OUT ends. -/
  | transmissionEnd
  /-- R158: the idle interval after a transmission ends. -/
  | portFree
  | readState
  | readCounters
  | clearCounters
  | readPlatform
  | readValve
  | writeSetup
  | readSetup
  | writePassEntry
  | readPassEntry
  | writeRecipe
  | readRecipe
  | verifyRecipe
  /-- R136: the verification operation completes. -/
  | verificationComplete
  | discardRecipe
  | changeover
  | stopProduct
  | startTracking
  | stopTracking
  | flushTracking
  | setDate
  | zeroNow
  | setValveMode
  | clearLineStop
  | holdBlock
  | releaseBlock
  | calWrite
  /-- R186: the store write of a CAL_WRITE completes. -/
  | calWriteComplete
  | calLock
  /-- R187: the store write of a CAL_LOCK completes. -/
  | calLockComplete
  | calClear
  /-- R187: the store write of a CAL_CLEAR completes. -/
  | calClearComplete
  | readCal
  | resetPart
  /-- R168: the request at the head of the queue has a code that names no request. -/
  | unknownRequestCode
  deriving DecidableEq, Repr

end Sys2Proof
end

