-- ==== Sys2Proof/Decode.lean ====
section
/-!
DEFINITION. The command a word spells by the table's bits. No row of spec/opcode_table.json gives
bits ("fields" is empty in all 63 rows and none has "fixed"), so no word spells a command.
-/

namespace Sys2Proof

/-- The command spelled by the low `nbits` bits of `w`: none, whatever the word. -/
def decodeTableWord (_nbits _w : Nat) : Option Instr := none

end Sys2Proof
end

