-- ==== Sys2Proof/Config.lean ====
section
/-!
DEFINITION. The free values: what spec/ leaves open and the part goes on with. Each is an opaque
constant with no body, applied to State's counter of draws, so nothing can be proved of its value.
-/

namespace Sys2Proof.Config

/-- The time left, in ms, on a running gate pulse timer when READ_STATE reads it (05 R125): the model
has no clock. It is used cut down to the loaded pulse. Log 8. -/
opaque gateTimeLeft : Nat → Nat

/-- Whether a store write cut by a reset had touched the record (09 R188). Log 9. -/
opaque cutTouchedRecord : Nat → Bool

/-- What a partly written record holds (09 R188): span, capacity, calibration zero, lock flag. Log 9. -/
opaque tornSpan : Nat → Nat
/-- See `tornSpan`. -/
opaque tornCapacity : Nat → Nat
/-- See `tornSpan`. -/
opaque tornZero : Nat → Int
/-- See `tornSpan`. -/
opaque tornLock : Nat → Bool

/-- Whether, of one frame both handed to an intake and forwarded, the forwarding is taken first
(07 R152, R153; R158 leaves the order of two joins open). Log 11. -/
opaque forwardFirst : Nat → Bool

end Sys2Proof.Config
end

