-- ==== Sys2Proof/Machine/Arith.lean ====
section
/-!
DEFINITION. The part's arithmetic: rounding, saturation, positions, byte order and the frame CRC.
-/

namespace Sys2Proof.Machine

/-- A division rounded half away from zero (00_scope.md, Conventions, Rounding); `b` is positive. -/
def roundDiv (a : Int) (b : Nat) : Int :=
  if a < 0 then -(((2 * a.natAbs + b) / (2 * b) : Nat) : Int)
  else (((2 * a.natAbs + b) / (2 * b) : Nat) : Int)

/-- `x` brought into `lo` to `hi`. -/
def clampInt (lo hi x : Int) : Int := if x < lo then lo else if hi < x then hi else x

/-- One increment of a 32-bit saturating counter (00_scope.md, Conventions, Counters). -/
def satInc (c : Count) : Count := if c = BitVec.allOnes 32 then c else c + 1

/-- Position `a` is at or after position `b` (01 R11). -/
def atOrAfter (a b : Pos) : Bool := decide ((a - b).toNat < 2 ^ 31)

/-- A distance in counts as a position difference, modulo 2^32 (01 R11). -/
def dist (n : Nat) : Pos := BitVec.ofNat 32 n

/-- Position `x` lies in the closed interval from `lo` to `hi` (01 R4, 05 R116). -/
def within (lo hi x : Pos) : Bool := atOrAfter x lo && atOrAfter hi x

/-- `v` in `size` bytes, most significant byte first (00_scope.md, Byte order). -/
def bytesBE : Nat → Nat → List Byte
  | 0, _ => []
  | n + 1, v => BitVec.ofNat 8 (v / 256 ^ n) :: bytesBE n v

/-- A signed `v` in `size` bytes, two's complement (10 R195). -/
def signedBE (size : Nat) (v : Int) : List Byte := bytesBE size (v % (256 ^ size : Nat)).toNat

/-- The number that bytes spell, most significant first. -/
def natOfBytes (bs : List Byte) : Nat := bs.foldl (fun n b => n * 256 + b.toNat) 0

/-- The signed number of `bits` bits that `n` spells in two's complement (10 R195). -/
def signedOf (bits n : Nat) : Int :=
  if n < 2 ^ (bits - 1) then (n : Int) else (n : Int) - (2 ^ bits : Nat)

/-- A yes or no in one byte (log 13). -/
def boolByte (b : Bool) : Byte := if b then 1 else 0

/-- One shift of the CRC register (10, The loop frame): left by one, and combined with 1021h when the
bit shifted out is 1. -/
def crcShift (reg : Word16) : Word16 :=
  if reg.msb then (reg <<< 1) ^^^ 0x1021#16 else reg <<< 1

/-- One byte into the CRC register. -/
def crcByte (reg : Word16) (b : Byte) : Word16 :=
  crcShift (crcShift (crcShift (crcShift (crcShift (crcShift (crcShift (crcShift
    (reg ^^^ (b ++ 0#8)))))))))

/-- The CRC of header and payload bytes: polynomial 1021h from FFFFh (07 R146). -/
def crc16 (bytes : List Byte) : Word16 := bytes.foldl crcByte 0xFFFF#16

end Sys2Proof.Machine
end

