-- ==== Sys2Proof/Machine/State.lean ====
section
/-!
DEFINITION. The state of the part as plain data, block by block, and its value right after the
assertion of a power-on reset. Each field names the rule of spec/ that gives it.
-/

namespace Sys2Proof.Machine

/-- The reasons a command could stop with a fault: none. The part has no state in which it stops and
no exception entry; every error of the spec is a counter, a status, a line-stop cause or a notice. -/
inductive Fault where
  deriving DecidableEq, Repr

/-- The reasons a command could be refused. -/
inductive Refusal where
  /-- Raised by an arm of `exec` whose command has no meaning yet; safe. No arm raises it: every
  command has its meaning. -/
  | notModelled (mnemonic : String)
  deriving DecidableEq, Repr

/-! ## Pins -/

/-- The levels of the input lines that are watched by level (01 R8, R21; 05 R122). -/
structure Pins where
  encA : Bool
  encB : Bool
  eyeIn : Bool
  eyeConf : Bool
  binFull : Bool
  airOk : Bool
  deriving DecidableEq, Repr

/-! ## Supervisor (09) -/

/-- Where the part stands in reset and start-up (R181, R183). -/
inductive Phase where
  /-- A power-on or pin reset is asserted. -/
  | asserted
  /-- Start-up step 2: the calibration store is being read. -/
  | readingStore
  /-- Start-up step 3: the bypass ends at the next idle interval on LOOP_IN. -/
  | endingBypass
  /-- Start-up has completed. -/
  | running
  deriving DecidableEq, Repr

/-- R181, in the order of R181's table. -/
inductive ResetCause where
  | powerOn
  | pin
  | loopCommand
  deriving DecidableEq, Repr

/-- The record of the calibration store (R184). -/
structure CalRecord where
  span : Nat
  capacity : Nat
  zero : Int
  locked : Bool
  deriving DecidableEq, Repr

/-- The calibration store: the record, whether its check word agrees with it (R184, log 10), and the
audit counter beside it (R185). -/
structure CalStore where
  record : CalRecord
  checkAgrees : Bool
  audit : Count
  deriving DecidableEq, Repr

/-- R184's calibration states. -/
inductive CalState where
  | invalid
  | opened
  | locked
  deriving DecidableEq, Repr

/-- R190. -/
inductive ExcState where
  | normal
  | warn
  | halt
  deriving DecidableEq, Repr

/-- R191, numbered by the table of R195. -/
inductive LineStopCause where
  | rejectFailed
  | rejectOverflow
  | untrackedCan
  | trackSlip
  | conveyorReversed
  | binFull
  | airLow
  | readerFault
  | excitationHalt
  deriving DecidableEq, Repr

/-- One readiness input (05 R122): its conditioned level as active or inactive, and whether the 10 ms
of a new level are running. -/
structure Readiness where
  active : Bool
  timing : Bool
  deriving DecidableEq, Repr

/-- The Supervisor's state. -/
structure Sup where
  phase : Phase
  resetCause : ResetCause
  address : BitVec 6
  calwe : Bool
  store : CalStore
  storeValid : Bool
  exc : ExcState
  excCode : Option (BitVec 10)
  lineStop : BitVec 9
  holdWge : Bool
  holdCck : Bool
  holdDrg : Bool
  binFull : Readiness
  airOk : Readiness
  deriving DecidableEq, Repr

/-! ## Loop Interface (07) -/

/-- A frame with every field of R146. -/
structure Frame where
  dest : Byte
  source : Byte
  kind : Byte
  hop : Byte
  seq : Word16
  len : Byte
  payload : List Byte
  crc : Word16
  deriving DecidableEq, Repr

/-- A frame waiting in a transmit queue (R156). -/
inductive Queued where
  /-- A frame the part generates; the rest of its header is set when its transmission starts (R157).
  `resets` marks the OK reply to RESET_PART (R160). -/
  | own (dest kind : Byte) (payload : List Byte) (resets : Bool)
  /-- A frame of another station, ready to be sent as it stands (R155). -/
  | passing (frame : Frame)
  deriving DecidableEq, Repr

/-- R156, in the order of R158. -/
inductive TxClass where
  | trigger
  | forward
  | trim
  | reply
  | notice
  | result
  deriving DecidableEq, Repr

/-- The transmit port (R158): FREE, or BUSY while a frame is sent and in the idle interval after it. -/
inductive Port where
  | free
  | sending (cls : TxClass) (frame : Frame) (generated resets : Bool)
  | idleGap (cls : TxClass)
  deriving DecidableEq, Repr

/-- R149, numbered by R195. -/
inductive Intake where
  | nothing
  | discharge
  | code
  deriving DecidableEq, Repr

/-- A pass-table entry in use (R149). -/
structure PassEntry where
  source : Byte
  kind : Byte
  intake : Intake
  forward : Bool
  deriving DecidableEq, Repr

/-- The Loop Interface's state; a free pass-table entry is `none`. -/
structure Lif where
  pass : Vector (Option PassEntry) 16
  trigger : List Queued
  forward : List Queued
  trim : List Queued
  reply : List Queued
  notice : List Queued
  result : List Queued
  port : Port
  seq : Word16
  deriving DecidableEq, Repr

/-! ## Management Agent (08) -/

/-- The two recipe slots (06 R126). -/
inductive SlotId where
  | s0
  | s1
  deriving DecidableEq, Repr

/-- A queued management request (R165). -/
structure Request where
  source : Byte
  code : Byte
  tag : Byte
  args : List Byte
  deriving DecidableEq, Repr

/-- The operations that take time (R166); a store write holds the record it writes. -/
inductive Operation where
  | verify (slot : SlotId)
  | calWrite (record : CalRecord)
  | calLock (record : CalRecord)
  | calClear (record : CalRecord)
  deriving DecidableEq, Repr

/-- A request in service whose reply is held (R166). -/
structure Service where
  request : Request
  operation : Operation
  deriving DecidableEq, Repr

/-- The Management Agent's state; the setup image stands in `State.setup`. -/
structure Mga where
  requests : List Request
  service : Option Service
  /-- The wait of the request at the head has been counted (R166, log 14). -/
  waitCounted : Bool
  /-- RESET_PART has been answered and no further request is begun (R166). -/
  closed : Bool
  noticeNumber : Byte
  dropCount : Byte
  deriving DecidableEq, Repr

/-! ## Can Tracker (01) -/

/-- R12. -/
inductive RunState where
  | stopped
  | running
  deriving DecidableEq, Repr

/-- R3. -/
inductive Origin where
  | filled
  | stray
  deriving DecidableEq, Repr

/-- R6. -/
inductive Stage where
  | enRoute
  | weighing
  | awaitingDecision
  | decided
  | awaitingConfirm
  deriving DecidableEq, Repr

/-- R7, numbered by R195. -/
inductive ExitOutcome where
  | missing
  | flushed
  | confirmedAccept
  | rejectFailed
  | lostAfterDecision
  | rejectConfirmed
  | unconfirmedAccept
  | unconfirmedReject
  deriving DecidableEq, Repr

/-- 02 R50, R51. -/
inductive WeighStatus where
  | ok
  | suspect
  | notWeighed
  deriving DecidableEq, Repr

/-- 02 R50, R51, numbered from 1 by R195. -/
inductive WeighReason where
  | engineHeld
  | noCalibration
  | noRecipe
  | noSamples
  | excitationHalt
  | doubleOnPlatform
  | overrange
  | shortWindow
  | unstable
  | overload
  | underload
  | excitationWarn
  | zeroLost
  deriving DecidableEq, Repr

/-- 02 R54. -/
inductive Zone where
  | grossUnder
  | under
  | good
  | over
  | grossOver
  deriving DecidableEq, Repr

/-- A weigh result (02 R51); weights in mg. -/
structure WeighResult where
  status : WeighStatus
  reason : Option WeighReason
  gross : Option Int
  net : Option Int
  zone : Option Zone
  deriving DecidableEq, Repr

/-- 03 R66. -/
inductive CodeState where
  | notRequested
  | requested
  | result
  deriving DecidableEq, Repr

/-- 03 R66. -/
inductive CodeClass where
  | isMatch
  | mismatch
  | lowGrade
  | noRead
  | noResult
  | notChecked
  deriving DecidableEq, Repr

/-- 03 R66: a character index, or why the date did not resolve. -/
inductive MismatchDetail where
  | index (i : Nat)
  | staleDate
  | noDate
  deriving DecidableEq, Repr

/-- A code result (03 R66). -/
structure CodeResult where
  cls : CodeClass
  grade : Option Nat
  text : Option (List Byte)
  detail : Option MismatchDetail
  deriving DecidableEq, Repr

/-- 05 R109, numbered by the table of R195. -/
inductive RejectCause where
  | grossUnder
  | under
  | over
  | grossOver
  | notWeighed
  | suspect
  | codeMismatch
  | codeLowGrade
  | codeNoRead
  | codeNoResult
  | stray
  | noRecipe
  deriving DecidableEq, Repr

/-- 05 R108 and R110, numbered in the order R108 names them (log 35). -/
inductive Decision where
  | accept
  | reject
  deriving DecidableEq, Repr

/-- A tracking entry (R3, R4, R5, R6; 05 R112). Sets of reject causes are masks (10 R195). -/
structure Entry where
  tag : Tag
  origin : Origin
  valve : Option Nat
  serial : Option Word16
  epoch : Option Byte
  slot : Option SlotId
  dateGen : Byte
  dischargePos : Option Pos
  expectedPos : Option Pos
  infeedPos : Option Pos
  stage : Stage
  weigh : Option WeighResult
  codeState : CodeState
  code : Option CodeResult
  causes : BitVec 12
  selected : BitVec 12
  decision : Option Decision
  unfired : Bool
  stale : Bool
  offered : Bool
  exit : Option ExitOutcome
  deriving DecidableEq, Repr

/-- R21. -/
inductive EyeState where
  | clear
  | pending
  | taken
  deriving DecidableEq, Repr

/-- An eye monitor (R21). -/
structure EyeMonitor where
  state : EyeState
  latched : Pos
  deriving DecidableEq, Repr

/-- The position points of R29, in the table's order. -/
inductive Point where
  | readTrigger
  | platformEntry
  | settle
  | endOfWindow
  | exit
  | decision
  | gate
  | confirmClose
  deriving DecidableEq, Repr

/-- A position point that has been reached and not yet taken (R30, log 6). -/
structure PointDue where
  tag : Tag
  point : Point
  deriving DecidableEq, Repr

/-- The Can Tracker's state; the queue's head is downstream (R1). -/
structure Ctr where
  run : RunState
  queue : List Entry
  generations : Vector Byte 256
  position : Pos
  debt : Nat
  slipRun : Nat
  infeed : EyeMonitor
  confirm : EyeMonitor
  /-- Latched positions of infeed arrivals recognised and not yet taken, oldest first (log 6). -/
  infeedDue : List Pos
  /-- The same for the confirm eye. -/
  confirmDue : List Pos
  /-- Points reached at the present position and not yet taken (log 6). -/
  pointsDue : List PointDue
  deriving DecidableEq, Repr

/-! ## Weigh Engine (02) -/

/-- R34. -/
inductive SampleState where
  | samplesOk
  | sampleLoss
  deriving DecidableEq, Repr

/-- R57. -/
inductive ZeroState where
  | tracking
  | lost
  deriving DecidableEq, Repr

/-- R41. -/
inductive PlatformState where
  | approaching
  | onPlatform
  deriving DecidableEq, Repr

/-- R41. -/
inductive WindowState where
  | waiting
  | opened
  | closed
  deriving DecidableEq, Repr

/-- A value on the signal path with its overrange flag (R34, R37). -/
structure FlaggedValue where
  value : Int
  overrange : Bool
  deriving DecidableEq, Repr

/-- One filtered output (R38). -/
structure Output where
  value : Int
  overrange : Bool
  exc : ExcState
  deriving DecidableEq, Repr

/-- A window accumulator (R49). -/
structure Accumulator where
  sum : Int
  count : Count
  minimum : Option Int
  maximum : Option Int
  overrange : Bool
  warn : Bool
  halt : Bool
  double : Bool
  noSamples : Bool
  deriving DecidableEq, Repr

/-- An occupancy record (R41). -/
structure Occupancy where
  tag : Tag
  platform : PlatformState
  window : WindowState
  acc : Accumulator
  deriving DecidableEq, Repr

/-- The Weigh Engine's state. A timer is `none` when stopped, else the time it was loaded with, ms. -/
structure Wge where
  sampleState : SampleState
  gapTimer : Option Nat
  decSum : Int
  decCount : Nat
  decFlag : Bool
  history : List FlaggedValue
  output : Option Output
  records : List Occupancy
  emptySum : Int
  emptyCount : Nat
  zero : Int
  zeroState : ZeroState
  driftRun : Nat
  captureArmed : Bool
  span : Nat
  capacity : Nat
  calZero : Int
  deriving DecidableEq, Repr

/-! ## Code Checker (03) -/

/-- The Code Checker's state (R77, R79). -/
structure Cck where
  current : Option (List Byte)
  previous : Option (List Byte)
  generation : Byte
  faultRun : Nat
  deriving DecidableEq, Repr

/-! ## Dose Regulator (04) -/

/-- R84. -/
inductive ValveMode where
  | included
  | excluded
  deriving DecidableEq, Repr

/-- R84. -/
inductive ValveState where
  | collecting
  | awaitingConfirm
  | unconfirmed
  deriving DecidableEq, Repr

/-- A valve record (R84). -/
structure Valve where
  mode : ValveMode
  state : ValveState
  erratic : Bool
  saturated : Bool
  trim : Int
  epoch : Byte
  sends : Nat
  mismatchRun : Nat
  sum : Int
  n : Nat
  satRun : Nat
  recent : List Int
  weighed : Count
  rejected : Count
  missing : Count
  stale : Count
  deriving DecidableEq, Repr

/-- The Dose Regulator's state. -/
structure Drg where
  valves : Vector Valve 96
  deriving DecidableEq, Repr

/-! ## Gate Controller (05) -/

/-- A reject queue item (R111). -/
structure RejectItem where
  tag : Tag
  fire : Pos
  deriving DecidableEq, Repr

/-- The Gate Controller's state. -/
structure Gtc where
  rejects : List RejectItem
  gateTimer : Option Nat
  resultNumber : Word16
  deriving DecidableEq, Repr

/-! ## Recipe Store (06) -/

/-- R126, numbered by R195. -/
inductive SlotState where
  | empty
  | loading
  | verifying
  | verified
  | faulted
  | active
  | draining
  deriving DecidableEq, Repr

/-- R131, numbered from 1 by R195. -/
inductive FaultReason where
  | checkWord
  | fieldRange
  | limitOrder
  | windowOrder
  | pattern
  | windowVsSetup
  | capacity
  deriving DecidableEq, Repr

/-- A slot's fault: the reason and the word index of the first offending field (R126). -/
structure SlotFault where
  reason : FaultReason
  index : Nat
  deriving DecidableEq, Repr

/-- A recipe image (R126). -/
abbrev Image := Vector Word16 256

/-- A slot record (R126). -/
structure Slot where
  state : SlotState
  image : Image
  refs : Nat
  fault : Option SlotFault
  deriving DecidableEq, Repr

/-- The Recipe Store's state. -/
structure Rcs where
  slot0 : Slot
  slot1 : Slot
  deriving DecidableEq, Repr

/-! ## Counters (08, Counters) -/

/-- The nine blocks and counter groups, numbered by R195. -/
inductive Block where
  | lif
  | mga
  | ctr
  | wge
  | cck
  | drg
  | gtc
  | rcs
  | sup
  deriving DecidableEq, Repr

/-- Every counter of the nine groups, group by group and in the order of each block's counter table. -/
inductive Counter where
  -- LIF (R163)
  | rxFrames | rxLengthErrors | rxCrcErrors | rxBadSource | rxOwnReturned | rxNoDestination
  | rxHopExpired | takenManagement | takenDischarge | takenCode | intakeMalformed | unclaimed
  | notForwarded | forwarded | forwardOverflow | hopExhausted | txFrames | txGenerated
  -- MGA (R173)
  | requestsTaken | mgmtMalformed | mgmtForeign | mgmtOverrun | replyWaits | repliesOk
  | repliesRefused | setupWrites | noticesQueued | noticesDropped | noticeNoStation
  -- CTR (R31)
  | discharges | dischargesStopped | trackOverflow | badValve | arrivals | infeedStopped
  | confirmStopped | infeedSplashes | confirmSplashes | paired | strays | untracked | missing
  | flushed | slipEvents | reversalFaults | encoderErrors
  -- WGE (R64)
  | resultsOk | resultsSuspect | resultsNotWeighed | platformCrowded | sampleLosses | zeroUpdates
  | zeroOutOfBand | zeroAbandoned | zeroCaptures
  -- CCK (R82)
  | triggers | triggerOverflow | triggerNoStation | codeReplies | codeHeld | codeMalformed
  | unknownTag | duplicate | late | unsolicited | codeDeadlines | codeMatch | codeMismatch
  | codeLowGrade | codeNoRead | codeNoResult | codeNotChecked | readerFaults | dateSets
  -- DRG (R106)
  | epochMatches | epochMismatches | offersTaken | offersHeld | offersOtherSlot | offersUnfit
  | offersExcluded | offersStale | offersSuperseded | evaluations | evalSuppressed | evalDeadband
  | evalUnchanged | trimChanges | trimsQueued | trimResends | trimClears | trimOverflow
  | trimNoStation | valveAlerts
  -- GTC (R124)
  | decisionsAccept | decisionsReject | rejectOverflows | gateFires | gateExtensions
  | unfiredAtGate | confirmedAccept | rejectFailed | lostAfterDecision | rejectConfirmed
  | unconfirmedAccept | unconfirmedReject | unexpectedAtExit | confirmDisabled | resultsQueued
  | resultOverflow | resultNoStation | binFullEvents | airLowEvents
  -- RCS (R145)
  | recipeWrites | verifyPasses | verifyFaults | changeovers | changeoverConflicts | productStops
  | slotRetirements
  -- SUP (R194)
  | excitationChanges | lineStopAdds | lineStopClears | lineStopKept | holds | releases
  | calOperations
  deriving DecidableEq, Repr

/-! ## The whole part -/

/-- The setup image (08 R169). -/
abbrev SetupImage := Vector Byte 128

/-- The state of the part. -/
structure State where
  /-- Commands waiting, first in first out (the model's own). -/
  pending : List Instr
  pins : Pins
  sup : Sup
  lif : Lif
  mga : Mga
  setup : SetupImage
  ctr : Ctr
  wge : Wge
  cck : Cck
  drg : Drg
  gtc : Gtc
  rcs : Rcs
  counters : Vector Count 127
  /-- How many free values have been drawn (the model's own; Config.lean). -/
  freeCount : Nat
  deriving DecidableEq, Repr

/-! ## Reset values -/

/-- The setup image's defaults (08 R169; the byte positions in 10, Setup image). -/
def SetupImage.defaults : SetupImage :=
  (Vector.replicate 128 0#8 |>.set 3 0x3F |>.set 27 3 |>.set 28 4 |>.set 29 8 |>.set 30 0x10
    |>.set 33 4 |>.set 34 3 |>.set 35 5 |>.set 36 0x01 |>.set 37 0xD6 |>.set 38 0x01 |>.set 39 0xAE
    |>.set 40 1 |>.set 41 0x28 |>.set 45 5 |>.set 48 4 |>.set 49 0x3F)

/-- The figures a start-up treats an INVALID store as holding (09 R184). -/
def CalRecord.treated : CalRecord := { span := 0, capacity := 1000, zero := 0, locked := false }

/-- 07 R164. -/
def Lif.reset : Lif :=
  { pass := Vector.replicate 16 none, trigger := [], forward := [], trim := [], reply := [],
    notice := [], result := [], port := .free, seq := 0 }

/-- 08 R180. -/
def Mga.reset : Mga :=
  { requests := [], service := none, waitCounted := false, closed := false, noticeNumber := 0,
    dropCount := 0 }

/-- 01 R33; a latched position in EYE_CLEAR has no meaning and is 0 (log 5). -/
def EyeMonitor.reset : EyeMonitor := { state := .clear, latched := 0 }

/-- 01 R33. -/
def Ctr.reset : Ctr :=
  { run := .stopped, queue := [], generations := Vector.replicate 256 0, position := 0, debt := 0,
    slipRun := 0, infeed := EyeMonitor.reset, confirm := EyeMonitor.reset, infeedDue := [],
    confirmDue := [], pointsDue := [] }

/-- 02 R65; the calibration copies are taken at the start-up read and stand at the treated figures
until then (log 19). -/
def Wge.reset : Wge :=
  { sampleState := .sampleLoss, gapTimer := none, decSum := 0, decCount := 0, decFlag := false,
    history := [], output := none, records := [], emptySum := 0, emptyCount := 0, zero := 0,
    zeroState := .tracking, driftRun := 0, captureArmed := false, span := CalRecord.treated.span,
    capacity := CalRecord.treated.capacity, calZero := CalRecord.treated.zero }

/-- 03 R83. -/
def Cck.reset : Cck := { current := none, previous := none, generation := 0, faultRun := 0 }

/-- 04 R84. -/
def Valve.reset : Valve :=
  { mode := .included, state := .collecting, erratic := false, saturated := false, trim := 0,
    epoch := 0, sends := 0, mismatchRun := 0, sum := 0, n := 0, satRun := 0, recent := [],
    weighed := 0, rejected := 0, missing := 0, stale := 0 }

/-- 04 R107. -/
def Drg.reset : Drg := { valves := Vector.replicate 96 Valve.reset }

/-- 05 R125. -/
def Gtc.reset : Gtc := { rejects := [], gateTimer := none, resultNumber := 0 }

/-- 06 R126. -/
def Slot.reset : Slot :=
  { state := .empty, image := Vector.replicate 256 0, refs := 0, fault := none }

/-- 06 R126. -/
def Rcs.reset : Rcs := { slot0 := Slot.reset, slot1 := Slot.reset }

/-- The Supervisor as every reset leaves it (09 R194), with the reset's cause, the phase it leaves, the
latches and the store it keeps; the store's validity is decided at the start-up read (log 19). -/
def Sup.afterReset (cause : ResetCause) (phase : Phase) (address : BitVec 6) (calwe : Bool)
    (store : CalStore) : Sup :=
  { phase := phase, resetCause := cause, address := address, calwe := calwe, store := store,
    storeValid := false, exc := .normal, excCode := none, lineStop := 0, holdWge := false,
    holdCck := false, holdDrg := false, binFull := { active := false, timing := false },
    airOk := { active := true, timing := false } }

/-- A store new from the factory reads INVALID and has audit counter 0 (09 R184, R185); the figures in
its record are the model's (log 4). -/
def CalStore.factory : CalStore :=
  { record := CalRecord.treated, checkAgrees := false, audit := 0 }

/-- The machine right after the assertion of its first power-on reset (09 R181; log 3, 5). -/
def State.reset : State :=
  { pending := []
    pins := { encA := false, encB := false, eyeIn := false, eyeConf := false, binFull := false,
              airOk := false }
    sup := Sup.afterReset .powerOn .asserted 0 false CalStore.factory
    lif := Lif.reset
    mga := Mga.reset
    setup := SetupImage.defaults
    ctr := Ctr.reset
    wge := Wge.reset
    cck := Cck.reset
    drg := Drg.reset
    gtc := Gtc.reset
    rcs := Rcs.reset
    counters := Vector.replicate 127 0
    freeCount := 0 }

end Sys2Proof.Machine
end

