-- ==== Sys2Proof/Machine/Operands.lean ====
section
/-!
DEFINITION. How operands are read: the fields of the setup image and of a recipe image, the bytes of a
frame, and the codes of the enumerations (10 R195).
-/

namespace Sys2Proof.Machine

/-! ## Codes of the enumerations (10 R195) -/

/-- A management status (08 R168), numbered by R195. -/
inductive Status where
  | ok
  | badRequest
  | badArgument
  | trackingRunning
  | slotState
  | changeoverBusy
  | recipeConflict
  | setupInconsistent
  | calLocked
  | calWriteDisabled
  | notHoldable
  deriving DecidableEq, Repr

/-- The reason of a VALVE_ALERT (04 R88, R93, R97), numbered by 10, Notices. -/
inductive AlertReason where
  | unconfirmed
  | erratic
  | saturated
  deriving DecidableEq, Repr

/-- The moment a draining slot retires (06 R142), numbered by 10, Notices. -/
inductive DrainMoment where
  | atDrain
  | lastEntry
  | flush
  deriving DecidableEq, Repr

def Status.toByte (x : Status) : Byte := BitVec.ofNat 8 x.ctorIdx
def AlertReason.toByte (x : AlertReason) : Byte := BitVec.ofNat 8 x.ctorIdx
def DrainMoment.toByte (x : DrainMoment) : Byte := BitVec.ofNat 8 x.ctorIdx
def ResetCause.toByte (x : ResetCause) : Byte := BitVec.ofNat 8 x.ctorIdx
def CalState.toByte (x : CalState) : Byte := BitVec.ofNat 8 x.ctorIdx
def ExcState.toByte (x : ExcState) : Byte := BitVec.ofNat 8 x.ctorIdx
def LineStopCause.toByte (x : LineStopCause) : Byte := BitVec.ofNat 8 x.ctorIdx
def Intake.toByte (x : Intake) : Byte := BitVec.ofNat 8 x.ctorIdx
def RunState.toByte (x : RunState) : Byte := BitVec.ofNat 8 x.ctorIdx
def Origin.toByte (x : Origin) : Byte := BitVec.ofNat 8 x.ctorIdx
def Stage.toByte (x : Stage) : Byte := BitVec.ofNat 8 x.ctorIdx
def ExitOutcome.toByte (x : ExitOutcome) : Byte := BitVec.ofNat 8 x.ctorIdx
def WeighStatus.toByte (x : WeighStatus) : Byte := BitVec.ofNat 8 x.ctorIdx
/-- Weigh reasons are numbered from 1. -/
def WeighReason.toByte (x : WeighReason) : Byte := BitVec.ofNat 8 (x.ctorIdx + 1)
def Zone.toByte (x : Zone) : Byte := BitVec.ofNat 8 x.ctorIdx
def CodeClass.toByte (x : CodeClass) : Byte := BitVec.ofNat 8 x.ctorIdx
def Decision.toByte (x : Decision) : Byte := BitVec.ofNat 8 x.ctorIdx
def EyeState.toByte (x : EyeState) : Byte := BitVec.ofNat 8 x.ctorIdx
def SampleState.toByte (x : SampleState) : Byte := BitVec.ofNat 8 x.ctorIdx
def ZeroState.toByte (x : ZeroState) : Byte := BitVec.ofNat 8 x.ctorIdx
def PlatformState.toByte (x : PlatformState) : Byte := BitVec.ofNat 8 x.ctorIdx
def WindowState.toByte (x : WindowState) : Byte := BitVec.ofNat 8 x.ctorIdx
def ValveMode.toByte (x : ValveMode) : Byte := BitVec.ofNat 8 x.ctorIdx
def ValveState.toByte (x : ValveState) : Byte := BitVec.ofNat 8 x.ctorIdx
def SlotState.toByte (x : SlotState) : Byte := BitVec.ofNat 8 x.ctorIdx
/-- Fault reasons are numbered from 1. -/
def FaultReason.toByte (x : FaultReason) : Byte := BitVec.ofNat 8 (x.ctorIdx + 1)

/-- Index 0 to 32; STALE_DATE is 80h, NO_DATE 81h. -/
def MismatchDetail.toByte : MismatchDetail → Byte
  | .index i => BitVec.ofNat 8 i
  | .staleDate => 0x80
  | .noDate => 0x81

/-- 0, 1; NONE is FFh. -/
def slotByte : Option SlotId → Byte
  | some .s0 => 0
  | some .s1 => 1
  | none => 0xFF

/-- NONE is 0 and the six classes follow (10 R195). -/
def txClassByte : Option TxClass → Byte
  | none => 0
  | some c => BitVec.ofNat 8 (c.ctorIdx + 1)

/-- The class an elevation byte names. -/
def txClassOf (n : Nat) : Option TxClass :=
  [TxClass.trigger, .forward, .trim, .reply, .notice, .result][n - 1]?.filter fun _ => 0 < n

/-- The slot a slot byte names in a request. -/
def slotOf (b : Byte) : Option SlotId :=
  if b = 0 then some .s0 else if b = 1 then some .s1 else none

/-- The group or block a byte names. -/
def blockOf (b : Byte) : Option Block :=
  [Block.lif, .mga, .ctr, .wge, .cck, .drg, .gtc, .rcs, .sup][b.toNat]?

/-- OFF and ON, NO and YES, FREE and IN_USE: 0 and 1. -/
def flagOf (b : Byte) : Option Bool :=
  if b = 0 then some false else if b = 1 then some true else none

/-- The intake a byte of a pass entry names. -/
def intakeOf (b : Byte) : Option Intake :=
  if b = 0 then some .nothing else if b = 1 then some .discharge
  else if b = 2 then some .code else none

/-- The valve mode a byte names. -/
def valveModeOf (b : Byte) : Option ValveMode :=
  if b = 0 then some .included else if b = 1 then some .excluded else none

/-- A printable character: 20h to 7Eh. -/
def printable (b : Byte) : Bool := decide (0x20 ≤ b.toNat) && decide (b.toNat ≤ 0x7E)

/-! ## The setup record (08 R169; positions in 10, Setup image) -/

/-- The number in `size` bytes of the setup image from `off` on. -/
def setupNum (img : SetupImage) (off size : Nat) : Nat :=
  natOfBytes ((img.toList.drop off).take size)

/-- One byte of the setup image. -/
def setupByte (img : SetupImage) (off : Nat) : Byte := img.toList.getD off 0

/-- A field of the setup record: its place, whether it is live, and its range. -/
structure SetupField where
  offset : Nat
  size : Nat
  live : Bool
  lo : Nat
  hi : Nat
  deriving DecidableEq, Repr

/-- The fields of the setup record in offset order (08 R169; 10, Setup image). -/
def setupFields : List SetupField :=
  [ ⟨0, 1, false, 0, 62⟩, ⟨1, 1, false, 0, 62⟩, ⟨2, 1, false, 0, 62⟩, ⟨3, 1, true, 0, 63⟩,
    ⟨4, 4, false, 0, 16000000⟩, ⟨8, 2, false, 0, 65535⟩, ⟨10, 2, false, 0, 4095⟩,
    ⟨12, 1, false, 0, 1⟩, ⟨13, 1, false, 0, 1⟩, ⟨14, 2, false, 0, 65535⟩,
    ⟨16, 2, false, 0, 65535⟩, ⟨18, 2, false, 0, 65535⟩, ⟨20, 2, false, 0, 65535⟩,
    ⟨22, 1, false, 0, 1⟩, ⟨23, 2, false, 0, 65535⟩, ⟨25, 2, false, 0, 65535⟩ ] ++
  [ ⟨27, 1, false, 1, 15⟩, ⟨28, 1, false, 1, 16⟩, ⟨29, 1, false, 1, 32⟩, ⟨30, 1, false, 1, 64⟩,
    ⟨31, 2, false, 0, 65535⟩, ⟨33, 1, false, 1, 16⟩, ⟨34, 1, false, 1, 15⟩,
    ⟨35, 1, false, 1, 50⟩, ⟨36, 2, true, 0, 1023⟩, ⟨38, 2, true, 0, 1023⟩, ⟨40, 1, true, 0, 1⟩ ] ++
  [ ⟨41, 1, false, 5, 200⟩, ⟨42, 1, false, 0, 1⟩, ⟨43, 1, false, 0, 1⟩, ⟨44, 1, true, 0, 1⟩,
    ⟨45, 1, true, 1, 15⟩, ⟨46, 1, true, 0, 1⟩, ⟨47, 1, false, 0, 96⟩, ⟨48, 1, false, 1, 15⟩,
    ⟨49, 1, false, 1, 63⟩, ⟨50, 1, true, 0, 6⟩ ]

/-- The first byte of the setup image that no field occupies (10, Setup image). -/
def setupUnassigned : Nat := 51

/-- The values the decimation may take (02 R37). -/
def decimationValues : List Nat := [1, 2, 3, 4, 6, 8, 12, 16]

/-- Whether `v` lies in a field's range (08 R169); the decimation has a list of values. -/
def SetupField.admits (f : SetupField) (v : Nat) : Bool :=
  decide (f.lo ≤ v) && decide (v ≤ f.hi) && (f.offset != 28 || decimationValues.contains v)

def State.lineController (s : State) : Byte := setupByte s.setup 0
def State.fillerStation (s : State) : Byte := setupByte s.setup 1
def State.readerStation (s : State) : Byte := setupByte s.setup 2
def State.noticeStation (s : State) : Byte := setupByte s.setup 3
def State.pathLength (s : State) : Nat := setupNum s.setup 4 4
def State.arrivalTolerance (s : State) : Nat := setupNum s.setup 8 2
def State.minBlock (s : State) : Nat := setupNum s.setup 10 2
/-- BLOCKED_HIGH is 0, BLOCKED_LOW 1. -/
def State.infeedBlockedLow (s : State) : Bool := setupNum s.setup 12 1 == 1
def State.confirmBlockedLow (s : State) : Bool := setupNum s.setup 13 1 == 1
def State.readOffset (s : State) : Nat := setupNum s.setup 14 2
def State.decisionOffset (s : State) : Nat := setupNum s.setup 16 2
def State.gatePosition (s : State) : Nat := setupNum s.setup 18 2
def State.actuatorLead (s : State) : Nat := setupNum s.setup 20 2
def State.confirmEnable (s : State) : Bool := setupNum s.setup 22 1 == 1
def State.confirmOffset (s : State) : Nat := setupNum s.setup 23 2
def State.confirmTolerance (s : State) : Nat := setupNum s.setup 25 2
def State.slipLimit (s : State) : Nat := setupNum s.setup 27 1
def State.decimation (s : State) : Nat := setupNum s.setup 28 1
def State.averageLength (s : State) : Nat := setupNum s.setup 29 1
def State.emptyWindow (s : State) : Nat := setupNum s.setup 30 1
def State.zeroBand (s : State) : Nat := setupNum s.setup 31 2
def State.zeroCoefficient (s : State) : Nat := setupNum s.setup 33 1
def State.driftLimit (s : State) : Nat := setupNum s.setup 34 1
def State.sampleGap (s : State) : Nat := setupNum s.setup 35 1
def State.warnCode (s : State) : Nat := setupNum s.setup 36 2
def State.haltCode (s : State) : Nat := setupNum s.setup 38 2
def State.excLineStop (s : State) : Bool := setupNum s.setup 40 1 == 1
def State.gatePulse (s : State) : Nat := setupNum s.setup 41 1
/-- ACTIVE_HIGH is 0, ACTIVE_LOW 1. -/
def State.binActiveLow (s : State) : Bool := setupNum s.setup 42 1 == 1
def State.airActiveLow (s : State) : Bool := setupNum s.setup 43 1 == 1
def State.resultEnable (s : State) : Bool := setupNum s.setup 44 1 == 1
def State.readerFaultLimit (s : State) : Nat := setupNum s.setup 45 1
def State.readerLineStop (s : State) : Bool := setupNum s.setup 46 1 == 1
def State.valveCount (s : State) : Nat := setupNum s.setup 47 1
def State.resendCount (s : State) : Nat := setupNum s.setup 48 1
def State.hopStart (s : State) : Byte := setupByte s.setup 49
def State.elevation (s : State) : Option TxClass := txClassOf (setupNum s.setup 50 1)

/-! ## A recipe image (06 R132; positions in 10, Recipe image) -/

/-- Word `i` of an image. -/
def Image.word (img : Image) (i : Nat) : Nat := (img.toList.getD i 0).toNat

/-- The number in words `i` and `i + 1`, most significant first. -/
def Image.pair (img : Image) (i : Nat) : Nat := img.word i * 65536 + img.word (i + 1)

def Image.recipeId (img : Image) : Nat := img.word 0
/-- 16 characters, two to a word, the first in the high byte. -/
def Image.name (img : Image) : List Byte := ((img.toList.drop 1).take 8).flatMap fun w => bytesBE 2 w.toNat
def Image.tare (img : Image) : Nat := img.pair 9
def Image.nominal (img : Image) : Nat := img.pair 11
def Image.l2 (img : Image) : Nat := img.pair 13
def Image.l1 (img : Image) : Nat := img.pair 15
def Image.h1 (img : Image) : Nat := img.pair 17
def Image.h2 (img : Image) : Nat := img.pair 19
def Image.targetOffset (img : Image) : Int := signedOf 32 (img.pair 21)
def Image.entryOffset (img : Image) : Nat := img.word 23
def Image.settleOffset (img : Image) : Nat := img.word 24
def Image.endOffset (img : Image) : Nat := img.word 25
def Image.exitOffset (img : Image) : Nat := img.word 26
def Image.stabilityLimit (img : Image) : Nat := img.pair 27
def Image.minOutputs (img : Image) : Nat := img.word 29
def Image.batch (img : Image) : Nat := img.word 30
def Image.deadBand (img : Image) : Nat := img.pair 31
def Image.gain (img : Image) : Nat := img.word 33
def Image.maxStep (img : Image) : Nat := img.pair 34
def Image.trimLimit (img : Image) : Nat := img.word 36
def Image.satCount (img : Image) : Nat := img.word 37
def Image.spreadLimit (img : Image) : Nat := img.pair 38
def Image.codeChecking (img : Image) : Bool := img.word 40 == 1
def Image.minGrade (img : Image) : Nat := img.word 41
def Image.rejectSelection (img : Image) : BitVec 12 := BitVec.ofNat 12 (img.word 42)
def Image.lotLength (img : Image) : Nat := img.word 43
/-- The lot string: one character to a word, in the low byte. -/
def Image.lot (img : Image) : List Byte :=
  ((img.toList.drop 44).take img.lotLength).map fun w => BitVec.ofNat 8 w.toNat
def Image.elementCount (img : Image) : Nat := img.word 56
/-- The pattern's element words, in list order. -/
def Image.elements (img : Image) : List Word16 := (img.toList.drop 57).take img.elementCount
/-- The target the Dose Regulator aims at (04 R86). -/
def Image.target (img : Image) : Int := img.nominal + img.targetOffset

/-- The record of a slot. -/
def Rcs.slot (r : Rcs) : SlotId → Slot
  | .s0 => r.slot0
  | .s1 => r.slot1

/-- The Recipe Store with a slot's record replaced. -/
def Rcs.setSlot (r : Rcs) (i : SlotId) (x : Slot) : Rcs :=
  match i with
  | .s0 => { r with slot0 := x }
  | .s1 => { r with slot1 := x }

/-- The image of a slot. -/
def State.image (s : State) (i : SlotId) : Image := (s.rcs.slot i).image

/-- The slot whose state is `x`, slot 0 first. -/
def State.slotIn (s : State) (x : SlotState) : Option SlotId :=
  if s.rcs.slot0.state = x then some .s0 else if s.rcs.slot1.state = x then some .s1 else none

/-- The ACTIVE slot (06 R126: at most one). -/
def State.activeSlot (s : State) : Option SlotId := s.slotIn .active

/-- The DRAINING slot (06 R126: at most one). -/
def State.drainingSlot (s : State) : Option SlotId := s.slotIn .draining

/-! ## Frames (07 R146; 10, The loop frame) -/

/-- The header bytes of a frame. -/
def Frame.header (f : Frame) : List Byte :=
  [f.dest, f.source, f.kind, f.hop] ++ bytesBE 2 f.seq.toNat ++ [f.len]

/-- The CRC that a frame's header and payload give. -/
def Frame.computedCrc (f : Frame) : Word16 := crc16 (f.header ++ f.payload)

/-- The frame with its CRC formed anew. -/
def Frame.withCrc (f : Frame) : Frame := { f with crc := f.computedCrc }

/-- Every byte of a frame in the order sent. -/
def Frame.bytes (f : Frame) : List Byte := f.header ++ f.payload ++ bytesBE 2 f.crc.toNat

/-- The frame that received bytes hold, when they pass the extent check of R147: 9 to 249 bytes, a
length field of at most 240, and as many bytes as 9 plus the length field. -/
def frameOf (bytes : List Byte) : Option Frame :=
  match bytes with
  | d :: src :: k :: h :: q1 :: q0 :: len :: rest =>
    if len.toNat ≤ 240 ∧ rest.length = len.toNat + 2 then
      some { dest := d, source := src, kind := k, hop := h, seq := q1 ++ q0, len := len,
             payload := rest.take len.toNat,
             crc := BitVec.ofNat 16 (natOfBytes (rest.drop len.toNat)) }
    else none
  | _ => none

/-- A DISCHARGE payload (10, Job frames). -/
structure Discharge where
  valve : Nat
  serial : Word16
  epoch : Byte
  recipeId : Nat
  deriving DecidableEq, Repr

/-- The DISCHARGE a payload of exactly 6 bytes holds (07 R154). -/
def dischargeOf : List Byte → Option Discharge
  | [v, s1, s0, e, r1, r0] =>
    some { valve := v.toNat, serial := s1 ++ s0, epoch := e, recipeId := (r1 ++ r0 : Word16).toNat }
  | _ => none

/-- A CODE reply (03, Code replies; 10, Job frames). -/
structure CodeReply where
  tag : Tag
  read : Bool
  grade : Option Nat
  text : List Byte
  deriving DecidableEq, Repr

/-- The CODE reply a payload holds, none when it is malformed (03 R69). -/
def codeReplyOf : List Byte → Option CodeReply
  | t1 :: t0 :: flag :: grade :: len :: text =>
    if flag.toNat ≤ 1 ∧ (grade.toNat ≤ 4 ∨ grade = 0xFF) ∧ len.toNat ≤ 32 ∧
        text.all printable ∧ text.length = len.toNat then
      some { tag := t1 ++ t0, read := flag == 0,
             grade := if grade = 0xFF then none else some grade.toNat, text := text }
    else none
  | _ => none

end Sys2Proof.Machine
end

