-- ==== Sys2Proof/Machine/Flags.lean ====
section
/-!
DEFINITION. What is computed from State and never stored: the bypass, the two outputs, the levels read
under their polarities, the calibration state, cause masks, position points and windows.
-/

namespace Sys2Proof.Machine

/-! ## Phase, bypass and outputs -/

/-- Start-up has completed, so the blocks take their events (09 R181, R183). -/
def State.taking (s : State) : Bool := s.sup.phase == .running

/-- The latched address names a single station (07 R162). -/
def State.addressed (s : State) : Bool := decide (1 ≤ s.sup.address.toNat) && decide (s.sup.address.toNat ≤ 62)

/-- LOOP_IN is joined straight to LOOP_OUT (07 R161, R162). -/
def State.bypassed (s : State) : Bool := !(s.taking && s.addressed)

/-- The part's own station as a header byte. -/
def State.ownStation (s : State) : Byte := s.sup.address.setWidth 8

/-- The GATE output (05 R115): active only while the gate pulse timer runs. -/
def State.gateActive (s : State) : Bool := s.gtc.gateTimer.isSome

/-- The LINE_STOP output (09 R191): active exactly when the cause set is non-empty. -/
def State.lineStopActive (s : State) : Bool := s.sup.lineStop != 0

/-- R181: the conditions under which the blocks act on tracked cans. -/
def State.trackingRuns (s : State) : Bool := s.ctr.run == .running

/-! ## Levels under their polarities -/

/-- The infeed eye reads blocked (01 R21). -/
def State.infeedBlocked (s : State) : Bool := s.pins.eyeIn != s.infeedBlockedLow

/-- The confirm eye reads blocked (01 R21). -/
def State.confirmBlocked (s : State) : Bool := s.pins.eyeConf != s.confirmBlockedLow

/-- BIN_FULL reads active (05 R122). -/
def State.binReads (s : State) : Bool := s.pins.binFull != s.binActiveLow

/-- AIR_OK reads active (05 R122). -/
def State.airReads (s : State) : Bool := s.pins.airOk != s.airActiveLow

/-! ## Calibration -/

/-- The record the Supervisor works with: the store's, or the treated figures while INVALID (09 R184). -/
def State.calRecord (s : State) : CalRecord :=
  if s.sup.storeValid then s.sup.store.record else CalRecord.treated

/-- The calibration state (09 R184). -/
def State.calState (s : State) : CalState :=
  if s.sup.storeValid then (if s.sup.store.record.locked then .locked else .opened) else .invalid

/-- The calibration is absent when the copied span is 0 (02 R60). -/
def State.calAbsent (s : State) : Bool := s.wge.span == 0

/-! ## Cause masks (10 R195) -/

/-- The bit of a line-stop cause. -/
def LineStopCause.bit (c : LineStopCause) : BitVec 9 := 1#9 <<< c.ctorIdx

/-- The cause is in the line-stop cause set. -/
def State.hasCause (s : State) (c : LineStopCause) : Bool := s.sup.lineStop &&& c.bit != 0

/-- The causes in the order of their bits. -/
def lineStopCauses : List LineStopCause :=
  [.rejectFailed, .rejectOverflow, .untrackedCan, .trackSlip, .conveyorReversed, .binFull, .airLow,
    .readerFault, .excitationHalt]

/-- A level cause whose condition still holds (09 R192). -/
def State.levelHolds (s : State) : LineStopCause → Bool
  | .binFull => s.sup.binFull.active
  | .airLow => !s.sup.airOk.active
  | .excitationHalt => s.sup.exc == .halt
  | _ => false

/-- The bit of a reject cause. -/
def RejectCause.bit (c : RejectCause) : BitVec 12 := 1#12 <<< c.ctorIdx

/-- The mask of a list of reject causes. -/
def causeMask (cs : List RejectCause) : BitVec 12 := cs.foldl (fun m c => m ||| c.bit) 0

/-! ## Entries -/

/-- The live entry with this tag. -/
def State.entry (s : State) (tag : Tag) : Option Entry := s.ctr.queue.find? fun e => e.tag == tag

/-- The oldest entry in stage EN_ROUTE (01 R23). -/
def State.oldestEnRoute (s : State) : Option Entry := s.ctr.queue.find? fun e => e.stage == .enRoute

/-- The expected infeed position of an entry, 0 where it is absent (no EN_ROUTE entry lacks it). -/
def Entry.expected (e : Entry) : Pos := e.expectedPos.getD 0

/-- The infeed position of an entry, 0 where it is absent (no entry past EN_ROUTE lacks it). -/
def Entry.q (e : Entry) : Pos := e.infeedPos.getD 0

/-- The lower edge of an entry's arrival window (01 R4). -/
def State.windowLow (s : State) (e : Entry) : Pos := e.expected - dist s.arrivalTolerance

/-- The expiry position of an entry (01 R4). -/
def State.expiryPos (s : State) (e : Entry) : Pos := e.expected + dist s.arrivalTolerance + 1

/-- The oldest EN_ROUTE entry when its expiry position is reached (01 R27). -/
def State.expired (s : State) : Option Entry :=
  s.oldestEnRoute.filter fun e => atOrAfter s.ctr.position (s.expiryPos e)

/-- The distance of a point from the entry's Q, modulo 2^32, when the entry has the point (01 R29). -/
def State.pointOffset (s : State) (e : Entry) : Point → Option Pos
  | .readTrigger => some (dist s.readOffset)
  | .platformEntry => e.slot.map fun i => dist (s.image i).entryOffset
  | .settle => e.slot.map fun i => dist (s.image i).settleOffset
  | .endOfWindow => e.slot.map fun i => dist (s.image i).endOffset
  | .exit => e.slot.map fun i => dist (s.image i).exitOffset
  | .decision => some (dist s.decisionOffset)
  | .gate => some (dist s.gatePosition - dist s.actuatorLead)
  | .confirmClose =>
    if s.confirmEnable then some (dist s.confirmOffset + dist s.confirmTolerance + 1) else none

/-- The points in the order of R29's table. -/
def allPoints : List Point :=
  [.readTrigger, .platformEntry, .settle, .endOfWindow, .exit, .decision, .gate, .confirmClose]

/-- The points of an entry that lie at position `x` (01 R30). -/
def State.pointsAt (s : State) (e : Entry) (x : Pos) : List Point :=
  allPoints.filter fun p => s.pointOffset e p == some (x - e.q)

/-- The gate point of an entry: its fire position (05 R111). -/
def State.firePos (s : State) (e : Entry) : Pos := e.q + dist s.gatePosition - dist s.actuatorLead

/-- The confirm window of an entry holds `y` (05, The confirm eye). -/
def State.confirmHolds (s : State) (e : Entry) (y : Pos) : Bool :=
  within (e.q + dist s.confirmOffset - dist s.confirmTolerance)
    (e.q + dist s.confirmOffset + dist s.confirmTolerance) y

/-- Insertion into a list ordered by distance, after every point at the same distance. -/
def insertPoint (x : Pos × Point) : List (Pos × Point) → List (Pos × Point)
  | [] => [x]
  | y :: ys => if x.1.toNat < y.1.toNat then x :: y :: ys else y :: insertPoint x ys

/-- The points of an entry that have gone by, in the order of their positions and, at one position, of
R29's table (01 R26). -/
def State.pointsGoneBy (s : State) (e : Entry) : List Point :=
  let have_ := allPoints.filterMap fun p => (s.pointOffset e p).map fun d => (d, p)
  let gone := have_.filter fun x => atOrAfter s.ctr.position (e.q + x.1)
  (gone.foldl (fun acc x => insertPoint x acc) []).map Prod.snd

/-! ## The tag pool (01 R2) -/

/-- The index a tag occupies. -/
def tagIndex (t : Tag) : Nat := t.toNat % 256

/-- The lowest index that no live entry holds. -/
def State.freeIndex (s : State) : Nat :=
  ((List.range 256).find? fun i => s.ctr.queue.all fun e => tagIndex e.tag != i).getD 0

/-- The tag an index gives at its present generation. -/
def State.tagOf (s : State) (i : Nat) : Tag := s.ctr.generations.toList.getD i 0 ++ BitVec.ofNat 8 i

/-! ## Queues -/

/-- A transmit queue by its class (07 R156). -/
def Lif.queue (l : Lif) : TxClass → List Queued
  | .trigger => l.trigger
  | .forward => l.forward
  | .trim => l.trim
  | .reply => l.reply
  | .notice => l.notice
  | .result => l.result

/-- The Loop Interface with a transmit queue replaced. -/
def Lif.setQueue (l : Lif) (c : TxClass) (q : List Queued) : Lif :=
  match c with
  | .trigger => { l with trigger := q }
  | .forward => { l with forward := q }
  | .trim => { l with trim := q }
  | .reply => { l with reply := q }
  | .notice => { l with notice := q }
  | .result => { l with result := q }

/-- The capacity of a transmit queue (07 R156). -/
def TxClass.capacity : TxClass → Nat
  | .trigger => 4
  | .forward => 8
  | .trim => 8
  | .reply => 4
  | .notice => 16
  | .result => 32

/-- A transmit queue holds as many frames as it can. -/
def State.queueFull (s : State) (c : TxClass) : Bool := decide (c.capacity ≤ (s.lif.queue c).length)

/-- The six classes in the order of R158. -/
def txClasses : List TxClass := [.trigger, .forward, .trim, .reply, .notice, .result]

/-- The arbiter's order under an elevation class (07 R158, R159). -/
def arbiterOrder : Option TxClass → List TxClass
  | none => txClasses
  | some c => c :: txClasses.filter fun d => d != c

/-! ## Valves -/

/-- The valve record of a valve number; a number above 95 reads as a reset record. -/
def State.valve (s : State) (v : Nat) : Valve := s.drg.valves.toList.getD v Valve.reset

/-- A record whose number is at or above the valve count is inert (04 R84). -/
def State.inert (s : State) (v : Nat) : Bool := decide (s.valveCount ≤ v)

end Sys2Proof.Machine
end

