-- ==== Sys2Proof/Machine/Encode.lean ====
section
/-!
DEFINITION. The payloads the part sends: notices, CAN_RESULT, job frames and the data of replies
(10 R195, R196 and the layout tables). What R195 leaves open is log 13.
-/

namespace Sys2Proof.Machine

/-- An optional item: a presence byte and the value, or 00h and the value's bytes as 0 (10 R195). -/
def presence (absent : Nat) : Option (List Byte) → List Byte
  | some v => 1 :: v
  | none => 0 :: List.replicate absent 0

/-- A text or list: a count byte and the items (10 R195). -/
def counted (n : Nat) (items : List Byte) : List Byte := BitVec.ofNat 8 n :: items

/-- A text: its count byte and its characters. -/
def textBytes (t : List Byte) : List Byte := counted t.length t

/-- The bytes of an optional field at a fixed offset: 0 when it is absent (10, CAN_RESULT). -/
def orZeros (size : Nat) : Option (List Byte) → List Byte
  | some v => v
  | none => List.replicate size 0

/-! ## CAN_RESULT (05 R120; 10, CAN_RESULT) -/

/-- A mask with the bits set whose condition holds. -/
def maskOf (bits : List (Nat × Bool)) : Nat :=
  bits.foldl (fun m b => if b.2 then m + 2 ^ b.1 else m) 0

/-- The presence mask of an entry. -/
def presenceMask (e : Entry) : Nat :=
  maskOf [(0, e.valve.isSome), (1, e.serial.isSome), (2, e.epoch.isSome), (3, e.slot.isSome),
    (4, e.dischargePos.isSome), (5, e.infeedPos.isSome), (6, e.weigh.isSome),
    (7, (e.weigh.bind (·.reason)).isSome), (8, (e.weigh.bind (·.gross)).isSome),
    (9, (e.weigh.bind (·.net)).isSome), (10, (e.weigh.bind (·.zone)).isSome), (11, e.code.isSome),
    (12, (e.code.bind (·.grade)).isSome), (13, (e.code.bind (·.text)).isSome),
    (14, (e.code.bind (·.detail)).isSome), (15, e.decision.isSome)]

/-- The CAN_RESULT payload of an entry at its retirement. -/
def canResultPayload (number : Word16) (recipeId : Option Nat) (position : Pos) (e : Entry) : List Byte :=
  bytesBE 2 number.toNat ++ bytesBE 2 (presenceMask e) ++ bytesBE 2 e.tag.toNat ++ [e.origin.toByte]
  ++ orZeros 1 (e.valve.map (bytesBE 1)) ++ orZeros 2 (e.serial.map fun x => bytesBE 2 x.toNat)
  ++ orZeros 1 (e.epoch.map fun x => [x]) ++ [slotByte e.slot] ++ orZeros 2 (recipeId.map (bytesBE 2))
  ++ [e.dateGen] ++ orZeros 4 (e.dischargePos.map fun x => bytesBE 4 x.toNat)
  ++ orZeros 4 (e.infeedPos.map fun x => bytesBE 4 x.toNat) ++ bytesBE 4 position.toNat
  ++ orZeros 1 (e.weigh.map fun w => [w.status.toByte])
  ++ orZeros 1 ((e.weigh.bind (·.reason)).map fun x => [x.toByte])
  ++ orZeros 4 ((e.weigh.bind (·.gross)).map (signedBE 4))
  ++ orZeros 4 ((e.weigh.bind (·.net)).map (signedBE 4))
  ++ orZeros 1 ((e.weigh.bind (·.zone)).map fun x => [x.toByte])
  ++ orZeros 1 (e.code.map fun c => [c.cls.toByte])
  ++ orZeros 1 ((e.code.bind (·.grade)).map (bytesBE 1))
  ++ orZeros 1 ((e.code.bind (·.detail)).map fun x => [x.toByte])
  ++ bytesBE 2 e.causes.toNat ++ bytesBE 2 e.selected.toNat
  ++ orZeros 1 (e.decision.map fun x => [x.toByte])
  ++ [BitVec.ofNat 8 (maskOf [(0, e.unfired), (1, e.stale), (2, e.offered)])]
  ++ orZeros 1 (e.exit.map fun x => [x.toByte]) ++ textBytes ((e.code.bind (·.text)).getD [])

/-! ## Notices (08 R177; 10, Notices) -/

/-- A notice as a block forms it: its kind and the data it carries. -/
inductive Notice where
  | hello (cause : ResetCause) (cal : CalState) (station : Byte) (calwe : Bool)
  | lineStopChange (cause : LineStopCause) (set : BitVec 9)
  | excitationState (state : ExcState) (code : BitVec 10)
  | zeroState (state : ZeroState) (zero : Int)
  | sampleState (state : SampleState)
  | valveAlert (valve : Nat) (reason : AlertReason) (trim : Int) (epoch : Byte) (state : ValveState)
  | readerFault (tag : Tag) (cls : CodeClass)
  | trackSlip (position : Pos)
  | slotRetired (slot : SlotId) (recipeId : Nat) (moment : DrainMoment)
  | calState (state : CalState) (audit : Count)
  deriving DecidableEq, Repr

/-- The kind byte of a notice. -/
def Notice.kind : Notice → Byte
  | .hello .. => 0x01
  | .lineStopChange .. => 0x02
  | .excitationState .. => 0x03
  | .zeroState .. => 0x04
  | .sampleState .. => 0x05
  | .valveAlert .. => 0x06
  | .readerFault .. => 0x07
  | .trackSlip .. => 0x08
  | .slotRetired .. => 0x09
  | .calState .. => 0x0A

/-- The kind data of a notice. -/
def Notice.data : Notice → List Byte
  | .hello cause cal station calwe => [cause.toByte, cal.toByte, station, boolByte calwe]
  | .lineStopChange cause set => cause.toByte :: bytesBE 2 set.toNat
  | .excitationState state code => state.toByte :: bytesBE 2 code.toNat
  | .zeroState state zero => state.toByte :: signedBE 4 zero
  | .sampleState state => [state.toByte]
  | .valveAlert valve reason trim epoch state =>
    bytesBE 1 valve ++ [reason.toByte] ++ signedBE 4 trim ++ [epoch, state.toByte]
  | .readerFault tag cls => bytesBE 2 tag.toNat ++ [cls.toByte]
  | .trackSlip position => bytesBE 4 position.toNat
  | .slotRetired slot recipeId moment =>
    [slotByte (some slot)] ++ bytesBE 2 recipeId ++ [moment.toByte]
  | .calState state audit => state.toByte :: bytesBE 4 audit.toNat

/-! ## Job frames (10, Job frames) -/

/-- DOSE_TRIM (04 R89). -/
def doseTrimPayload (valve : Nat) (epoch : Byte) (trim : Int) : List Byte :=
  bytesBE 1 valve ++ [epoch] ++ signedBE 4 trim

/-- TRIM_CLEAR (04 R100). -/
def trimClearPayload (recipeId : Nat) (epochs : List Byte) : List Byte :=
  bytesBE 2 recipeId ++ counted epochs.length epochs

/-! ## Reports (08 R179, R196 and the owning rules) -/

/-- The number of live entries in a stage. -/
def State.inStage (s : State) (x : Stage) : Nat := s.ctr.queue.countP fun e => e.stage == x

/-- CTR's part of READ_STATE (01 R32); the infeed monitor stands before the confirm monitor (DESIGN CHOICE, log 39). -/
def reportCtr (s : State) : List Byte :=
  [s.ctr.run.toByte] ++ bytesBE 4 s.ctr.position.toNat ++ bytesBE 2 s.ctr.debt
  ++ bytesBE 2 s.ctr.queue.length
  ++ bytesBE 2 (s.inStage .enRoute) ++ bytesBE 2 (s.inStage .weighing)
  ++ bytesBE 2 (s.inStage .awaitingDecision) ++ bytesBE 2 (s.inStage .decided)
  ++ bytesBE 2 (s.inStage .awaitingConfirm)
  ++ presence 3 (s.ctr.queue.head?.map fun e => bytesBE 2 e.tag.toNat ++ [e.stage.toByte])
  ++ bytesBE 1 s.ctr.slipRun ++ [s.ctr.infeed.state.toByte, s.ctr.confirm.state.toByte]

/-- WGE's part of READ_STATE (08 R179). -/
def reportWge (s : State) : List Byte := [boolByte s.sup.holdWge, boolByte s.calAbsent]

/-- CCK's part of READ_STATE (03 R83). -/
def reportCck (s : State) : List Byte :=
  [boolByte s.sup.holdCck, s.cck.generation] ++ presence 1 (s.cck.current.map textBytes)
  ++ presence 1 (s.cck.previous.map textBytes) ++ bytesBE 1 s.cck.faultRun
  ++ bytesBE 2 (s.ctr.queue.countP fun e => e.codeState == .requested)

/-- GTC's part of READ_STATE (05 R125); `left` is the time left on a running gate pulse timer. A conditioned
level is sent as 1 for active and 0 for inactive (log 32). -/
def reportGtc (s : State) (left : Nat) : List Byte :=
  bytesBE 1 s.gtc.rejects.length
  ++ presence 6 (s.gtc.rejects.head?.map fun x => bytesBE 2 x.tag.toNat ++ bytesBE 4 x.fire.toNat)
  ++ [boolByte s.gateActive] ++ presence 1 (s.gtc.gateTimer.map fun _ => bytesBE 1 left)
  ++ [boolByte s.sup.binFull.active, boolByte s.sup.airOk.active]
  ++ bytesBE 2 s.gtc.resultNumber.toNat

/-- The slot holds a recipe that has passed verification (06 R144). -/
def SlotState.hasRecipe : SlotState → Bool
  | .verified | .active | .draining => true
  | _ => false

/-- A slot's fault in reply data. -/
def faultBytes (f : SlotFault) : List Byte := f.reason.toByte :: bytesBE 1 f.index

/-- A slot's part of READ_STATE (06 R144); the recipe id and the name share one presence byte (log 33). -/
def reportSlot (x : Slot) : List Byte :=
  [x.state.toByte] ++ bytesBE 2 x.refs
  ++ presence 3 (if x.state.hasRecipe then some (bytesBE 2 x.image.recipeId ++ textBytes x.image.name)
                 else none)
  ++ presence 2 (if x.state = .faulted then x.fault.map faultBytes else none)

/-- The class being sent, none when the port is FREE (07 R164; log 13, 16). -/
def Port.cls : Port → Option TxClass
  | .free => none
  | .sending c _ _ _ => some c
  | .idleGap c => some c

/-- LIF's part of READ_STATE (07 R164). -/
def reportLif (s : State) : List Byte :=
  txClasses.flatMap (fun c => bytesBE 1 (s.lif.queue c).length)
  ++ [boolByte (s.lif.port == .free), txClassByte s.lif.port.cls, txClassByte s.elevation]
  ++ bytesBE 2 s.lif.seq.toNat ++ [s.ownStation]

/-- SUP's part of READ_STATE (09 R194). -/
def reportSup (s : State) : List Byte :=
  [s.sup.resetCause.toByte, s.ownStation, boolByte s.sup.calwe, s.calState.toByte, s.sup.exc.toByte]
  ++ presence 2 (s.sup.excCode.map fun c => bytesBE 2 c.toNat)
  ++ bytesBE 2 s.sup.lineStop.toNat
  ++ [boolByte s.lineStopActive, boolByte s.sup.holdWge, boolByte s.sup.holdCck,
      boolByte s.sup.holdDrg]

/-- MGA's part of READ_STATE (08 R179). -/
def reportMga (s : State) : List Byte :=
  bytesBE 1 s.mga.requests.length ++ [s.mga.noticeNumber, s.mga.dropCount]

/-- The data of a READ_STATE reply (08 R179); slot 0 stands before slot 1 (log 39). -/
def reportState (s : State) (left : Nat) : List Byte :=
  reportCtr s ++ reportWge s ++ reportCck s ++ reportGtc s left ++ reportSlot s.rcs.slot0
  ++ reportSlot s.rcs.slot1 ++ reportLif s ++ reportSup s ++ reportMga s

/-- The data of a READ_PLATFORM reply (02 R63). -/
def reportPlatform (s : State) : List Byte :=
  presence 6 (s.wge.output.map fun o => signedBE 4 o.value ++ [boolByte o.overrange, o.exc.toByte])
  ++ signedBE 4 s.wge.zero ++ [s.wge.zeroState.toByte] ++ bytesBE 1 s.wge.driftRun
  ++ [boolByte s.wge.captureArmed, s.wge.sampleState.toByte, s.sup.exc.toByte]
  ++ counted s.wge.records.length (s.wge.records.flatMap fun r =>
      bytesBE 2 r.tag.toNat ++ [r.platform.toByte, r.window.toByte] ++ bytesBE 4 r.acc.count.toNat)
  ++ [boolByte s.sup.holdWge, boolByte s.calAbsent]

/-- The data of a READ_VALVE reply (04 R105). -/
def reportValve (s : State) (v : Nat) : List Byte :=
  let x := s.valve v
  [x.mode.toByte, x.state.toByte, boolByte x.erratic, boolByte x.saturated] ++ signedBE 4 x.trim
  ++ [x.epoch] ++ bytesBE 1 x.sends ++ bytesBE 1 x.mismatchRun ++ signedBE 4 x.sum ++ bytesBE 1 x.n
  ++ bytesBE 1 x.satRun ++ counted x.recent.length (x.recent.flatMap (signedBE 4))
  ++ bytesBE 4 x.weighed.toNat ++ bytesBE 4 x.rejected.toNat ++ bytesBE 4 x.missing.toNat
  ++ bytesBE 4 x.stale.toNat ++ [boolByte (s.inert v), boolByte s.sup.holdDrg]

/-- The data of a READ_RECIPE reply (06 R129). -/
def reportRecipe (x : Slot) (off n : Nat) : List Byte :=
  [x.state.toByte] ++ bytesBE 2 x.refs ++ presence 2 (x.fault.map faultBytes)
  ++ counted n (((x.image.toList.drop off).take n).flatMap fun w => bytesBE 2 w.toNat)

/-- The five bytes of a pass entry, a free one as zeros (07 R149; 10, Pass entry). -/
def passEntryBytes : Option PassEntry → List Byte
  | none => [0, 0, 0, 0, 0]
  | some e => [1, e.source, e.kind, e.intake.toByte, boolByte e.forward]

/-- The data of a READ_CAL reply (09 R189). -/
def reportCal (s : State) : List Byte :=
  bytesBE 4 s.calRecord.span ++ bytesBE 4 s.calRecord.capacity ++ signedBE 4 s.calRecord.zero
  ++ [s.calState.toByte] ++ bytesBE 4 s.sup.store.audit.toNat ++ [boolByte s.sup.calwe]

/-! ## Counter groups (08, Counters) -/

/-- The first counter's place of a group and the number of counters in it. -/
def Block.span : Block → Nat × Nat
  | .lif => (0, 18)
  | .mga => (18, 11)
  | .ctr => (29, 17)
  | .wge => (46, 9)
  | .cck => (55, 19)
  | .drg => (74, 20)
  | .gtc => (94, 19)
  | .rcs => (113, 7)
  | .sup => (120, 7)

/-- The place `i` lies in the group. -/
def Block.holds (b : Block) (i : Nat) : Bool :=
  decide (b.span.1 ≤ i) && decide (i < b.span.1 + b.span.2)

/-- The data of a READ_COUNTERS reply (08 R174); the number of counters is the count byte of their list
(log 34). -/
def reportCounters (s : State) (b : Block) : List Byte :=
  [BitVec.ofNat 8 b.ctorIdx] ++ counted b.span.2
    (((s.counters.toList.drop b.span.1).take b.span.2).flatMap fun c => bytesBE 4 c.toNat)

end Sys2Proof.Machine
end

