-- ==== Sys2Proof/Machine/Ops.lean ====
section
/-!
DEFINITION. The operations the meanings share: block updates, counters, free values, the transmit queues
and the arbiter, notices, line-stop causes, entries and tags, retirement and flush, the service of a
management request, and the assertion of a reset.
-/

namespace Sys2Proof.Machine

/-- What a command answers. -/
abbrev Result := Host.Outcome State Fault Refusal

/-! ## Updates of one block -/

/-- The state with `pins` changed by `f`. -/
def State.onPins (s : State) (f : Pins → Pins) : State := { s with pins := f s.pins }

/-- The state with `sup` changed by `f`. -/
def State.onSup (s : State) (f : Sup → Sup) : State := { s with sup := f s.sup }

/-- The state with `lif` changed by `f`. -/
def State.onLif (s : State) (f : Lif → Lif) : State := { s with lif := f s.lif }

/-- The state with `mga` changed by `f`. -/
def State.onMga (s : State) (f : Mga → Mga) : State := { s with mga := f s.mga }

/-- The state with `setup` changed by `f`. -/
def State.onSetup (s : State) (f : SetupImage → SetupImage) : State := { s with setup := f s.setup }

/-- The state with `ctr` changed by `f`. -/
def State.onCtr (s : State) (f : Ctr → Ctr) : State := { s with ctr := f s.ctr }

/-- The state with `wge` changed by `f`. -/
def State.onWge (s : State) (f : Wge → Wge) : State := { s with wge := f s.wge }

/-- The state with `cck` changed by `f`. -/
def State.onCck (s : State) (f : Cck → Cck) : State := { s with cck := f s.cck }

/-- The state with `drg` changed by `f`. -/
def State.onDrg (s : State) (f : Drg → Drg) : State := { s with drg := f s.drg }

/-- The state with `gtc` changed by `f`. -/
def State.onGtc (s : State) (f : Gtc → Gtc) : State := { s with gtc := f s.gtc }

/-- The state with `rcs` changed by `f`. -/
def State.onRcs (s : State) (f : Rcs → Rcs) : State := { s with rcs := f s.rcs }

/-- The state with `counters` changed by `f`. -/
def State.onCounters (s : State) (f : Vector Count 127 → Vector Count 127) : State := { s with counters := f s.counters }

/-! ## Counters and free values -/

/-- The place of a counter in `State.counters`. -/
def Counter.place (c : Counter) : Fin 127 := ⟨c.ctorIdx, by cases c <;> decide⟩

/-- The value of a counter. -/
def State.counter (s : State) (c : Counter) : Count := s.counters[c.place]

/-- One increment of a counter. -/
def State.bump (s : State) (c : Counter) : State :=
  s.onCounters fun v => v.set c.place (satInc v[c.place])

/-- Every counter whose place satisfies `p` set to 0. -/
def State.clearCounters (s : State) (p : Nat → Bool) : State :=
  s.onCounters fun v => v.mapIdx fun i c => if p i then 0 else c

/-- One free value drawn: later draws read another one. -/
def State.drawn (s : State) : State := { s with freeCount := s.freeCount + 1 }

/-! ## The transmit port (07 R156 to R159) -/

/-- The frame a queued item is sent as (07 R157): a generated one gets its source, hop count, sequence
and CRC now; a passing one is sent as it stands. -/
def State.frameToSend (s : State) : Queued → Frame
  | .own dest kind payload _ =>
    Frame.withCrc { dest := dest, source := s.ownStation, kind := kind, hop := s.hopStart,
                    seq := s.lif.seq, len := BitVec.ofNat 8 payload.length, payload := payload,
                    crc := 0 }
  | .passing f => f

/-- The head of a class's queue leaves it and its transmission starts (07 R157, R158). -/
def State.startSending (s : State) (c : TxClass) : State :=
  match s.lif.queue c with
  | [] => s
  | x :: rest =>
    let f := s.frameToSend x
    match x with
    | .own _ _ _ resets =>
      s.onLif fun l => { l.setQueue c rest with port := .sending c f true resets, seq := l.seq + 1 }
    | .passing _ => s.onLif fun l => { l.setQueue c rest with port := .sending c f false false }

/-- The first class of the arbiter's order whose queue holds a frame (07 R158). -/
def State.nextClass (s : State) : Option TxClass :=
  (arbiterOrder s.elevation).find? fun c => !(s.lif.queue c).isEmpty

/-- The arbiter: when the port is FREE and a queue holds a frame, that frame's transmission starts. In
bypass no frame of the part's own is sent (07 R158, R161). -/
def State.arbitrate (s : State) : State :=
  if s.bypassed || s.lif.port != .free then s
  else match s.nextClass with
    | none => s
    | some c => s.startSending c

/-- A frame joins the tail of a class's queue (07 R156), and the arbiter runs (R158). -/
def State.join (s : State) (c : TxClass) (x : Queued) : State :=
  (s.onLif fun l => l.setQueue c (l.queue c ++ [x])).arbitrate

/-! ## Notices and line-stop causes (08 R176, 09 R191) -/

/-- A notice is placed for a station (08 R176). -/
def State.placeNotice (s : State) (station : Byte) (n : Notice) : State :=
  if station = 0 then s.bump .noticeNoStation
  else if s.queueFull .notice then
    (s.onMga fun m => { m with dropCount := if m.dropCount = 255 then 255 else m.dropCount + 1 }).bump
      .noticesDropped
  else
    let payload := [n.kind, s.mga.noticeNumber, s.mga.dropCount] ++ n.data
    ((s.onMga fun m => { m with noticeNumber := m.noticeNumber + 1, dropCount := 0 }).join .notice
      (.own station 0x42 payload false)).bump .noticesQueued

/-- A notice formed now joins the NOTICE queue: there is a notice station and the queue has room (08 R176). -/
def State.noticeFits (s : State) : Bool := s.noticeStation != 0 && !s.queueFull .notice

/-- A notice is formed: it goes to the setup notice station. -/
def State.notify (s : State) (n : Notice) : State := s.placeNotice s.noticeStation n

/-- A cause is added to the line-stop cause set (09 R191). -/
def State.addCause (s : State) (c : LineStopCause) : State :=
  if s.hasCause c then s
  else
    let set := s.sup.lineStop ||| c.bit
    ((s.onSup fun u => { u with lineStop := set }).notify (.lineStopChange c set)).bump .lineStopAdds

/-! ## Entries (01 R1 to R7) -/

/-- The live entry with a tag changed by `f`. -/
def State.onEntry (s : State) (tag : Tag) (f : Entry → Entry) : State :=
  s.onCtr fun c => { c with queue := c.queue.map fun e => if e.tag == tag then f e else e }

/-- An entry's place in the queue: FILLED at the tail, STRAY before the first EN_ROUTE (01 R1). -/
def insertEntry (e : Entry) (queue : List Entry) : List Entry :=
  match e.origin with
  | .filled => queue ++ [e]
  | .stray => queue.takeWhile (fun x => x.stage != .enRoute) ++ e :: queue.dropWhile fun x => x.stage != .enRoute

/-- A new entry takes a tag from the pool and joins the queue (01 R1, R2), and its slot's reference
count rises (06 R127). -/
def State.addEntry (s : State) (e : Entry) : State :=
  let i := s.freeIndex
  let e := { e with tag := s.tagOf i }
  let s := s.onCtr fun c =>
    { c with queue := insertEntry e c.queue,
             generations := c.generations.setIfInBounds i (c.generations.toList.getD i 0 + 1) }
  match e.slot with
  | none => s
  | some k => s.onRcs fun r => r.setSlot k { r.slot k with refs := (r.slot k).refs + 1 }

/-- An entry as it is created (01 R5): result fields absent or at their initial values; its tag is given
by `State.addEntry`. -/
def newEntry (origin : Origin) (stage : Stage) (slot : Option SlotId) (dateGen : Byte) : Entry :=
  { tag := 0, origin := origin, valve := none, serial := none, epoch := none, slot := slot,
    dateGen := dateGen, dischargePos := none, expectedPos := none, infeedPos := none, stage := stage,
    weigh := none, codeState := .notRequested, code := none, causes := 0, selected := 0,
    decision := none, unfired := false, stale := false, offered := false, exit := none }

/-- The draining check (06 R142): a DRAINING slot that no entry names retires to VERIFIED. -/
def State.drainCheck (s : State) (k : SlotId) (moment : DrainMoment) : State :=
  let x := s.rcs.slot k
  if x.state = .draining ∧ x.refs = 0 then
    ((s.onRcs fun r => r.setSlot k { r.slot k with state := .verified }).notify
      (.slotRetired k x.image.recipeId moment)).bump .slotRetirements
  else s

/-- The Recipe Store is told of a retirement (01 R7, 06 R127, R142). -/
def State.releaseSlot (s : State) (slot : Option SlotId) (moment : DrainMoment) : State :=
  match slot with
  | none => s
  | some k =>
    (s.onRcs fun r => r.setSlot k { r.slot k with refs := (r.slot k).refs - 1 }).drainCheck k moment

/-- A CAN_RESULT frame is formed for a retired entry (05 R121). -/
def State.sendCanResult (s : State) (e : Entry) : State :=
  if !s.resultEnable then s
  else if s.noticeStation = 0 then s.bump .resultNoStation
  else
    let payload := canResultPayload s.gtc.resultNumber (e.slot.map fun k => (s.image k).recipeId)
      s.ctr.position e
    let dest := s.noticeStation
    let s := s.onGtc fun g => { g with resultNumber := g.resultNumber + 1 }
    if s.queueFull .result then s.bump .resultOverflow
    else (s.join .result (.own dest 0x43 payload false)).bump .resultsQueued

/-- The entry with a tag leaves the tracking queue with its exit outcome (01 R7): its index is free, its
points are not announced any more, its occupancy record leaves the list, the Recipe Store is told, and
a CAN_RESULT is formed unless it was flushed; a SLOT_RETIRED notice joins before it (log 37).
A FLUSHED retirement forms none and so is not counted as RESULT_NO_STATION either (DEDUCED, log 40). -/
def State.retire (s : State) (out : ExitOutcome) (tag : Tag) : State :=
  match s.entry tag with
  | none => s
  | some e =>
    let s := s.onCtr fun c =>
      { c with queue := c.queue.filter fun x => x.tag != tag,
               pointsDue := c.pointsDue.filter fun d => d.tag != tag }
    let s := s.onWge fun w => { w with records := w.records.filter fun r => r.tag != tag }
    if out = .flushed then s.releaseSlot e.slot .flush
    else (s.releaseSlot e.slot .lastEntry).sendCanResult { e with exit := some out }

/-- A flush (01 R14). -/
def State.flush (s : State) : State :=
  let s := s.ctr.queue.foldl (fun t e => (t.retire .flushed e.tag).bump .flushed) s
  let s := s.onGtc fun g => { g with rejects := [] }
  let s := s.onWge fun w => { w with records := [] }
  s.onCtr fun c => { c with slipRun := 0, pointsDue := [] }

/-- One increment of the slip run, and the slip event at the slip limit (01 R28). -/
def State.raiseSlip (s : State) : State :=
  if s.slipLimit ≤ s.ctr.slipRun + 1 then
    (((s.onCtr fun c => { c with slipRun := 0 }).notify (.trackSlip s.ctr.position)).addCause
      .trackSlip).bump .slipEvents
  else s.onCtr fun c => { c with slipRun := c.slipRun + 1 }

/-! ## Position points (01 R30) -/

/-- The next point of an entry that is due is `p`: points of one entry are taken in R29's order, points of
different entries in any order (log 6). -/
def State.pointIsDue (s : State) (tag : Tag) (p : Point) : Bool :=
  (s.ctr.pointsDue.find? fun d => d.tag == tag) == some { tag := tag, point := p }

/-- A point that is due is taken by `act`; a point that is not due does not occur (log 2). -/
def State.atPoint (s : State) (tag : Tag) (p : Point) (act : State → Tag → State) : State :=
  if s.taking && s.pointIsDue tag p then
    act (s.onCtr fun c => { c with pointsDue := c.pointsDue.erase { tag := tag, point := p } }) tag
  else s

/-! ## The service of a management request (08 R166 to R168) -/

/-- What serving a request leaves: the state, the status and the data of its reply. -/
structure Answer where
  state : State
  status : Status
  data : List Byte
  deriving DecidableEq, Repr

/-- Answered OK. -/
def State.okay (s : State) (data : List Byte := []) : Answer := ⟨s, .ok, data⟩

/-- Refused with a status. -/
def State.refuse (s : State) (status : Status) (data : List Byte := []) : Answer := ⟨s, status, data⟩

/-- The head request waits for room in the REPLY queue: counted once (08 R166, log 14). -/
def State.noteWait (s : State) : State :=
  if s.mga.service.isNone && !s.mga.closed && !s.mga.requests.isEmpty && s.queueFull .reply
      && !s.mga.waitCounted then
    (s.onMga fun m => { m with waitCounted := true }).bump .replyWaits
  else s

/-- The request the MGA can begin to serve now (08 R166). -/
def State.serviceable (s : State) : Option Request :=
  if s.taking && s.mga.service.isNone && !s.mga.closed && !s.queueFull .reply then
    s.mga.requests.head?
  else none

/-- The head request leaves the queue as its service begins (08 R165). -/
def State.takeRequest (s : State) : State :=
  s.onMga fun m => { m with requests := m.requests.tail, waitCounted := false }

/-- The reply to a request joins the REPLY queue (08 R167, R168). -/
def replyTo (r : Request) (a : Answer) (resets : Bool := false) : State :=
  ((a.state.bump (if a.status = .ok then .repliesOk else .repliesRefused)).join .reply
    (.own r.source 0x41 (r.code :: r.tag :: a.status.toByte :: a.data) resets)).noteWait

/-- The request at the head is served when its code satisfies `p` and it can be begun; otherwise the
event does not occur and nothing changes (log 2, 20). -/
def State.serveWhere (s : State) (p : Byte → Bool) (act : State → List Byte → Answer) : State :=
  match s.serviceable with
  | none => s
  | some r => if p r.code then replyTo r (act s.takeRequest r.args) else s

/-- `State.serveWhere` for one request code. -/
def State.serve (s : State) (code : Byte) (act : State → List Byte → Answer) : State :=
  s.serveWhere (fun c => c == code) act

/-- A request that starts an operation: `act` refuses or answers it at once, or gives the state and the
operation that holds its reply (08 R166). -/
def State.serveLong (s : State) (code : Byte)
    (act : State → List Byte → Answer ⊕ (State × Operation)) : State :=
  match s.serviceable with
  | none => s
  | some r =>
    if r.code == code then
      match act s.takeRequest r.args with
      | .inl a => replyTo r a
      | .inr (t, op) => t.onMga fun m => { m with service := some { request := r, operation := op } }
    else s

/-- The operation in service completes: its request leaves service (08 R166). -/
def State.endService (s : State) : State := s.onMga fun m => { m with service := none }

/-! ## Resets (09 R181) -/

/-- The calibration store as a reset leaves it: a store write in progress is cut (09 R188, log 9). -/
def State.storeAfterCut (s : State) : CalStore :=
  match s.mga.service.map Service.operation with
  | some (.calWrite _) | some (.calLock _) | some (.calClear _) =>
    if Config.cutTouchedRecord s.freeCount then
      { s.sup.store with
        record := { span := Config.tornSpan s.freeCount, capacity := Config.tornCapacity s.freeCount,
                    zero := Config.tornZero s.freeCount, locked := Config.tornLock s.freeCount },
        checkAgrees := false }
    else s.sup.store
  | _ => s.sup.store

/-- The assertion of a reset (09 R181): every operation is cut, every block takes its reset values, the
store, the audit counter and the latches are kept; the part is left in `phase`. -/
def State.assertReset (s : State) (cause : ResetCause) (phase : Phase) : State :=
  { s with
    sup := Sup.afterReset cause phase s.sup.address s.sup.calwe s.storeAfterCut
    lif := Lif.reset
    mga := Mga.reset
    setup := SetupImage.defaults
    ctr := Ctr.reset
    wge := Wge.reset
    cck := Cck.reset
    drg := Drg.reset
    gtc := Gtc.reset
    rcs := Rcs.reset
    counters := Vector.replicate 127 0
    freeCount := s.freeCount + 1 }

end Sys2Proof.Machine
end

