-- ==== Sys2Proof/Machine/Dose.lean ====
section
/-!
DEFINITION. The Dose Regulator (04): epochs, offers, evaluation, clears, hold and release, and the
commands SET_VALVE_MODE and READ_VALVE.
-/

namespace Sys2Proof.Machine

/-- Valve record `v` changed by `f`. -/
def State.onValve (s : State) (v : Nat) (f : Valve → Valve) : State :=
  s.onDrg fun d => { d with valves := d.valves.setIfInBounds v (f (d.valves.toList.getD v Valve.reset)) }

/-- Every valve record changed, each with its number. -/
def State.onValves (s : State) (f : Nat → Valve → Valve) : State :=
  s.onDrg fun d => { d with valves := d.valves.mapIdx f }

/-! ## Frames to the filler and notices -/

/-- A DOSE_TRIM with the valve's trim and epoch (R89). -/
def State.sendTrim (s : State) (v : Nat) : State :=
  if s.queueFull .trim then s.bump .trimOverflow
  else if s.fillerStation = 0 then s.bump .trimNoStation
  else (s.join .trim (.own s.fillerStation 0x53
    (doseTrimPayload v (s.valve v).epoch (s.valve v).trim) false)).bump .trimsQueued

/-- A TRIM_CLEAR with a recipe id and every valve's epoch (R100). -/
def State.sendTrimClear (s : State) (recipeId : Nat) : State :=
  if s.queueFull .trim then s.bump .trimOverflow
  else if s.fillerStation = 0 then s.bump .trimNoStation
  else (s.join .trim (.own s.fillerStation 0x54
    (trimClearPayload recipeId ((s.drg.valves.toList.take s.valveCount).map (·.epoch))) false)).bump
    .trimClears

/-- A VALVE_ALERT notice, counted as VALVE_ALERTS when it is queued (R106). -/
def State.alertWith (s : State) (n : Notice) : State :=
  if s.noticeFits then (s.notify n).bump .valveAlerts else s.notify n

/-- A VALVE_ALERT with the valve's trim, epoch and state as they stand (R88, R93, R97). -/
def State.alert (s : State) (v : Nat) (reason : AlertReason) : State :=
  s.alertWith (.valveAlert v reason (s.valve v).trim (s.valve v).epoch (s.valve v).state)

/-! ## Epochs (R87, R88) -/

/-- A discharge echoing the valve's epoch (R87). -/
def State.epochMatch (s : State) (v : Nat) : State :=
  (s.onValve v fun x =>
    if x.state = .collecting then { x with mismatchRun := 0 }
    else { x with mismatchRun := 0, state := .collecting, sends := 0 }).bump .epochMatches

/-- The K-th mismatch in a row (R88). -/
def State.mismatchLimit (s : State) (v : Nat) : State :=
  let x := s.valve v
  if x.state = .unconfirmed then s
  else if x.sends < 3 then
    ((s.sendTrim v).onValve v fun y => { y with sends := y.sends + 1, state := .awaitingConfirm }).bump
      .trimResends
  else (s.onValve v fun y => { y with state := .unconfirmed }).alert v .unconfirmed

/-- A discharge carrying another epoch (R88; log 12). -/
def State.epochMismatch (s : State) (v : Nat) : State :=
  let run := (s.valve v).mismatchRun + 1
  let s := (s.onValve v fun x => { x with mismatchRun := run }).bump .epochMismatches
  if s.resendCount ≤ run then (s.mismatchLimit v).onValve v fun x => { x with mismatchRun := 0 }
  else s

/-- The comparison at a discharge intake for a valve below the valve count (R87, R88, R103). -/
def State.takeEpoch (s : State) (v : Nat) (epoch : Byte) : State :=
  if s.sup.holdDrg then s
  else if epoch = (s.valve v).epoch then s.epochMatch v
  else s.epochMismatch v

/-- The stale flag an intake gives the entry (R87, R88, R103). -/
def State.staleAt (s : State) (v : Nat) (epoch : Byte) : Bool :=
  s.sup.holdDrg || epoch != (s.valve v).epoch

/-! ## Evaluation (R94 to R97) -/

/-- The correction a mean deviation asks for, clamped to the max step (R95). -/
def correction (img : Image) (m : Int) : Int :=
  clampInt (-(img.maxStep : Int)) img.maxStep (-(roundDiv (m * img.gain) 16))

/-- The new trim, clamped to the trim limit (R95). -/
def nextTrim (img : Image) (trim m : Int) : Int :=
  clampInt (-(img.trimLimit : Int)) img.trimLimit (trim + correction img m)

/-- A new trim is applied (R96). -/
def State.applyTrim (s : State) (v : Nat) (trim : Int) : State :=
  if trim = (s.valve v).trim then s.bump .evalUnchanged
  else
    (((s.onValve v fun x => { x with trim := trim, epoch := x.epoch + 1 }).sendTrim v).onValve v
      fun x => { x with sends := 1, mismatchRun := 0, state := .awaitingConfirm }).bump .trimChanges

/-- The saturation run after an evaluation whose new trim is `trim` (R97). -/
def State.saturation (s : State) (v : Nat) (img : Image) (trim : Int) : State :=
  if trim = img.trimLimit ∨ trim = -(img.trimLimit : Int) then
    let run := min 15 ((s.valve v).satRun + 1)
    if img.satCount ≤ run ∧ (s.valve v).saturated = false then
      (s.onValve v fun x => { x with satRun := run, saturated := true }).alert v .saturated
    else s.onValve v fun x => { x with satRun := run }
  else s.onValve v fun x => { x with satRun := 0, saturated := false }

/-- A batch is evaluated (R94); the DOSE_TRIM of R96 joins before the VALVE_ALERT of R97 (log 37). -/
def State.evaluate (s : State) (v : Nat) (img : Image) : State :=
  let x := s.valve v
  let m := roundDiv x.sum img.batch
  let t :=
    if x.erratic then s.bump .evalSuppressed
    else if m.natAbs ≤ img.deadBand then
      (s.onValve v fun y => { y with satRun := 0, saturated := false }).bump .evalDeadband
    else (s.applyTrim v (nextTrim img x.trim m)).saturation v img (nextTrim img x.trim m)
  (t.onValve v fun y => { y with sum := 0, n := 0 }).bump .evaluations

/-! ## Offers (R91 to R93) -/

/-- The largest less the smallest of a list of nets. -/
def spread (nets : List Int) : Int :=
  match nets with
  | [] => 0
  | x :: xs => xs.foldl max x - xs.foldl min x

/-- A net joins the recent nets; the oldest leaves a list of 9 (R92). -/
def joinRecent (recent : List Int) (net : Int) : List Int :=
  if recent.length < 8 then recent ++ [net] else (recent ++ [net]).tail

/-- The erratic check (R93). -/
def State.erraticCheck (s : State) (v : Nat) (img : Image) : State :=
  let x := s.valve v
  if x.recent.length < 8 then s
  else if (img.spreadLimit : Int) < spread x.recent then
    if x.erratic then s else (s.onValve v fun y => { y with erratic := true }).alert v .erratic
  else s.onValve v fun y => { y with erratic := false }

/-- A net is taken (R92). -/
def State.takeNet (s : State) (tag : Tag) (v : Nat) (img : Image) (net : Int) : State :=
  let s := (s.onValve v fun x => { x with recent := joinRecent x.recent net }).erraticCheck v img
  let s := s.onValve v fun x => { x with sum := x.sum + (net - img.target), n := x.n + 1 }
  let s := (s.onEntry tag fun e => { e with offered := true }).bump .offersTaken
  if img.batch ≤ (s.valve v).n then s.evaluate v img else s

/-- The tests of an offer and its taking (R91): `w` is the result of entry `e`, which names valve `v`. -/
def State.testOffer (s : State) (e : Entry) (v : Nat) (w : WeighResult) : State :=
  if s.sup.holdDrg then s.bump .offersHeld
  else match e.slot with
    | none => s.bump .offersOtherSlot
    | some k =>
      if s.activeSlot ≠ some k then s.bump .offersOtherSlot
      else if w.status ≠ .ok ∨ w.zone = some .grossUnder ∨ w.zone = some .grossOver then
        s.bump .offersUnfit
      else if (s.valve v).mode = .excluded then s.bump .offersExcluded
      else if e.stale then (s.onValve v fun x => { x with stale := satInc x.stale }).bump .offersStale
      else if e.epoch ≠ some (s.valve v).epoch then
        (s.onValve v fun x => { x with stale := satInc x.stale }).bump .offersSuperseded
      else s.takeNet e.tag v (s.image k) (w.net.getD 0)

/-- The Weigh Engine offers a result to the Dose Regulator (R91). An inert record takes no offer (R84). -/
def State.offer (s : State) (e : Entry) (w : WeighResult) : State :=
  match e.origin, e.valve with
  | .filled, some v =>
    if s.inert v then s
    else
      (if w.net.isSome then s.onValve v fun x => { x with weighed := satInc x.weighed } else s).testOffer
        e v w
  | _, _ => s

/-! ## Clears, hold and release (R99, R102, R104) -/

/-- A valve record after a clear (R99). -/
def Valve.cleared (x : Valve) : Valve :=
  { x with trim := 0, epoch := x.epoch + 1, state := .awaitingConfirm, sends := 1, mismatchRun := 0,
           sum := 0, n := 0, recent := [], erratic := false, saturated := false, satRun := 0 }

/-- A valve record at its reset values with its counters kept (R102). -/
def Valve.heldReset (x : Valve) : Valve :=
  { Valve.reset with weighed := x.weighed, rejected := x.rejected, missing := x.missing, stale := x.stale }

/-- The valve table is cleared and a TRIM_CLEAR sent (R99, R100). -/
def State.clearTable (s : State) (recipeId : Nat) : State :=
  (s.onValves fun i x => if i < s.valveCount then x.cleared else x).sendTrimClear recipeId

/-- The hold of the DRG (R102). -/
def State.holdDrgBlock (s : State) : State := s.onValves fun _ x => x.heldReset

/-- The release of the DRG (R104). -/
def State.releaseDrgBlock (s : State) : State := s.clearTable 0

/-- A changed valve count returns the records between the old and the new count to their reset values,
counters too (R85). -/
def State.valveCountChanged (s : State) (old new : Nat) : State :=
  s.onValves fun i x => if min old new ≤ i ∧ i < max old new then Valve.reset else x

/-- The four counters of every valve record set to 0 (R105, 08 R174, R175). -/
def State.clearValveCounters (s : State) : State :=
  s.onValves fun _ x => { x with weighed := 0, rejected := 0, missing := 0, stale := 0 }

/-- One valve counter raised, when the entry names a valve that is not inert (R105). -/
def State.countValve (s : State) (v : Option Nat) (f : Valve → Valve) : State :=
  match v with
  | none => s
  | some v => if s.inert v then s else s.onValve v f

/-! ## Commands -/

/-- SET_VALVE_MODE (R98). -/
def serveSetValveMode (s : State) : List Byte → Answer
  | [v, m] =>
    match valveModeOf m with
    | none => s.refuse .badArgument
    | some mode =>
      if s.inert v.toNat then s.refuse .badArgument
      else if s.sup.holdDrg ∨ (s.valve v.toNat).mode = mode then s.okay
      else match mode with
        | .included => (s.onValve v.toNat fun x => { x with mode := .included }).okay
        | .excluded => (s.onValve v.toNat fun x => { x with mode := .excluded, sum := 0, n := 0 }).okay
  | _ => s.refuse .badRequest

/-- READ_VALVE (R105). -/
def serveReadValve (s : State) : List Byte → Answer
  | [v] => if 95 < v.toNat then s.refuse .badArgument else s.okay (reportValve s v.toNat)
  | _ => s.refuse .badRequest

/-- SET_VALVE_MODE, request code 3Ah. -/
def execSetValveMode (s : State) : Result := .next (s.serve 0x3A serveSetValveMode)

/-- READ_VALVE, request code 05h. -/
def execReadValve (s : State) : Result := .next (s.serve 0x05 serveReadValve)

end Sys2Proof.Machine
end

