-- ==== Sys2Proof/Machine/Recipes.lean ====
section
/-!
DEFINITION. The Recipe Store (06): writing and reading images, verification, changeover and stopping a
product, and the commands of these requests. Draining stands in Ops.lean, where retirement needs it.
-/

namespace Sys2Proof.Machine

/-- Slot `k` changed by `f`. -/
def State.onSlot (s : State) (k : SlotId) (f : Slot → Slot) : State :=
  s.onRcs fun r => r.setSlot k (f (r.slot k))

/-- The other slot. -/
def SlotId.other : SlotId → SlotId
  | .s0 => .s1
  | .s1 => .s0

/-- A run of words written into an image from `off` on (R128). -/
def writeWords (img : Image) (off : Nat) : List Word16 → Image
  | [] => img
  | w :: ws => writeWords (img.setIfInBounds off w) (off + 1) ws

/-- The words that bytes hold, two bytes each, none for a broken last word. -/
def wordsOf : List Byte → Option (List Word16)
  | [] => some []
  | [_] => none
  | hi :: lo :: rest => (wordsOf rest).map fun ws => (hi ++ lo) :: ws

/-! ## Verification (R131 to R135) -/

/-- A check of an image: the word index it fails with, and whether it holds. -/
abbrev ImageCheck := Nat × Bool

/-- The first check that fails, as a fault. -/
def firstFault (reason : FaultReason) (checks : List ImageCheck) : Option SlotFault :=
  (checks.find? fun c => !c.2).map fun c => { reason := reason, index := c.1 }

/-- `lo ≤ x ≤ hi`. -/
def inRange (lo hi x : Nat) : Bool := decide (lo ≤ x) && decide (x ≤ hi)

/-- The check word test (R131). -/
def checkWordTest (img : Image) : List ImageCheck :=
  [(255, ((img.toList.take 255).map (·.toNat)).sum % 65536 == img.word 255)]

/-- The field range test (R132): every field in the order of its word index, then the unassigned words. -/
def fieldRangeTest (img : Image) : List ImageCheck :=
  [ (0, inRange 1 65535 img.recipeId), (1, img.name.all printable), (9, inRange 0 2000000 img.tare),
    (11, inRange 1 8000000 img.nominal), (13, inRange 0 8000000 img.l2),
    (15, inRange 0 8000000 img.l1), (17, inRange 0 8000000 img.h1), (19, inRange 0 8000000 img.h2),
    (21, decide (-100000 ≤ img.targetOffset) && decide (img.targetOffset ≤ 100000)) ] ++
  [ (23, inRange 0 65535 img.entryOffset), (24, inRange 0 65535 img.settleOffset),
    (25, inRange 0 65535 img.endOffset), (26, inRange 0 65535 img.exitOffset),
    (27, inRange 0 16777215 img.stabilityLimit), (29, inRange 1 64 img.minOutputs),
    (30, inRange 1 16 img.batch), (31, inRange 0 100000 img.deadBand), (33, inRange 1 16 img.gain) ] ++
  [ (34, inRange 1 100000 img.maxStep), (36, inRange 0 50000 img.trimLimit),
    (37, inRange 1 15 img.satCount), (38, inRange 0 1000000 img.spreadLimit),
    (40, inRange 0 1 (img.word 40)), (41, inRange 0 4 img.minGrade),
    (42, inRange 0 4095 (img.word 42)) ] ++
  (List.range' 89 166).map fun i => (i, img.word i == 0)

/-- The limit order test (R133). -/
def limitOrderTest (img : Image) : List ImageCheck :=
  [(15, decide (img.l2 ≤ img.l1)), (11, decide (img.l1 ≤ img.nominal)),
    (17, decide (img.nominal ≤ img.h1)), (19, decide (img.h1 ≤ img.h2))]

/-- The window order test (R133). -/
def windowOrderTest (img : Image) : List ImageCheck :=
  [(24, decide (img.entryOffset < img.settleOffset)), (25, decide (img.settleOffset < img.endOffset)),
    (26, decide (img.endOffset ≤ img.exitOffset))]

/-- A lot word within the lot's length: high byte 0 and a printable character (R134). -/
def lotWordOk (w : Nat) : Bool := inRange 0x20 0x7E w

/-- A pattern element within the count (R134; 10, Recipe image). -/
def elementOk (w : Nat) : Bool :=
  if w / 256 = 1 then inRange 0x20 0x7E (w % 256) else inRange 2 6 (w / 256) && w % 256 == 0

/-- The pattern test (R134). -/
def patternTest (img : Image) : List ImageCheck :=
  (43, inRange 1 12 img.lotLength) ::
    ((List.range 12).map fun i =>
      (44 + i, if i < img.lotLength then lotWordOk (img.word (44 + i)) else img.word (44 + i) == 0)) ++
  (56, inRange 1 32 img.elementCount) ::
    ((List.range 32).map fun i =>
      (57 + i, if i < img.elementCount then elementOk (img.word (57 + i)) else img.word (57 + i) == 0))

/-- WINDOW_VS_SETUP against the setup decision offset (R135). -/
def windowVsSetupTest (decisionOffset : Nat) (img : Image) : List ImageCheck :=
  [(25, decide (img.endOffset < decisionOffset))]

/-- CAPACITY against the capacity of the calibration copies (R135). -/
def capacityTest (capacity : Nat) (img : Image) : List ImageCheck :=
  [(19, decide (img.h2 + img.tare ≤ capacity))]

/-- Tests 1 to 5 of R131: those of the image alone. -/
def imageFault (img : Image) : Option SlotFault :=
  (firstFault .checkWord (checkWordTest img)).or <|
  (firstFault .fieldRange (fieldRangeTest img)).or <|
  (firstFault .limitOrder (limitOrderTest img)).or <|
  (firstFault .windowOrder (windowOrderTest img)).or <|
  firstFault .pattern (patternTest img)

/-- Tests 6 and 7 of R131: the recipe against the setup and the calibration (R135, R138). -/
def State.conflict (s : State) (img : Image) : Option SlotFault :=
  (firstFault .windowVsSetup (windowVsSetupTest s.decisionOffset img)).or <|
  firstFault .capacity (capacityTest s.wge.capacity img)

/-- The outcome of the verification operation: the first test that fails (R131). -/
def State.verify (s : State) (img : Image) : Option SlotFault := (imageFault img).or (s.conflict img)

/-! ## Requests -/

/-- The state byte of a slot, as reply data. -/
def State.slotData (s : State) (k : SlotId) : List Byte := [(s.rcs.slot k).state.toByte]

/-- The state bytes of both slots, as reply data (R139, R141): slot 0 first (DESIGN CHOICE, log 38). -/
def State.slotsData (s : State) : List Byte := s.slotData .s0 ++ s.slotData .s1

/-- A slot's image may be written or discarded (R128, R137). -/
def SlotState.idle : SlotState → Bool
  | .empty | .loading | .verified | .faulted => true
  | .verifying | .active | .draining => false

/-- WRITE_RECIPE (R128). -/
def serveWriteRecipe (s : State) : List Byte → Answer
  | k :: off :: n :: run =>
    match slotOf k, wordsOf run with
    | some k, some ws =>
      if n = 0 ∨ 64 < n.toNat ∨ ws.length ≠ n.toNat ∨ 256 < off.toNat + n.toNat then
        s.refuse .badArgument
      else if !(s.rcs.slot k).state.idle then s.refuse .slotState
      else
        let t := (s.onSlot k fun x =>
          { x with state := .loading, fault := none, image := writeWords x.image off.toNat ws }).bump
          .recipeWrites
        t.okay (t.slotData k)
    | _, _ => s.refuse .badArgument
  | _ => s.refuse .badRequest

/-- READ_RECIPE (R129). -/
def serveReadRecipe (s : State) : List Byte → Answer
  | [k, off, n] =>
    match slotOf k with
    | none => s.refuse .badArgument
    | some k =>
      if n = 0 ∨ 64 < n.toNat ∨ 256 < off.toNat + n.toNat then s.refuse .badArgument
      else s.okay (reportRecipe (s.rcs.slot k) off.toNat n.toNat)
  | _ => s.refuse .badRequest

/-- VERIFY_RECIPE (R130): the operation starts and the reply is held. -/
def serveVerifyRecipe (s : State) : List Byte → Answer ⊕ (State × Operation)
  | [k] =>
    match slotOf k with
    | none => .inl (s.refuse .badArgument)
    | some k =>
      if (s.rcs.slot k).state ≠ .loading then .inl (s.refuse .slotState)
      else .inr (s.onSlot k fun x => { x with state := .verifying }, .verify k)
  | _ => .inl (s.refuse .badRequest)

/-- The verification operation completes (R136). -/
def State.finishVerify (s : State) (k : SlotId) : Answer :=
  match s.verify (s.image k) with
  | none =>
    let t := (s.onSlot k fun x => { x with state := .verified, fault := none }).bump .verifyPasses
    t.okay (t.slotData k)
  | some f =>
    let t := (s.onSlot k fun x => { x with state := .faulted, fault := some f }).bump .verifyFaults
    t.okay (t.slotData k ++ faultBytes f)

/-- DISCARD_RECIPE (R137). -/
def serveDiscardRecipe (s : State) : List Byte → Answer
  | [k] =>
    match slotOf k with
    | none => s.refuse .badArgument
    | some k =>
      if !(s.rcs.slot k).state.idle then s.refuse .slotState
      else
        let t := s.onSlot k fun x =>
          { x with state := .empty, image := Vector.replicate 256 0, fault := none }
        t.okay (t.slotData k)
  | _ => s.refuse .badRequest

/-- A CHANGEOVER that passes every test (R139). -/
def State.changeTo (s : State) (k : SlotId) : State :=
  let s := s.onSlot k fun x => { x with state := .active }
  let s := if (s.rcs.slot k.other).state = .active then
      s.onSlot k.other fun x => { x with state := .draining } else s
  let s := if s.sup.holdDrg then s else s.clearTable (s.image k).recipeId
  (s.drainCheck k.other .atDrain).bump .changeovers

/-- CHANGEOVER (R138, R139). -/
def serveChangeover (s : State) : List Byte → Answer
  | [k] =>
    match slotOf k with
    | none => s.refuse .badArgument
    | some k =>
      if (s.rcs.slot k).state ≠ .verified then s.refuse .slotState
      else if s.drainingSlot.isSome then s.refuse .changeoverBusy
      else match s.conflict (s.image k) with
        | some f => (s.bump .changeoverConflicts).refuse .recipeConflict (faultBytes f)
        | none => (s.changeTo k).okay (s.changeTo k).slotsData
  | _ => s.refuse .badRequest

/-- A STOP_PRODUCT that passes both tests (R141). -/
def State.stopProduct (s : State) (k : SlotId) : State :=
  ((s.onSlot k fun x => { x with state := .draining }).drainCheck k .atDrain).bump .productStops

/-- STOP_PRODUCT (R141). -/
def serveStopProduct (s : State) : List Byte → Answer
  | [] =>
    match s.activeSlot with
    | none => s.refuse .slotState
    | some k =>
      if s.drainingSlot.isSome then s.refuse .changeoverBusy
      else (s.stopProduct k).okay (s.stopProduct k).slotsData
  | _ => s.refuse .badRequest

/-! ## Commands -/

/-- WRITE_RECIPE, request code 20h. -/
def execWriteRecipe (s : State) : Result := .next (s.serve 0x20 serveWriteRecipe)

/-- READ_RECIPE, request code 21h. -/
def execReadRecipe (s : State) : Result := .next (s.serve 0x21 serveReadRecipe)

/-- VERIFY_RECIPE, request code 22h. -/
def execVerifyRecipe (s : State) : Result := .next (s.serveLong 0x22 serveVerifyRecipe)

/-- VERIFICATION_COMPLETE (R136): occurs only while a verification is in service (log 2). -/
def execVerificationComplete (s : State) : Result :=
  .next (match s.mga.service with
    | some ⟨r, .verify k⟩ => replyTo r (s.endService.finishVerify k)
    | _ => s)

/-- DISCARD_RECIPE, request code 23h. -/
def execDiscardRecipe (s : State) : Result := .next (s.serve 0x23 serveDiscardRecipe)

/-- CHANGEOVER, request code 24h. -/
def execChangeover (s : State) : Result := .next (s.serve 0x24 serveChangeover)

/-- STOP_PRODUCT, request code 25h. -/
def execStopProduct (s : State) : Result := .next (s.serve 0x25 serveStopProduct)

end Sys2Proof.Machine
end

