-- ==== Sys2Proof/Machine/Code.lean ====
section
/-!
DEFINITION. The Code Checker (03): read triggers, code replies, pattern matching, date slots, the reader
fault run, hold, and the commands READ_TRIGGER_POINT and SET_DATE.
-/

namespace Sys2Proof.Machine

/-! ## Writing a code result (R66, R72, R79) -/

/-- The counter of a code class (R82). -/
def CodeClass.counter : CodeClass → Counter
  | .isMatch => .codeMatch
  | .mismatch => .codeMismatch
  | .lowGrade => .codeLowGrade
  | .noRead => .codeNoRead
  | .noResult => .codeNoResult
  | .notChecked => .codeNotChecked

/-- A code result is written into an entry, whose code state becomes RESULT (R66), and counted (R82). -/
def State.storeCode (s : State) (tag : Tag) (c : CodeResult) : State :=
  (s.onEntry tag fun e => { e with codeState := .result, code := some c }).bump c.cls.counter

/-- The reader fault run after a result of a class (R79). -/
def State.readerRun (s : State) (tag : Tag) (cls : CodeClass) : State :=
  match cls with
  | .noRead | .noResult =>
    if s.readerFaultLimit ≤ s.cck.faultRun + 1 then
      let t := (s.onCck fun c => { c with faultRun := 0 }).notify (.readerFault tag cls)
      (if s.readerLineStop then t.addCause .readerFault else t).bump .readerFaults
    else s.onCck fun c => { c with faultRun := c.faultRun + 1 }
  | _ => s.onCck fun c => { c with faultRun := 0 }

/-- A code result is written and acts on the reader fault run (R79). -/
def State.writeCode (s : State) (tag : Tag) (c : CodeResult) : State :=
  (s.storeCode tag c).readerRun tag c.cls

/-- A result without a reply: a class and nothing else (R66). -/
def bareCode (cls : CodeClass) : CodeResult := { cls := cls, grade := none, text := none, detail := none }

/-! ## Read triggers and deadlines (R67, R68, R71) -/

/-- Code checking is asked for: the entry names a slot whose recipe has it ON (R67). -/
def State.checksCode (s : State) (e : Entry) : Bool :=
  match e.slot with
  | none => false
  | some k => (s.image k).codeChecking

/-- The read trigger point (R67, R68). -/
def State.readTrigger (s : State) (tag : Tag) : State :=
  match s.entry tag with
  | none => s
  | some e =>
    if s.sup.holdCck || !s.checksCode e then s.writeCode tag (bareCode .notChecked)
    else if s.readerStation = 0 then
      (s.writeCode tag (bareCode .noResult)).bump .triggerNoStation
    else if s.queueFull .trigger then
      (s.writeCode tag (bareCode .noResult)).bump .triggerOverflow
    else
      (((s.join .trigger (.own s.readerStation 0x52 (bytesBE 2 tag.toNat) false))).onEntry tag
        fun e => { e with codeState := .requested }).bump .triggers

/-- The entry's code request is closed at its decision point (R71). -/
def State.closeCode (s : State) (tag : Tag) : State :=
  match s.entry tag with
  | none => s
  | some e =>
    if e.codeState = .requested then (s.writeCode tag (bareCode .noResult)).bump .codeDeadlines else s

/-! ## Matching the text (R73 to R76) -/

/-- What one position of an expanded pattern asks of a text character (R73). -/
inductive Position where
  | exactly (c : Byte)
  | digit
  | letter
  | any
  deriving DecidableEq, Repr

/-- A text character matches a position (R73). -/
def Position.admits : Position → Byte → Bool
  | .exactly c, b => b == c
  | .digit, b => decide (0x30 ≤ b.toNat) && decide (b.toNat ≤ 0x39)
  | .letter, b => decide (0x41 ≤ b.toNat) && decide (b.toNat ≤ 0x5A)
  | .any, b => printable b

/-- The positions one element word stands for (R73; 10, Recipe image). -/
def expandElement (lot date : List Byte) (w : Word16) : List Position :=
  match w.toNat / 256 with
  | 1 => [.exactly (BitVec.ofNat 8 w.toNat)]
  | 2 => [.digit]
  | 3 => [.letter]
  | 4 => [.any]
  | 5 => lot.map .exactly
  | 6 => date.map .exactly
  | _ => []

/-- The expanded pattern of a recipe under a resolved date text (R73). -/
def expandPattern (img : Image) (date : List Byte) : List Position :=
  img.elements.flatMap (expandElement img.lot date)

/-- The pattern holds a DATE element (R74). -/
def hasDate (img : Image) : Bool := img.elements.any fun w => w.toNat / 256 == 6

/-- The date text of an entry's generation, or why it does not resolve (R74). After a release and before the
first SET_DATE, R81 gives both NO_DATE for every pattern with a DATE element and this table for a stamp of
before the hold. The model follows the table: STALE_DATE for a stamp other than 0 and 255 (log 31). -/
def Cck.resolveDate (c : Cck) (gen : Byte) : Except MismatchDetail (List Byte) :=
  if gen = c.generation then (match c.current with | some t => .ok t | none => .error .noDate)
  else if gen = c.generation - 1 then (match c.previous with | some t => .ok t | none => .error .noDate)
  else .error .staleDate

/-- The first index at which a text fails an expanded pattern, none when it passes (R75); `i` is the
index of the heads. -/
def failIndex : Nat → List Position → List Byte → Option Nat
  | _, [], [] => none
  | i, [], _ :: _ => some i
  | i, _ :: _, [] => some i
  | i, p :: ps, b :: bs => if p.admits b then failIndex (i + 1) ps bs else some i

/-- How the pattern of a recipe fails a text, none when it passes (R74, R75). -/
def patternFailure (c : Cck) (img : Image) (gen : Byte) (text : List Byte) : Option MismatchDetail :=
  if hasDate img then
    match c.resolveDate gen with
    | .error d => some d
    | .ok date => (failIndex 0 (expandPattern img date) text).map .index
  else (failIndex 0 (expandPattern img []) text).map .index

/-- The grade fails a recipe's minimum (R76, case 3). -/
def lowGrade (img : Image) : Option Nat → Bool
  | some g => decide (g < img.minGrade)
  | none => decide (0 < img.minGrade)

/-- The code result of a taken reply (R72, R76). -/
def codeResultOf (c : Cck) (img : Image) (gen : Byte) (r : CodeReply) : CodeResult :=
  if !r.read then { cls := .noRead, grade := r.grade, text := some r.text, detail := none }
  else match patternFailure c img gen r.text with
    | some d => { cls := .mismatch, grade := r.grade, text := some r.text, detail := some d }
    | none =>
      { cls := if lowGrade img r.grade then .lowGrade else .isMatch, grade := r.grade,
        text := some r.text, detail := none }

/-! ## Code replies (R69, R70) -/

/-- The counter of a reply that finds a live entry and is not taken (R70). -/
def discardCounter (e : Entry) : Counter :=
  if (e.code.bind (·.text)).isSome then .duplicate
  else if e.stage = .decided ∨ e.stage = .awaitingConfirm then .late
  else .unsolicited

/-- A well formed reply is matched to an entry (R70). -/
def State.matchReply (s : State) (r : CodeReply) : State :=
  match s.entry r.tag with
  | none => s.bump .unknownTag
  | some e =>
    if e.codeState = .requested then
      match e.slot with
      | none => s.writeCode r.tag (bareCode .notChecked)
      | some k => s.writeCode r.tag (codeResultOf s.cck (s.image k) e.dateGen r)
    else s.bump (discardCounter e)

/-- A frame handed to the code intake (R69). -/
def State.codeIntake (s : State) (payload : List Byte) : State :=
  if s.sup.holdCck then s.bump .codeHeld
  else match codeReplyOf payload with
    | none => s.bump .codeMalformed
    | some r => (s.bump .codeReplies).matchReply r

/-! ## Hold (R80) -/

/-- The hold of the CCK (R80): every REQUESTED entry becomes NOT_CHECKED without touching the run, and the
date slots, generation and run return to their reset values. The release resumes from them (R81). -/
def State.holdCckBlock (s : State) : State :=
  let t := s.ctr.queue.foldl
    (fun t e => if e.codeState = .requested then t.storeCode e.tag (bareCode .notChecked) else t) s
  t.onCck fun _ => Cck.reset

/-! ## Commands -/

/-- READ_TRIGGER_POINT (R67). -/
def execReadTriggerPoint (tag : Tag) (s : State) : Result :=
  .next (s.atPoint tag .readTrigger State.readTrigger)

/-- SET_DATE (R77). While the CCK is held nothing changes, and the reply carries the generation as it stands
(DESIGN CHOICE, log 36). -/
def serveSetDate (s : State) : List Byte → Answer
  | [] => s.refuse .badRequest
  | len :: text =>
    if len.toNat ≠ text.length ∨ text.length ≠ 8 ∨ !text.all printable then s.refuse .badArgument
    else if s.sup.holdCck then s.okay [s.cck.generation]
    else
      let t := s.onCck fun c =>
        { c with current := some text, previous := c.current, generation := c.generation + 1 }
      (t.bump .dateSets).okay [t.cck.generation]

/-- SET_DATE, request code 38h. -/
def execSetDate (s : State) : Result := .next (s.serve 0x38 serveSetDate)

end Sys2Proof.Machine
end

