-- ==== Sys2Proof/Machine/Gate.lean ====
section
/-!
DEFINITION. The Gate Controller (05): the decision, the reject queue, the gate pulse and confirmation, and
the commands of these events. The readiness inputs stand in Supervision.lean.
-/

namespace Sys2Proof.Machine

/-! ## The reject cause set and the decision (R108 to R110) -/

/-- The causes a weigh result names (R109). -/
def weighCauses (w : WeighResult) : List RejectCause :=
  (match w.zone with
    | some .grossUnder => [.grossUnder]
    | some .under => [.under]
    | some .over => [.over]
    | some .grossOver => [.grossOver]
    | _ => [])
  ++ (match w.status with
    | .notWeighed => [.notWeighed]
    | .suspect => [.suspect]
    | .ok => [])

/-- The causes a code class names (R109). -/
def codeCauses : CodeClass → List RejectCause
  | .mismatch => [.codeMismatch]
  | .lowGrade => [.codeLowGrade]
  | .noRead => [.codeNoRead]
  | .noResult => [.codeNoResult]
  | .isMatch | .notChecked => []

/-- The reject cause set of an entry (R109). -/
def Entry.causeSet (e : Entry) : BitVec 12 :=
  causeMask ((e.weigh.map weighCauses).getD [] ++ (e.code.map fun c => codeCauses c.cls).getD []
    ++ (if e.origin = .stray then [.stray] else []) ++ (if e.slot.isNone then [.noRecipe] else []))

/-- The reject selection an entry is decided under (R110): its recipe's, or every cause for NONE. -/
def State.selectionFor (s : State) (e : Entry) : BitVec 12 :=
  match e.slot with
  | some k => (s.image k).rejectSelection
  | none => BitVec.allOnes 12

/-- The place of an entry in the tracking queue. -/
def State.rank (s : State) (tag : Tag) : Nat := s.ctr.queue.findIdx fun e => e.tag == tag

/-- A REJECT decision reaches the reject queue (R112). -/
def State.queueReject (s : State) (e : Entry) : State :=
  if s.gtc.rejects.length < 32 then
    let ahead := fun x : RejectItem => decide (s.rank x.tag < s.rank e.tag)
    s.onGtc fun g =>
      { g with rejects := g.rejects.takeWhile ahead ++
          { tag := e.tag, fire := s.firePos e } :: g.rejects.dropWhile ahead }
  else
    ((s.onEntry e.tag fun e => { e with unfired := true }).addCause .rejectOverflow).bump .rejectOverflows

/-- The decision is formed and acted on, the code request being closed (R108, steps 2 to 5). -/
def State.decideEntry (s : State) (tag : Tag) : State :=
  match s.entry tag with
  | none => s
  | some e =>
    let causes := e.causeSet
    let selected := causes &&& s.selectionFor e
    let decision : Decision := if selected = 0 then .accept else .reject
    let t := s.onEntry tag fun e =>
      { e with causes := causes, selected := selected, decision := some decision, stage := .decided }
    match decision with
    | .accept => t.bump .decisionsAccept
    | .reject =>
      ((t.bump .decisionsReject).queueReject e).countValve e.valve
        fun x => { x with rejected := satInc x.rejected }

/-- The decision point (R108). -/
def State.decisionPoint (s : State) (tag : Tag) : State := (s.closeCode tag).decideEntry tag

/-! ## The gate (R114, R115) -/

/-- The gate fires (R115): the pulse timer is started or restarted from the full gate pulse. -/
def State.fireGate (s : State) : State :=
  let t := s.bump .gateFires
  let t := if s.gateActive then t.bump .gateExtensions else t
  t.onGtc fun g => { g with gateTimer := some s.gatePulse }

/-- The counter of an exit outcome the Gate Controller decides (R124). -/
def ExitOutcome.counter : ExitOutcome → Counter
  | .missing => .missing
  | .flushed => .flushed
  | .confirmedAccept => .confirmedAccept
  | .rejectFailed => .rejectFailed
  | .lostAfterDecision => .lostAfterDecision
  | .rejectConfirmed => .rejectConfirmed
  | .unconfirmedAccept => .unconfirmedAccept
  | .unconfirmedReject => .unconfirmedReject

/-- An entry retires with an outcome, counted under its name. -/
def State.retireCounted (s : State) (out : ExitOutcome) (tag : Tag) : State :=
  (s.retire out tag).bump out.counter

/-- Steps 1 and 2 of the gate point (R114): the entry's item leaves the queue and the gate fires, or an
unfired reject passes. -/
def State.gateActs (s : State) (e : Entry) : State :=
  if s.gtc.rejects.any fun x => x.tag == e.tag then
    (s.onGtc fun g => { g with rejects := g.rejects.filter fun x => x.tag != e.tag }).fireGate
  else if e.decision = some .reject ∧ e.unfired then s.bump .unfiredAtGate
  else s

/-- The gate point (R114). -/
def State.gatePoint (s : State) (tag : Tag) : State :=
  match s.entry tag with
  | none => s
  | some e =>
    let t := (s.gateActs e).onEntry tag fun e => { e with stage := .awaitingConfirm }
    if s.confirmEnable then t
    else t.retireCounted
      (if e.decision = some .reject then .unconfirmedReject else .unconfirmedAccept) tag

/-! ## Confirmation (R116 to R118) -/

/-- The oldest AWAITING_CONFIRM entry whose confirm window holds `y` (R116). -/
def State.candidate (s : State) (y : Pos) : Option Entry :=
  s.ctr.queue.find? fun e => e.stage == .awaitingConfirm && s.confirmHolds e y

/-- An arrival paired with an entry (R117). At a REJECT_FAILED the CAN_RESULT joins before the LINE_STOP_CHANGE
notice: R158 lets either join come first (DESIGN CHOICE, log 37). -/
def State.confirmEntry (s : State) (e : Entry) : State :=
  if e.decision = some .reject then (s.retireCounted .rejectFailed e.tag).addCause .rejectFailed
  else s.retireCounted .confirmedAccept e.tag

/-- A confirm arrival at `y` (R116; R17 while STOPPED). -/
def State.confirmArrives (s : State) (y : Pos) : State :=
  if !s.trackingRuns then s.bump .confirmStopped
  else if !s.confirmEnable then s.bump .confirmDisabled
  else match s.candidate y with
    | none => s.bump .unexpectedAtExit
    | some e => s.confirmEntry e

/-- The confirm window close of an unpaired entry (R118). -/
def State.confirmCloses (s : State) (tag : Tag) : State :=
  match s.entry tag with
  | none => s
  | some e =>
    s.retireCounted (if e.decision = some .reject then .rejectConfirmed else .lostAfterDecision) tag

/-! ## Commands -/

/-- DECISION_POINT (R108). -/
def execDecisionPoint (tag : Tag) (s : State) : Result :=
  .next (s.atPoint tag .decision State.decisionPoint)

/-- GATE_POINT (R114). -/
def execGatePoint (tag : Tag) (s : State) : Result := .next (s.atPoint tag .gate State.gatePoint)

/-- GATE_PULSE_EXPIRY (R115): occurs only while the timer runs (log 2, 7). -/
def execGatePulseExpiry (s : State) : Result :=
  .next (if s.taking && s.gateActive then s.onGtc fun g => { g with gateTimer := none } else s)

/-- CONFIRM_ARRIVAL (R116): the oldest recognised arrival is taken (log 6). -/
def execConfirmArrival (s : State) : Result :=
  .next (match s.taking, s.ctr.confirmDue with
    | true, y :: rest => (s.onCtr fun c => { c with confirmDue := rest }).confirmArrives y
    | _, _ => s)

/-- CONFIRM_WINDOW_CLOSE (R118). -/
def execConfirmWindowClose (tag : Tag) (s : State) : Result :=
  .next (s.atPoint tag .confirmClose State.confirmCloses)

end Sys2Proof.Machine
end

