-- ==== Sys2Proof/Machine/Weighing.lean ====
section
/-!
DEFINITION. The Weigh Engine (02): samples and filtering, the occupancy list, the weigh result, zero
tracking, calibration copies, hold, and the commands of its events.
-/

namespace Sys2Proof.Machine

/-- The occupancy record of a tag changed by `f`. -/
def State.onRecord (s : State) (tag : Tag) (f : Occupancy → Occupancy) : State :=
  s.onWge fun w => { w with records := w.records.map fun r => if r.tag == tag then f r else r }

/-- The occupancy record of a tag. -/
def State.record (s : State) (tag : Tag) : Option Occupancy := s.wge.records.find? fun r => r.tag == tag

/-- A record marked DOUBLE (R49). -/
def Occupancy.markDouble (r : Occupancy) : Occupancy := { r with acc := { r.acc with double := true } }

/-- A record flagged NO_SAMPLES (R49). -/
def Occupancy.markNoSamples (r : Occupancy) : Occupancy := { r with acc := { r.acc with noSamples := true } }

/-! ## The empty platform and the zero (R56 to R59) -/

/-- The empty-platform accumulator emptied without being counted. -/
def State.clearEmpty (s : State) : State := s.onWge fun w => { w with emptySum := 0, emptyCount := 0 }

/-- The empty-platform accumulator discarded (R56). -/
def State.discardEmpty (s : State) : State :=
  if s.wge.emptyCount = 0 then s.clearEmpty else s.clearEmpty.bump .zeroAbandoned

/-- A ZERO_STATE notice with the zero state and Z as they stand. -/
def State.notifyZero (s : State) : State := s.notify (.zeroState s.wge.zeroState s.wge.zero)

/-- An armed capture at an empty-platform evaluation (R59). -/
def State.captureZero (s : State) (ze : Int) : State :=
  let t := s.onWge fun w =>
    { w with zero := ze, zeroState := .tracking, driftRun := 0, captureArmed := false }
  (if s.wge.zeroState = .lost then t.notifyZero else t).bump .zeroCaptures

/-- An in-band evaluation (R57, case 3). -/
def State.trackZero (s : State) (diff : Int) : State :=
  let t := s.onWge fun w =>
    { w with zero := w.zero + roundDiv (diff * s.zeroCoefficient) 16, zeroState := .tracking, driftRun := 0 }
  (if s.wge.zeroState = .lost then t.notifyZero else t).bump .zeroUpdates

/-- An out-of-band evaluation (R58). -/
def State.zeroOutOfBand (s : State) : State :=
  let run := s.wge.driftRun + 1
  let t :=
    if s.driftLimit ≤ run then
      let u := s.onWge fun w => { w with driftRun := 0, zeroState := .lost }
      if s.wge.zeroState = .tracking then u.notifyZero else u
    else s.onWge fun w => { w with driftRun := run }
  t.bump .zeroOutOfBand

/-- An empty-platform evaluation with the empty value `ze` (R57). -/
def State.evaluateEmpty (s : State) (ze : Int) : State :=
  let diff := ze - s.wge.zero
  if s.wge.captureArmed then s.captureZero ze
  else if s.zeroBand = 0 then s
  else if diff.natAbs ≤ s.zeroBand then s.trackZero diff
  else s.zeroOutOfBand

/-- An output taken by the empty-platform accumulator (R56). -/
def State.emptyTakes (s : State) (o : Output) : State :=
  if o.overrange ∨ o.exc ≠ .normal then s.discardEmpty
  else
    let sum := s.wge.emptySum + o.value
    let n := s.wge.emptyCount + 1
    if s.emptyWindow ≤ n then (s.evaluateEmpty (roundDiv sum n)).clearEmpty
    else s.onWge fun w => { w with emptySum := sum, emptyCount := n }

/-! ## Filtering (R37 to R39) -/

/-- An output joins an open window's accumulator (R49). -/
def Accumulator.join (a : Accumulator) (o : Output) : Accumulator :=
  { a with
    sum := a.sum + o.value
    count := satInc a.count
    minimum := some (match a.minimum with | none => o.value | some m => min m o.value)
    maximum := some (match a.maximum with | none => o.value | some m => max m o.value)
    overrange := a.overrange || o.overrange
    warn := a.warn || o.exc == .warn
    halt := a.halt || o.exc == .halt }

/-- An empty accumulator (R41). -/
def Accumulator.empty : Accumulator :=
  { sum := 0, count := 0, minimum := none, maximum := none, overrange := false, warn := false,
    halt := false, double := false, noSamples := false }

/-- A record with `o` joined when its window is open. -/
def Occupancy.take (r : Occupancy) (o : Output) : Occupancy :=
  if r.window = .opened then { r with acc := r.acc.join o } else r

/-- No record on the list is ON_PLATFORM (R56). -/
def State.platformEmpty (s : State) : Bool := s.wge.records.all fun r => r.platform != .onPlatform

/-- An output is handed to its three places (R39). -/
def State.produce (s : State) (o : Output) : State :=
  let t := s.onWge fun w => { w with output := some o, records := w.records.map (·.take o) }
  if s.platformEmpty then t.emptyTakes o else t

/-- A decimated value joins the moving-average history (R38). -/
def State.joinHistory (s : State) (v : FlaggedValue) : State :=
  let h := s.wge.history ++ [v]
  let h := h.drop (h.length - s.averageLength)
  let t := s.onWge fun w => { w with history := h }
  if h.length = s.averageLength then
    t.produce { value := roundDiv (h.map (·.value)).sum s.averageLength,
                overrange := h.any (·.overrange), exc := s.sup.exc }
  else t

/-- A sample enters the decimator (R37). -/
def State.decimate (s : State) (x : FlaggedValue) : State :=
  let sum := s.wge.decSum + x.value
  let n := s.wge.decCount + 1
  let flag := s.wge.decFlag || x.overrange
  if s.decimation ≤ n then
    (s.onWge fun w => { w with decSum := 0, decCount := 0, decFlag := false }).joinHistory
      { value := roundDiv sum s.decimation, overrange := flag }
  else s.onWge fun w => { w with decSum := sum, decCount := n, decFlag := flag }

/-- The decimator and the history emptied and the current output absent (R35, R40). -/
def State.emptyFilter (s : State) : State :=
  s.onWge fun w => { w with decSum := 0, decCount := 0, decFlag := false, history := [], output := none }

/-- A sample taken (R34, R36). -/
def State.takeSample (s : State) (x : FlaggedValue) : State :=
  let t := s.onWge fun w => { w with gapTimer := some s.sampleGap }
  let t :=
    if s.wge.sampleState = .sampleLoss then
      (t.onWge fun w => { w with sampleState := .samplesOk }).notify (.sampleState .samplesOk)
    else t
  t.decimate x

/-- The sample gap timer expires (R35). -/
def State.loseSamples (s : State) : State :=
  let t := s.onWge fun w =>
    { w with sampleState := .sampleLoss, gapTimer := none,
             records := w.records.map fun r => if r.window = .opened then r.markNoSamples else r }
  (t.discardEmpty.emptyFilter.notify (.sampleState .sampleLoss)).bump .sampleLosses

/-! ## The weigh result (R50 to R54) -/

/-- The zone of a net under a recipe's limits (R54). -/
def zoneOf (img : Image) (net : Int) : Zone :=
  if net < img.l2 then .grossUnder
  else if net < img.l1 then .under
  else if net ≤ img.h1 then .good
  else if net ≤ img.h2 then .over
  else .grossOver

/-- The gross before the capacity comparison (R53). -/
def grossOf (span : Nat) (zero mean : Int) : Int := roundDiv ((mean - zero) * span) 65536

/-- A result without gross, net and zone. -/
def notWeighed (reason : WeighReason) : WeighResult :=
  { status := .notWeighed, reason := some reason, gross := none, net := none, zone := none }

/-- The first of reasons 1 to 8 of R50 that applies. -/
def State.earlyReason (s : State) (e : Entry) (a : Accumulator) : Option WeighReason :=
  if s.sup.holdWge then some .engineHeld
  else if s.calAbsent then some .noCalibration
  else match e.slot with
    | none => some .noRecipe
    | some k =>
      if a.noSamples then some .noSamples
      else if a.halt then some .excitationHalt
      else if a.double then some .doubleOnPlatform
      else if a.overrange then some .overrange
      else if a.count.toNat < (s.image k).minOutputs then some .shortWindow
      else none

/-- The spread of a window: maximum less minimum. -/
def Accumulator.spread (a : Accumulator) : Int := a.maximum.getD 0 - a.minimum.getD 0

/-- The result of a window that passes reasons 1 to 8, under the recipe `img` (R50 to R54). -/
def State.fullResult (s : State) (img : Image) (a : Accumulator) : WeighResult :=
  let g := grossOf s.wge.span s.wge.zero (roundDiv a.sum a.count.toNat)
  let c : Int := s.wge.capacity
  let gross := clampInt (-c) c g
  if (img.stabilityLimit : Int) < a.spread then
    { status := .notWeighed, reason := some .unstable, gross := some gross, net := none, zone := none }
  else if c < g then
    { status := .notWeighed, reason := some .overload, gross := some gross, net := none, zone := none }
  else if g < -c then
    { status := .notWeighed, reason := some .underload, gross := some gross, net := none, zone := none }
  else
    let net := g - img.tare
    let full := fun status reason =>
      { status := status, reason := reason, gross := some g, net := some net,
        zone := some (zoneOf img net) : WeighResult }
    if a.warn then full .suspect (some .excitationWarn)
    else if s.wge.zeroState = .lost then full .suspect (some .zeroLost)
    else full .ok none

/-- The weigh result of entry `e` from its window's accumulator (R50). -/
def State.weighResult (s : State) (e : Entry) (a : Accumulator) : WeighResult :=
  match s.earlyReason e a, e.slot with
  | some r, _ => notWeighed r
  | none, some k => s.fullResult (s.image k) a
  | none, none => notWeighed .noRecipe

/-- The counter of a weigh status (R64). -/
def WeighStatus.counter : WeighStatus → Counter
  | .ok => .resultsOk
  | .suspect => .resultsSuspect
  | .notWeighed => .resultsNotWeighed

/-- A weigh result is written into an entry, which moves to AWAITING_DECISION (R42, R46, R61). -/
def State.writeWeigh (s : State) (tag : Tag) (w : WeighResult) : State :=
  (s.onEntry tag fun e => { e with weigh := some w, stage := .awaitingDecision }).bump w.status.counter

/-! ## The hand-off and the platform points (R42 to R47) -/

/-- An arrival at a full list (R43). -/
def State.crowded (s : State) (tag : Tag) : State :=
  let t := s.writeWeigh tag (notWeighed (if s.calAbsent then .noCalibration else .doubleOnPlatform))
  (t.onWge fun w =>
    { w with records := w.records.map fun r => if r.window = .closed then r else r.markDouble }).bump
    .platformCrowded

/-- The hand-off of a paired or stray entry (R42). -/
def State.handOff (s : State) (tag : Tag) (slot : Option SlotId) : State :=
  if s.sup.holdWge then s.writeWeigh tag (notWeighed .engineHeld)
  else if slot.isNone then
    s.writeWeigh tag (notWeighed (if s.calAbsent then .noCalibration else .noRecipe))
  else if 4 ≤ s.wge.records.length then s.crowded tag
  else s.onWge fun w =>
    { w with records := w.records ++
        [{ tag := tag, platform := .approaching, window := .waiting, acc := Accumulator.empty }] }

/-- The platform entry point (R44). -/
def State.platformEntry (s : State) (tag : Tag) : State :=
  match s.record tag with
  | none => s
  | some _ =>
    (s.onWge fun w =>
      { w with records := w.records.map fun r =>
          if r.tag == tag then { r with platform := .onPlatform }
          else if r.window = .opened then r.markDouble else r }).discardEmpty

/-- The settle point (R45). -/
def State.settle (s : State) (tag : Tag) : State :=
  match s.record tag with
  | none => s
  | some _ =>
    let double := s.wge.records.any fun r => r.tag != tag && r.platform == .onPlatform
    let lost := s.wge.sampleState == .sampleLoss
    s.onRecord tag fun r =>
      { r with window := .opened,
               acc := { r.acc with double := r.acc.double || double, noSamples := r.acc.noSamples || lost } }

/-- The end point (R46). -/
def State.endWindow (s : State) (tag : Tag) : State :=
  match s.record tag with
  | none => s
  | some r =>
    let t := s.onRecord tag fun r => { r with window := .closed }
    match s.entry tag with
    | none => t
    | some e => (t.writeWeigh tag (s.weighResult e r.acc)).offer e (s.weighResult e r.acc)

/-- The exit point (R47). -/
def State.leavePlatform (s : State) (tag : Tag) : State :=
  s.onWge fun w => { w with records := w.records.filter fun r => r.tag != tag }

/-! ## Calibration copies, hold and release (R60 to R62) -/

/-- The copies are taken from a record, and Z with them (R60). -/
def State.takeCopies (s : State) (c : CalRecord) : State :=
  let t := (s.onWge fun w =>
    { w with span := c.span, capacity := c.capacity, calZero := c.zero, zero := c.zero,
             zeroState := .tracking, driftRun := 0 }).clearEmpty
  if s.wge.zeroState = .lost then t.notifyZero else t

/-- The hold of the WGE (R61). -/
def State.holdWgeBlock (s : State) : State :=
  let t := s.wge.records.foldl
    (fun t r => if r.window = .closed then t else t.writeWeigh r.tag (notWeighed .engineHeld)) s
  t.onWge fun w =>
    { Wge.reset with span := w.span, capacity := w.capacity, calZero := w.calZero, zero := w.calZero }

/-! ## Commands -/

/-- SAMPLE_ARRIVAL (R34): no sample is taken before start-up completes nor while the WGE is held. -/
def execSampleArrival (value : BitVec 24) (overrange : Bool) (s : State) : Result :=
  .next (if s.taking && !s.sup.holdWge then
    s.takeSample { value := value.toInt, overrange := overrange } else s)

/-- SAMPLE_GAP_EXPIRY (R35): occurs only while the timer runs (log 2, 7). -/
def execSampleGapExpiry (s : State) : Result :=
  .next (if s.taking && s.wge.gapTimer.isSome then s.loseSamples else s)

/-- PLATFORM_ENTRY_POINT (R44). -/
def execPlatformEntryPoint (tag : Tag) (s : State) : Result :=
  .next (s.atPoint tag .platformEntry State.platformEntry)

/-- SETTLE_POINT (R45). -/
def execSettlePoint (tag : Tag) (s : State) : Result := .next (s.atPoint tag .settle State.settle)

/-- END_POINT (R46). -/
def execEndPoint (tag : Tag) (s : State) : Result := .next (s.atPoint tag .endOfWindow State.endWindow)

/-- EXIT_POINT (R47). -/
def execExitPoint (tag : Tag) (s : State) : Result := .next (s.atPoint tag .exit State.leavePlatform)

/-- READ_PLATFORM (R63). -/
def serveReadPlatform (s : State) : List Byte → Answer
  | [] => s.okay (reportPlatform s)
  | _ => s.refuse .badRequest

/-- ZERO_NOW (R59). -/
def serveZeroNow (s : State) : List Byte → Answer
  | [] => if s.sup.holdWge then s.okay else (s.onWge fun w => { w with captureArmed := true }).okay
  | _ => s.refuse .badRequest

/-- READ_PLATFORM, request code 04h. -/
def execReadPlatform (s : State) : Result := .next (s.serve 0x04 serveReadPlatform)

/-- ZERO_NOW, request code 39h. -/
def execZeroNow (s : State) : Result := .next (s.serve 0x39 serveZeroNow)

end Sys2Proof.Machine
end

