-- ==== Sys2Proof/Machine/Tracking.lean ====
section
/-!
DEFINITION. The Can Tracker (01): eye monitors, the encoder, infeed arrivals, strays, missing cans,
discharge intake and the run state, and the commands of these events.
-/

namespace Sys2Proof.Machine

/-! ## Eye monitors (R21, R22) -/

/-- The two eyes. -/
inductive Eye where
  | infeed
  | confirm
  deriving DecidableEq, Repr

/-- An eye's monitor. -/
def State.monitor (s : State) : Eye → EyeMonitor
  | .infeed => s.ctr.infeed
  | .confirm => s.ctr.confirm

/-- An eye's monitor replaced. -/
def State.setMonitor (s : State) (eye : Eye) (m : EyeMonitor) : State :=
  match eye with
  | .infeed => s.onCtr fun c => { c with infeed := m }
  | .confirm => s.onCtr fun c => { c with confirm := m }

/-- The eye reads blocked under its polarity. -/
def State.eyeBlocked (s : State) : Eye → Bool
  | .infeed => s.infeedBlocked
  | .confirm => s.confirmBlocked

/-- The splash counter of an eye (R31). -/
def Eye.splashCounter : Eye → Counter
  | .infeed => .infeedSplashes
  | .confirm => .confirmSplashes

/-- An arrival is recognised at the latched position, and the monitor goes to EYE_TAKEN (R21). -/
def State.recognise (s : State) (eye : Eye) (latched : Pos) : State :=
  match eye with
  | .infeed => s.onCtr fun c =>
      { c with infeed := { state := .taken, latched := latched }, infeedDue := c.infeedDue ++ [latched] }
  | .confirm => s.onCtr fun c =>
      { c with confirm := { state := .taken, latched := latched }, confirmDue := c.confirmDue ++ [latched] }

/-- An eye becomes blocked (R21). -/
def State.eyeBlocks (s : State) (eye : Eye) : State :=
  if (s.monitor eye).state ≠ .clear then s
  else if s.minBlock = 0 then s.recognise eye s.ctr.position
  else s.setMonitor eye { state := .pending, latched := s.ctr.position }

/-- An eye becomes clear (R21). -/
def State.eyeClears (s : State) (eye : Eye) : State :=
  match (s.monitor eye).state with
  | .clear => s
  | .pending =>
    (s.setMonitor eye { s.monitor eye with state := .clear }).bump eye.splashCounter
  | .taken => s.setMonitor eye { s.monitor eye with state := .clear }

/-- The position has advanced: a pending monitor that reaches its distance recognises its arrival (R21). -/
def State.debounce (s : State) (eye : Eye) : State :=
  if (s.monitor eye).state = .pending ∧ s.ctr.position = (s.monitor eye).latched + dist s.minBlock then
    s.recognise eye (s.monitor eye).latched
  else s

/-- The minimum block distance has been written (R21). -/
def State.minBlockChanged (s : State) (eye : Eye) : State :=
  if (s.monitor eye).state = .pending ∧
      atOrAfter s.ctr.position ((s.monitor eye).latched + dist s.minBlock) then
    s.recognise eye (s.monitor eye).latched
  else s

/-- The eye is watched from now on: a monitor in EYE_CLEAR whose eye reads blocked takes that as the eye
becoming blocked (R22). -/
def State.watchEye (s : State) (eye : Eye) : State := if s.eyeBlocked eye then s.eyeBlocks eye else s

/-- The eye's polarity has been written (R22). -/
def State.polarityChanged (s : State) (eye : Eye) : State :=
  (s.setMonitor eye { s.monitor eye with state := .clear }).watchEye eye

/-! ## Infeed arrivals (R23 to R26) -/

/-- What the owning block does at a point (R29). -/
def Point.act : Point → State → Tag → State
  | .readTrigger => State.readTrigger
  | .platformEntry => State.platformEntry
  | .settle => State.settle
  | .endOfWindow => State.endWindow
  | .exit => State.leavePlatform
  | .decision => State.decisionPoint
  | .gate => State.gatePoint
  | .confirmClose => State.confirmCloses

/-- A late announcement: none once the entry has retired (R7, R26). -/
def State.announce (s : State) (tag : Tag) (p : Point) : State :=
  match s.entry tag with
  | none => s
  | some _ => p.act s tag

/-- Points already gone by at the arrival are announced in order (R26). -/
def State.announceGoneBy (s : State) (tag : Tag) : State :=
  match s.entry tag with
  | none => s
  | some e => (s.pointsGoneBy e).foldl (fun t p => t.announce tag p) s

/-- After an arrival has given an entry its Q: the hand-off and the late announcements (R26). -/
def State.arrived (s : State) (tag : Tag) (slot : Option SlotId) : State :=
  (s.handOff tag slot).announceGoneBy tag

/-- An arrival paired with the oldest EN_ROUTE entry (R23). -/
def State.pair (s : State) (e : Entry) (q : Pos) : State :=
  let t := s.onEntry e.tag fun x => { x with infeedPos := some q, stage := .weighing }
  ((t.onCtr fun c => { c with slipRun := 0 }).bump .paired).arrived e.tag e.slot

/-- A stray arrival (R24, R25). -/
def State.strayArrives (s : State) (q : Pos) : State :=
  if s.ctr.queue.length < 256 then
    let e := { newEntry .stray .weighing s.activeSlot s.cck.generation with infeedPos := some q }
    (((s.addEntry e).bump .strays).raiseSlip).arrived (s.tagOf s.freeIndex) e.slot
  else ((s.bump .untracked).addCause .untrackedCan).raiseSlip

/-- An infeed arrival with latched position `q` (R23; R17 while STOPPED). `q` never lies beyond the upper edge of
the entry it finds: with a minimum block distance of 0 the expiry was taken before (`State.eyeChanged`), and with
a greater one at an earlier step, unless both fall at one step and `q` lies inside the window (R27). -/
def State.infeedArrives (s : State) (q : Pos) : State :=
  if !s.trackingRuns then s.bump .infeedStopped
  else
    let t := s.bump .arrivals
    match s.oldestEnRoute with
    | none => t.strayArrives q
    | some e => if atOrAfter q (s.windowLow e) then t.pair e q else t.strayArrives q

/-! ## Missing cans (R27) -/

/-- An EN_ROUTE entry retires as MISSING (R27); its CAN_RESULT joins before the notices of a slip event (log 37). -/
def State.expire (s : State) (e : Entry) : State :=
  (((s.retire .missing e.tag).bump .missing).countValve e.valve
    fun x => { x with missing := satInc x.missing }).raiseSlip

/-- Every expiry that is reached, oldest first; `n` bounds their number (R27). -/
def State.expireAll (s : State) : Nat → State
  | 0 => s
  | n + 1 => match s.expired with
    | none => s
    | some e => (s.expire e).expireAll n

/-! ## The encoder (R8 to R10, R30) -/

/-- Whatever the position has brought on and no command has taken: before the next encoder step, and before an
arrival that is recognised at the blocking itself, the part takes it, arrivals first, then expiries, then points
(log 6). -/
def State.takeOutstanding (s : State) : State :=
  let s := s.ctr.infeedDue.foldl
    (fun t q => (t.onCtr fun c => { c with infeedDue := c.infeedDue.tail }).infeedArrives q) s
  let s := s.ctr.confirmDue.foldl
    (fun t y => (t.onCtr fun c => { c with confirmDue := c.confirmDue.tail }).confirmArrives y) s
  let s := s.expireAll s.ctr.queue.length
  s.ctr.pointsDue.foldl (fun t d => t.atPoint d.tag d.point d.point.act) s

/-- What a change of an eye's level does once the pin stands at its new level (R21). With a minimum block distance
of 0 the blocking is an arrival at the position then current, and every expiry and point of that position was taken
at the step that reached it (R23, R27, R30), so whatever is outstanding is taken first. -/
def State.eyeChanged (s : State) (eye : Eye) : State :=
  if s.eyeBlocked eye then
    (if s.minBlock = 0 ∧ (s.monitor eye).state = .clear then s.takeOutstanding else s).eyeBlocks eye
  else s.eyeClears eye

/-- The points that lie at the present position, entry by entry in queue order (R30). -/
def State.duePoints (s : State) : List PointDue :=
  s.ctr.queue.flatMap fun e =>
    if e.stage = .enRoute then []
    else (s.pointsAt e s.ctr.position).map fun p => { tag := e.tag, point := p }

/-- The position advances by one (R9, R21, R30). -/
def State.advance (s : State) : State :=
  let t := s.onCtr fun c => { c with position := c.position + 1 }
  let t := (t.debounce .infeed).debounce .confirm
  t.onCtr fun c => { c with pointsDue := c.pointsDue ++ t.duePoints }

/-- A forward step (R9). -/
def State.forwardStep (s : State) : State :=
  if 0 < s.ctr.debt then s.onCtr fun c => { c with debt := c.debt - 1 } else s.advance

/-- A conveyor reversal fault (R10). -/
def State.reversalFault (s : State) : State :=
  (((s.flush).onCtr fun c => { c with run := .stopped }).addCause .conveyorReversed).bump .reversalFaults

/-- A reverse step (R9, R10). -/
def State.reverseStep (s : State) : State :=
  if s.ctr.debt < 4095 then s.onCtr fun c => { c with debt := c.debt + 1 }
  else if s.trackingRuns then s.reversalFault
  else s

/-- A change of the encoder lines from `a b` to `a' b'` is a forward step: ENC_A leads ENC_B (R8, log 25). -/
def isForward (a b a' b' : Bool) : Bool := if a != a' then a' != b else b' == a

/-- A change of the encoder lines while the part takes steps (R8). -/
def State.encoderChange (s : State) (a b : Bool) : State :=
  let t := (s.onPins fun p => { p with encA := a, encB := b }).takeOutstanding
  if a != s.pins.encA && b != s.pins.encB then t.bump .encoderErrors
  else if isForward s.pins.encA s.pins.encB a b then t.forwardStep
  else t.reverseStep

/-! ## Discharge intake (R18 to R20) -/

/-- The slot a discharge's recipe id gives (R19). -/
def State.slotForId (s : State) (id : Nat) : Option SlotId :=
  (s.activeSlot.filter fun k => (s.image k).recipeId == id).or
    (s.drainingSlot.filter fun k => (s.image k).recipeId == id)

/-- A DISCHARGE taken while tracking is RUNNING (R18, R20). -/
def State.discharge (s : State) (d : Discharge) : State :=
  let known := !s.inert d.valve
  let stale := known && s.staleAt d.valve d.epoch
  let t := s.bump .discharges
  let t := if known then t.takeEpoch d.valve d.epoch else t
  if s.ctr.queue.length < 256 then
    let p := s.ctr.position
    let e := { newEntry .filled .enRoute (s.slotForId d.recipeId) s.cck.generation with
      valve := if known then some d.valve else none, serial := some d.serial, epoch := some d.epoch,
      dischargePos := some p, expectedPos := some (p + dist s.pathLength), stale := stale }
    let t := t.addEntry e
    if known then t else t.bump .badValve
  else t.bump .trackOverflow

/-- A frame handed to the discharge intake (R17, R18). -/
def State.dischargeIntake (s : State) (d : Discharge) : State :=
  if s.trackingRuns then s.discharge d else s.bump .dischargesStopped

/-! ## Run state (R13 to R16) -/

/-- The first condition of START_TRACKING that fails (R13). -/
def State.startConflict (s : State) : Option Nat :=
  if ¬ s.actuatorLead < s.gatePosition then some 1
  else if ¬ s.readOffset < s.decisionOffset then some 2
  else if ¬ s.decisionOffset < s.gatePosition - s.actuatorLead then some 3
  else if s.confirmEnable ∧ ¬ s.gatePosition + s.confirmTolerance < s.confirmOffset then some 4
  else match s.activeSlot with
    | none => none
    | some k => if (s.image k).endOffset < s.decisionOffset then none else some 5

/-- START_TRACKING (R13). -/
def serveStartTracking (s : State) : List Byte → Answer
  | [] =>
    if s.trackingRuns then s.refuse .trackingRunning
    else match s.startConflict with
      | some n => s.refuse .setupInconsistent [BitVec.ofNat 8 n]
      | none => (s.onCtr fun c => { c with run := .running, debt := 0, slipRun := 0 }).okay
  | _ => s.refuse .badRequest

/-- STOP_TRACKING (R15). -/
def serveStopTracking (s : State) : List Byte → Answer
  | [] => (s.flush.onCtr fun c => { c with run := .stopped }).okay
  | _ => s.refuse .badRequest

/-- FLUSH_TRACKING (R16). -/
def serveFlushTracking (s : State) : List Byte → Answer
  | [] => s.flush.okay
  | _ => s.refuse .badRequest

/-! ## Commands -/

/-- ENCODER_STEP (R8): the lines' levels are kept in every phase; no step is decoded before start-up
completes, and equal levels are no change (log 2). -/
def execEncoderStep (a b : Bool) (s : State) : Result :=
  .next (if s.taking && (a != s.pins.encA || b != s.pins.encB) then s.encoderChange a b
    else s.onPins fun p => { p with encA := a, encB := b })

/-- INFEED_EYE_CHANGE (R21): the level is kept in every phase; it is watched once start-up has completed. -/
def execInfeedEyeChange (level : Bool) (s : State) : Result :=
  .next (
    let t := s.onPins fun p => { p with eyeIn := level }
    if s.taking && level != s.pins.eyeIn then t.eyeChanged .infeed else t)

/-- CONFIRM_EYE_CHANGE (R21). -/
def execConfirmEyeChange (level : Bool) (s : State) : Result :=
  .next (
    let t := s.onPins fun p => { p with eyeConf := level }
    if s.taking && level != s.pins.eyeConf then t.eyeChanged .confirm else t)

/-- INFEED_ARRIVAL (R23): the oldest recognised arrival is taken (log 6). -/
def execInfeedArrival (s : State) : Result :=
  .next (match s.taking, s.ctr.infeedDue with
    | true, q :: rest => (s.onCtr fun c => { c with infeedDue := rest }).infeedArrives q
    | _, _ => s)

/-- MISSING_EXPIRY (R27): occurs only when the oldest EN_ROUTE entry's expiry is reached (log 2, 6). -/
def execMissingExpiry (s : State) : Result :=
  .next (match s.taking, s.expired with
    | true, some e => s.expire e
    | _, _ => s)

/-- START_TRACKING, request code 30h. -/
def execStartTracking (s : State) : Result := .next (s.serve 0x30 serveStartTracking)

/-- STOP_TRACKING, request code 31h. -/
def execStopTracking (s : State) : Result := .next (s.serve 0x31 serveStopTracking)

/-- FLUSH_TRACKING, request code 32h. -/
def execFlushTracking (s : State) : Result := .next (s.serve 0x32 serveFlushTracking)

end Sys2Proof.Machine
end

