-- ==== Sys2Proof/Machine/Loop.lean ====
section
/-!
DEFINITION. The Loop Interface (07): receive checks, classification, forwarding, the transmit port, the pass
table, and the commands FRAME_COMPLETION, TRANSMISSION_END, PORT_FREE and the pass-table requests.
-/

namespace Sys2Proof.Machine

/-! ## Intakes (R154, 08 R165) -/

/-- A management frame at the MGA (08 R165). -/
def State.mgmtIntake (s : State) (source : Byte) (payload : List Byte) : State :=
  match payload with
  | code :: tag :: args =>
    if s.lineController ≠ 0 ∧ source ≠ s.lineController then s.bump .mgmtForeign
    else if 4 ≤ s.mga.requests.length then s.bump .mgmtOverrun
    else
      ((s.onMga fun m => { m with requests := m.requests ++
        [{ source := source, code := code, tag := tag, args := args }] }).bump .requestsTaken).noteWait
  | _ => s.bump .mgmtMalformed

/-- A frame is handed to the discharge or code intake (R154). -/
def State.handTo (s : State) (i : Intake) (f : Frame) : State :=
  match i with
  | .nothing => s
  | .discharge =>
    match dischargeOf f.payload with
    | some d => (s.bump .takenDischarge).dischargeIntake d
    | none => s.bump .intakeMalformed
  | .code => (s.bump .takenCode).codeIntake f.payload

/-! ## Forwarding (R155) -/

/-- A frame is forwarded (R155). -/
def State.forward (s : State) (f : Frame) : State :=
  if f.hop = 1 then s.bump .hopExhausted
  else if s.queueFull .forward then s.bump .forwardOverflow
  else (s.join .forward (.passing { f with hop := f.hop - 1 }.withCrc)).bump .forwarded

/-- A frame goes both ways; which way is taken first is a free value (log 11). -/
def State.handAndForward (s : State) (i : Intake) (f : Frame) : State :=
  if Config.forwardFirst s.freeCount then (s.drawn.forward f).handTo i f
  else (s.drawn.handTo i f).forward f

/-! ## Classification (R150 to R153) -/

/-- The match of a frame in the pass table (R150). -/
def State.passMatch (s : State) (f : Frame) : Option PassEntry :=
  s.lif.pass.toList.findSome? fun e =>
    e.filter fun x => x.kind == f.kind && (x.source == 0 || x.source == f.source)

/-- A frame addressed to the part (R151). -/
def State.classifyOwn (s : State) (f : Frame) : State :=
  if f.kind = 0x40 then (s.bump .takenManagement).mgmtIntake f.source f.payload
  else match s.passMatch f with
    | some ⟨_, _, .discharge, _⟩ => s.handTo .discharge f
    | some ⟨_, _, .code, _⟩ => s.handTo .code f
    | _ => s.bump .unclaimed

/-- A broadcast frame (R152). -/
def State.classifyBroadcast (s : State) (f : Frame) : State :=
  match s.passMatch f with
  | none => s.forward f
  | some e =>
    if e.forward then
      if e.intake = .nothing then s.forward f else s.handAndForward e.intake f
    else (s.handTo e.intake f).bump .notForwarded

/-- A frame addressed to another station (R153; log 21). -/
def State.classifyOther (s : State) (f : Frame) : State :=
  match s.passMatch f with
  | none => s.forward f
  | some e => if e.intake = .nothing then s.forward f else s.handAndForward e.intake f

/-- A frame that has passed the receive checks (R151 to R153). -/
def State.classify (s : State) (f : Frame) : State :=
  if f.dest = s.ownStation then s.classifyOwn f
  else if f.dest = 63 then s.classifyBroadcast f
  else s.classifyOther f

/-- The counter of the first receive check a frame fails (R148). -/
def State.receiveFault (s : State) (f : Frame) : Option Counter :=
  if f.computedCrc ≠ f.crc then some .rxCrcErrors
  else if f.source = 0 ∨ f.source = 63 then some .rxBadSource
  else if f.source = s.ownStation then some .rxOwnReturned
  else if f.dest = 0 then some .rxNoDestination
  else if f.hop = 0 then some .rxHopExpired
  else none

/-- A frame completed at LOOP_IN (R147, R148). -/
def State.receive (s : State) (bytes : List Byte) : State :=
  let t := s.bump .rxFrames
  match frameOf bytes with
  | none => t.bump .rxLengthErrors
  | some f =>
    match s.receiveFault f with
    | some c => t.bump c
    | none => t.classify f

/-! ## The pass table (R149) -/

/-- The entry that the five bytes of a pass entry give, none when they are refused. -/
def passEntryOf (state source kind intake forward : Byte) : Option (Option PassEntry) :=
  if state = 0 then some none
  else if state = 1 ∧ source.toNat ≤ 62 then
    match intakeOf intake, flagOf forward with
    | some i, some f => some (some { source := source, kind := kind, intake := i, forward := f })
    | _, _ => none
  else none

/-- WRITE_PASS_ENTRY (R149). -/
def serveWritePassEntry (s : State) : List Byte → Answer
  | [index, state, source, kind, intake, forward] =>
    match passEntryOf state source kind intake forward with
    | none => s.refuse .badArgument
    | some e =>
      if 15 < index.toNat then s.refuse .badArgument
      else (s.onLif fun l => { l with pass := l.pass.setIfInBounds index.toNat e }).okay
  | _ => s.refuse .badRequest

/-- READ_PASS_ENTRY (R149). -/
def serveReadPassEntry (s : State) : List Byte → Answer
  | [index] =>
    if 15 < index.toNat then s.refuse .badArgument
    else s.okay (passEntryBytes (s.lif.pass.toList.getD index.toNat none))
  | _ => s.refuse .badRequest

/-! ## Commands -/

/-- FRAME_COMPLETION (R147): in bypass the bytes pass through unseen (R161). -/
def execFrameCompletion (bytes : List Byte) (s : State) : Result :=
  .next (if s.bypassed then s else s.receive bytes)

/-- TRANSMISSION_END (R160): occurs only while a frame is being sent (log 2). The end of the RESET_PART
reply is the loop command reset, released at once with the latches kept (09 R181, R183). -/
def execTransmissionEnd (s : State) : Result :=
  .next (match s.lif.port with
    | .sending c _ generated resets =>
      let t := s.bump .txFrames
      let t := if generated then t.bump .txGenerated else t
      let t := t.onLif fun l => { l with port := .idleGap c }
      if resets then t.assertReset .loopCommand .readingStore else t
    | _ => s)

/-- PORT_FREE (R158): the port becomes FREE and the arbiter selects. -/
def execPortFree (s : State) : Result :=
  .next (match s.lif.port with
    | .idleGap _ => (s.onLif fun l => { l with port := .free }).arbitrate
    | _ => s)

/-- WRITE_PASS_ENTRY, request code 12h. -/
def execWritePassEntry (s : State) : Result := .next (s.serve 0x12 serveWritePassEntry)

/-- READ_PASS_ENTRY, request code 13h. -/
def execReadPassEntry (s : State) : Result := .next (s.serve 0x13 serveReadPassEntry)

end Sys2Proof.Machine
end

