-- ==== Sys2Proof/Machine/Supervision.lean ====
section
/-!
DEFINITION. The Supervisor (09, and the readiness inputs of 05): resets and start-up, the calibration store,
the excitation monitor, readiness inputs, the line-stop requests, block holds, and their commands.
-/

namespace Sys2Proof.Machine

/-! ## Resets and start-up (R181 to R183) -/

/-- The release of a reset: the straps are latched and the store read begins (R182, R183). -/
def State.release (s : State) (address : BitVec 6) (calwe : Bool) : State :=
  s.onSup fun u => { u with address := address, calwe := calwe, phase := .readingStore }

/-- Start-up completes: the eyes and the readiness inputs are watched from their levels at this moment
(R183; 01 R22, 05 R122). The encoder's lines are the pins. -/
def State.watchInputs (s : State) : State :=
  let t := s.onSup fun u =>
    { u with phase := .running, binFull := { active := false, timing := s.binReads },
             airOk := { active := true, timing := !s.airReads } }
  (t.watchEye .infeed).watchEye .confirm

/-- The HELLO notice and, for an INVALID store, the CAL_STATE notice after it (R183). -/
def State.sayHello (s : State) : State :=
  let t := s.placeNotice 63 (.hello s.sup.resetCause s.calState s.ownStation s.sup.calwe)
  if s.sup.storeValid then t else t.notify (.calState .invalid s.sup.store.audit)

/-- The start-up read of the store (R184; 02 R60). -/
def State.readStore (s : State) : State :=
  let t := s.onSup fun u => { u with storeValid := u.store.checkAgrees, phase := .endingBypass }
  let t := t.takeCopies t.calRecord
  if s.addressed then t else t.watchInputs

/-! ## Store writes (R184 to R187) -/

/-- A store write operation starts: the audit counter is raised (R185). -/
def State.startStoreWrite (s : State) : State :=
  (s.onSup fun u => { u with store := { u.store with audit := satInc u.store.audit } }).bump
    .calOperations

/-- A store write operation has written a record (R184). -/
def State.storeWritten (s : State) (r : CalRecord) : State :=
  s.onSup fun u => { u with store := { u.store with record := r, checkAgrees := true }, storeValid := true }

/-- A CAL_STATE notice with the state and the audit counter (R186, R187). -/
def State.notifyCal (s : State) : State := s.notify (.calState s.calState s.sup.store.audit)

/-- CAL_WRITE (R186). -/
def serveCalWrite (s : State) : List Byte → Answer ⊕ (State × Operation)
  | [s3, s2, s1, s0, c3, c2, c1, c0, z3, z2, z1, z0] =>
    let span := natOfBytes [s3, s2, s1, s0]
    let capacity := natOfBytes [c3, c2, c1, c0]
    let zero := signedOf 32 (natOfBytes [z3, z2, z1, z0])
    if ¬ (span ≤ 16777215 ∧ 1000 ≤ capacity ∧ capacity ≤ 8000000 ∧ -8388608 ≤ zero ∧ zero ≤ 8388607) then
      .inl (s.refuse .badArgument)
    else if !s.sup.calwe then .inl (s.refuse .calWriteDisabled)
    else if s.calState = .locked then .inl (s.refuse .calLocked)
    else if s.trackingRuns then .inl (s.refuse .trackingRunning)
    else .inr (s.startStoreWrite,
      .calWrite { span := span, capacity := capacity, zero := zero, locked := false })
  | _ => .inl (s.refuse .badRequest)

/-- CAL_LOCK (R187). -/
def serveCalLock (s : State) : List Byte → Answer ⊕ (State × Operation)
  | [] =>
    if s.calState = .locked then .inl s.okay
    else .inr (s.startStoreWrite, .calLock { s.calRecord with locked := true })
  | _ => .inl (s.refuse .badRequest)

/-- CAL_CLEAR (R187). -/
def serveCalClear (s : State) : List Byte → Answer ⊕ (State × Operation)
  | [] =>
    if !s.sup.calwe then .inl (s.refuse .calWriteDisabled)
    else .inr (s.startStoreWrite, .calClear { s.calRecord with span := 0, locked := false })
  | _ => .inl (s.refuse .badRequest)

/-- READ_CAL (R189). -/
def serveReadCal (s : State) : List Byte → Answer
  | [] => s.okay (reportCal s)
  | _ => s.refuse .badRequest

/-! ## The excitation monitor (R190) -/

/-- The excitation state after a conversion (R190). -/
def nextExc (warn halt : Nat) (state : ExcState) (code : Nat) : ExcState :=
  match state with
  | .normal => if code < halt then .halt else if code < warn then .warn else .normal
  | .warn => if code < halt then .halt else if warn + 5 ≤ code then .normal else .warn
  | .halt => if halt + 5 ≤ code then .warn else .halt

/-- A conversion completes (R190). -/
def State.convert (s : State) (code : BitVec 10) : State :=
  let next := nextExc s.warnCode s.haltCode s.sup.exc code.toNat
  let t := s.onSup fun u => { u with exc := next, excCode := some code }
  if next = s.sup.exc then t
  else
    let t := (t.notify (.excitationState next code)).bump .excitationChanges
    if next = .halt ∧ s.excLineStop then t.addCause .excitationHalt else t

/-! ## Readiness inputs (05 R122, R123) -/

/-- A readiness input's level has changed: the 10 ms run while it reads other than conditioned (05 R122). -/
def State.readinessChanged (s : State) : ReadinessInput → State
  | .binFull => s.onSup fun u => { u with binFull := { u.binFull with timing := s.binReads != u.binFull.active } }
  | .airOk => s.onSup fun u => { u with airOk := { u.airOk with timing := s.airReads != u.airOk.active } }

/-- A readiness input's conditioned level changes (05 R123; log 15). -/
def State.conditioned (s : State) : ReadinessInput → State
  | .binFull =>
    let t := s.onSup fun u => { u with binFull := { active := !u.binFull.active, timing := false } }
    if s.sup.binFull.active then t else (t.addCause .binFull).bump .binFullEvents
  | .airOk =>
    let t := s.onSup fun u => { u with airOk := { active := !u.airOk.active, timing := false } }
    if s.sup.airOk.active then (t.addCause .airLow).bump .airLowEvents else t

/-- The 10 ms of a readiness input are running (05 R122). -/
def State.conditioning (s : State) : ReadinessInput → Bool
  | .binFull => s.sup.binFull.timing
  | .airOk => s.sup.airOk.timing

/-! ## The line-stop requests and block holds (R192, R193) -/

/-- One named cause at CLEAR_LINE_STOP (R192). -/
def State.clearCause (s : State) (mask : Nat) (c : LineStopCause) : State :=
  if !(mask.testBit c.ctorIdx && s.hasCause c) then s
  else if s.levelHolds c then s.bump .lineStopKept
  else (s.onSup fun u => { u with lineStop := u.lineStop &&& ~~~c.bit }).bump .lineStopClears

/-- CLEAR_LINE_STOP (R192). -/
def serveClearLineStop (s : State) : List Byte → Answer
  | [m1, m0] =>
    let mask := natOfBytes [m1, m0]
    if 512 ≤ mask then s.refuse .badArgument
    else
      let t := lineStopCauses.foldl (fun t c => t.clearCause mask c) s
      t.okay (bytesBE 2 t.sup.lineStop.toNat)
  | _ => s.refuse .badRequest

/-- The hold flag of a block, none for a block that cannot be held (R193). -/
def State.holdFlag (s : State) : Block → Option Bool
  | .wge => some s.sup.holdWge
  | .cck => some s.sup.holdCck
  | .drg => some s.sup.holdDrg
  | _ => none

/-- A block's hold flag set to `x` (R193). -/
def State.setHold (s : State) (b : Block) (x : Bool) : State :=
  match b with
  | .wge => s.onSup fun u => { u with holdWge := x }
  | .cck => s.onSup fun u => { u with holdCck := x }
  | .drg => s.onSup fun u => { u with holdDrg := x }
  | _ => s

/-- A block carries out its hold (R193: 02 R61, 03 R80, 04 R102). -/
def State.holdAction (s : State) : Block → State
  | .wge => s.holdWgeBlock
  | .cck => s.holdCckBlock
  | .drg => s.holdDrgBlock
  | _ => s

/-- A block carries out its release (R193: 02 R62, 03 R81, 04 R104); the WGE and the CCK resume from the
values their hold left. -/
def State.releaseAction (s : State) : Block → State
  | .drg => s.releaseDrgBlock
  | _ => s

/-- HOLD_BLOCK (R193). -/
def serveHoldBlock (s : State) : List Byte → Answer
  | [b] =>
    match blockOf b with
    | none => s.refuse .badArgument
    | some b =>
      match s.holdFlag b with
      | none => s.refuse .notHoldable
      | some true => s.okay
      | some false => (((s.setHold b true).holdAction b).bump .holds).okay
  | _ => s.refuse .badRequest

/-- RELEASE_BLOCK (R193). -/
def serveReleaseBlock (s : State) : List Byte → Answer
  | [b] =>
    match blockOf b with
    | none => s.refuse .badArgument
    | some b =>
      match s.holdFlag b with
      | none => s.refuse .notHoldable
      | some false => s.okay
      | some true => (((s.setHold b false).releaseAction b).bump .releases).okay
  | _ => s.refuse .badRequest

/-! ## Commands -/

/-- POWER_ON_RESET (R181). -/
def execPowerOnReset (s : State) : Result := .next (s.assertReset .powerOn .asserted)

/-- POWER_ON_RELEASE (R183): releases a power-on reset (log 2, 22). -/
def execPowerOnRelease (address : BitVec 6) (calwe : Bool) (s : State) : Result :=
  .next (if s.sup.phase = .asserted ∧ s.sup.resetCause = .powerOn then s.release address calwe else s)

/-- PIN_RESET (R181). -/
def execPinReset (s : State) : Result := .next (s.assertReset .pin .asserted)

/-- PIN_RELEASE (R183): releases a pin reset (log 2, 22). -/
def execPinRelease (address : BitVec 6) (calwe : Bool) (s : State) : Result :=
  .next (if s.sup.phase = .asserted ∧ s.sup.resetCause = .pin then s.release address calwe else s)

/-- CALIBRATION_READ (R184): with an address of 0 or 63 start-up completes here (07 R162, R183). -/
def execCalibrationRead (s : State) : Result :=
  .next (if s.sup.phase = .readingStore then s.readStore else s)

/-- START_UP_COMPLETION (R183). -/
def execStartUpCompletion (s : State) : Result :=
  .next (if s.sup.phase = .endingBypass then s.watchInputs.sayHello else s)

/-- EXCITATION_CONVERSION (R190). -/
def execExcitationConversion (code : BitVec 10) (s : State) : Result :=
  .next (if s.taking then s.convert code else s)

/-- READINESS_INPUT_CHANGE (05 R122): the level is kept in every phase; it is watched once start-up has
completed. -/
def execReadinessInputChange (input : ReadinessInput) (level : Bool) (s : State) : Result :=
  .next (
    let t := match input with
      | .binFull => s.onPins fun p => { p with binFull := level }
      | .airOk => s.onPins fun p => { p with airOk := level }
    if s.taking then t.readinessChanged input else t)

/-- READINESS_CONDITIONED_CHANGE (05 R123): occurs only while the 10 ms run (log 2, 7). -/
def execReadinessConditionedChange (input : ReadinessInput) (s : State) : Result :=
  .next (if s.taking && s.conditioning input then s.conditioned input else s)

/-- CLEAR_LINE_STOP, request code 40h. -/
def execClearLineStop (s : State) : Result := .next (s.serve 0x40 serveClearLineStop)

/-- HOLD_BLOCK, request code 41h. -/
def execHoldBlock (s : State) : Result := .next (s.serve 0x41 serveHoldBlock)

/-- RELEASE_BLOCK, request code 42h. -/
def execReleaseBlock (s : State) : Result := .next (s.serve 0x42 serveReleaseBlock)

/-- CAL_WRITE, request code 48h. -/
def execCalWrite (s : State) : Result := .next (s.serveLong 0x48 serveCalWrite)

/-- CAL_WRITE_COMPLETE (R186). -/
def execCalWriteComplete (s : State) : Result :=
  .next (match s.mga.service with
    | some ⟨r, .calWrite c⟩ =>
      let t := ((s.endService.storeWritten c).takeCopies c).notifyCal
      replyTo r (t.okay (t.calState.toByte :: bytesBE 4 t.sup.store.audit.toNat))
    | _ => s)

/-- CAL_LOCK, request code 49h. -/
def execCalLock (s : State) : Result := .next (s.serveLong 0x49 serveCalLock)

/-- CAL_LOCK_COMPLETE (R187): the Weigh Engine takes no copies. -/
def execCalLockComplete (s : State) : Result :=
  .next (match s.mga.service with
    | some ⟨r, .calLock c⟩ => replyTo r (s.endService.storeWritten c).notifyCal.okay
    | _ => s)

/-- CAL_CLEAR, request code 4Ah. -/
def execCalClear (s : State) : Result := .next (s.serveLong 0x4A serveCalClear)

/-- CAL_CLEAR_COMPLETE (R187). -/
def execCalClearComplete (s : State) : Result :=
  .next (match s.mga.service with
    | some ⟨r, .calClear c⟩ =>
      replyTo r (((s.endService.storeWritten c).takeCopies c).notifyCal).okay
    | _ => s)

/-- READ_CAL, request code 4Bh. -/
def execReadCal (s : State) : Result := .next (s.serve 0x4B serveReadCal)

end Sys2Proof.Machine
end

