-- ==== Sys2Proof/Machine/Management.lean ====
section
/-!
DEFINITION. The Management Agent (08): READ_STATE, the counter requests, the setup record, RESET_PART and
unknown request codes.
-/

namespace Sys2Proof.Machine

/-! ## READ_STATE and the counters (R174, R175, R179) -/

/-- The time left on a running gate pulse timer: a free value no greater than the loaded pulse (05 R125,
log 8). -/
def State.gateLeft (s : State) : Nat :=
  Config.gateTimeLeft s.freeCount % ((s.gtc.gateTimer.getD 0) + 1)

/-- READ_STATE (R179); a running gate pulse timer costs one free value. -/
def serveReadState (s : State) : List Byte → Answer
  | [] => (if s.gateActive then s.drawn else s).okay (reportState s s.gateLeft)
  | _ => s.refuse .badRequest

/-- The counters of one group set to 0, and with DRG those of the valve records (R174, R175). -/
def State.clearGroup (s : State) (b : Block) : State :=
  let t := s.clearCounters b.holds
  if b = .drg then t.clearValveCounters else t

/-- READ_COUNTERS (R174). -/
def serveReadCounters (s : State) : List Byte → Answer
  | [g, c] =>
    match blockOf g, flagOf c with
    | some b, some clear => (if clear then s.clearGroup b else s).okay (reportCounters s b)
    | _, _ => s.refuse .badArgument
  | _ => s.refuse .badRequest

/-- CLEAR_COUNTERS (R175). -/
def serveClearCounters (s : State) : List Byte → Answer
  | [g] =>
    if g = 0xFF then (s.clearCounters fun _ => true).clearValveCounters.okay
    else match blockOf g with
      | some b => (s.clearGroup b).okay
      | none => s.refuse .badArgument
  | _ => s.refuse .badRequest

/-! ## The setup record (R169 to R172) -/

/-- A run of bytes written into the setup image from `off` on (R171). -/
def writeBytes (img : SetupImage) (off : Nat) : List Byte → SetupImage
  | [] => img
  | b :: bs => writeBytes (img.setIfInBounds off b) (off + 1) bs

/-- The run of `n` bytes from `off` on touches a field (R170). -/
def SetupField.touched (f : SetupField) (off n : Nat) : Bool :=
  decide (f.offset < off + n) && decide (off < f.offset + f.size)

/-- The place `i` lies inside a field of more than one byte (R170, test 2). -/
def SetupField.cutAt (f : SetupField) (i : Nat) : Bool :=
  decide (f.offset < i) && decide (i < f.offset + f.size)

/-- The first field out of its range, or unassigned byte other than 0, that the run touches (R170, test 4). -/
def setupRangeFault (img : SetupImage) (off n : Nat) : Option Nat :=
  ((setupFields.find? fun f => f.touched off n && !f.admits (setupNum img f.offset f.size)).map
    (·.offset)).or <|
  (List.range' setupUnassigned (128 - setupUnassigned)).find? fun i =>
    decide (off ≤ i) && decide (i < off + n) && setupByte img i != 0

/-- Why a run is refused: the status and, where R170 gives one, the offset (R170). -/
def State.setupRefusal (s : State) (off n : Nat) (run : List Byte) : Option (Status × List Byte) :=
  let img := writeBytes s.setup off run
  let at_ := fun (st : Status) (i : Nat) => some (st, [BitVec.ofNat 8 i])
  if n = 0 ∨ run.length ≠ n ∨ 128 < off + n then some (.badArgument, [])
  else match setupFields.find? fun f => f.cutAt off || f.cutAt (off + n) with
    | some f => at_ .badArgument f.offset
    | none =>
      match if s.trackingRuns then setupFields.find? fun f => f.touched off n && !f.live else none with
      | some f => at_ .trackingRunning f.offset
      | none =>
        match setupRangeFault img off n with
        | some i => at_ .badArgument i
        | none => if setupNum img 38 2 < setupNum img 36 2 then none else at_ .badArgument 38

/-- `f` is applied when the field of `size` bytes at `off` differs between two images. -/
def State.ifChanged (s : State) (old : SetupImage) (off size : Nat) (f : State → State) : State :=
  if setupNum old off size = setupNum s.setup off size then s else f s

/-- The conditioning of BIN_FULL restarts (05 R122). -/
def State.restartBin (s : State) : State :=
  s.onSup fun u => { u with binFull := { active := false, timing := s.binReads } }

/-- The conditioning of AIR_OK restarts (05 R122). -/
def State.restartAir (s : State) : State :=
  s.onSup fun u => { u with airOk := { active := true, timing := !s.airReads } }

/-- The effects at the write of the fields that have one, in offset order (R171, log 17). -/
def State.setupEffects (s : State) (old : SetupImage) : State :=
  let s := s.ifChanged old 10 2 fun t => (t.minBlockChanged .infeed).minBlockChanged .confirm
  let s := s.ifChanged old 12 1 fun t => t.polarityChanged .infeed
  let s := s.ifChanged old 13 1 fun t => t.polarityChanged .confirm
  let s := s.ifChanged old 28 1 State.emptyFilter
  let s := s.ifChanged old 29 1 State.emptyFilter
  let s := s.ifChanged old 30 1 State.clearEmpty
  let s := s.ifChanged old 42 1 State.restartBin
  let s := s.ifChanged old 43 1 State.restartAir
  s.ifChanged old 47 1 fun t => t.valveCountChanged (setupNum old 47 1) t.valveCount

/-- WRITE_SETUP (R170, R171). -/
def serveWriteSetup (s : State) : List Byte → Answer
  | off :: n :: run =>
    match s.setupRefusal off.toNat n.toNat run with
    | some (st, data) => s.refuse st data
    | none =>
      (((s.onSetup fun img => writeBytes img off.toNat run).setupEffects s.setup).bump .setupWrites).okay
  | _ => s.refuse .badRequest

/-- READ_SETUP (R172). -/
def serveReadSetup (s : State) : List Byte → Answer
  | [off, n] =>
    if n = 0 ∨ 128 < n.toNat ∨ 128 < off.toNat + n.toNat then s.refuse .badArgument
    else s.okay (counted n.toNat ((s.setup.toList.drop off.toNat).take n.toNat))
  | _ => s.refuse .badRequest

/-! ## RESET_PART and unknown codes (R166, R168, 09 R181) -/

/-- The request codes of the catalogue (10, Management framing). -/
def requestCodes : List Byte :=
  [0x01, 0x02, 0x03, 0x04, 0x05, 0x10, 0x11, 0x12, 0x13, 0x20, 0x21, 0x22, 0x23, 0x24, 0x25, 0x30] ++
  [0x31, 0x32, 0x38, 0x39, 0x3A, 0x40, 0x41, 0x42, 0x48, 0x49, 0x4A, 0x4B, 0x4F]

/-- RESET_PART (09 R181): the reply is queued, marked so that the end of its transmission resets the part,
and no further request is begun. -/
def State.resetPart (s : State) : State :=
  match s.serviceable with
  | some r =>
    if r.code = 0x4F then
      if r.args = [] then
        replyTo r (s.takeRequest.onMga fun m => { m with closed := true }).okay true
      else replyTo r (s.takeRequest.refuse .badRequest)
    else s
  | none => s

/-! ## Commands -/

/-- READ_STATE, request code 01h. -/
def execReadState (s : State) : Result := .next (s.serve 0x01 serveReadState)

/-- READ_COUNTERS, request code 02h. -/
def execReadCounters (s : State) : Result := .next (s.serve 0x02 serveReadCounters)

/-- CLEAR_COUNTERS, request code 03h. -/
def execClearCounters (s : State) : Result := .next (s.serve 0x03 serveClearCounters)

/-- WRITE_SETUP, request code 10h. -/
def execWriteSetup (s : State) : Result := .next (s.serve 0x10 serveWriteSetup)

/-- READ_SETUP, request code 11h. -/
def execReadSetup (s : State) : Result := .next (s.serve 0x11 serveReadSetup)

/-- RESET_PART, request code 4Fh. -/
def execResetPart (s : State) : Result := .next s.resetPart

/-- UNKNOWN_REQUEST_CODE (R168): a code that names no request is answered BAD_REQUEST. -/
def execUnknownRequestCode (s : State) : Result :=
  .next (s.serveWhere (fun c => !requestCodes.contains c) fun t _ => t.refuse .badRequest)

end Sys2Proof.Machine
end

