-- ==== Sys2Proof/Machine/Dispatch.lean ====
section
/-!
DEFINITION. The meaning of every command: one arm for each row of spec/opcode_table.json, in the table's
order.
-/

namespace Sys2Proof.Machine

def exec (i : Instr) (s : State) : Host.Outcome State Fault Refusal :=
  match i with
  | .powerOnReset => Sys2Proof.Machine.execPowerOnReset s
  | .powerOnRelease address calwe => Sys2Proof.Machine.execPowerOnRelease address calwe s
  | .pinReset => Sys2Proof.Machine.execPinReset s
  | .pinRelease address calwe => Sys2Proof.Machine.execPinRelease address calwe s
  | .calibrationRead => Sys2Proof.Machine.execCalibrationRead s
  | .startUpCompletion => Sys2Proof.Machine.execStartUpCompletion s
  | .encoderStep a b => Sys2Proof.Machine.execEncoderStep a b s
  | .infeedEyeChange level => Sys2Proof.Machine.execInfeedEyeChange level s
  | .confirmEyeChange level => Sys2Proof.Machine.execConfirmEyeChange level s
  | .infeedArrival => Sys2Proof.Machine.execInfeedArrival s
  | .missingExpiry => Sys2Proof.Machine.execMissingExpiry s
  | .readTriggerPoint tag => Sys2Proof.Machine.execReadTriggerPoint tag s
  | .platformEntryPoint tag => Sys2Proof.Machine.execPlatformEntryPoint tag s
  | .settlePoint tag => Sys2Proof.Machine.execSettlePoint tag s
  | .endPoint tag => Sys2Proof.Machine.execEndPoint tag s
  | .exitPoint tag => Sys2Proof.Machine.execExitPoint tag s
  | .decisionPoint tag => Sys2Proof.Machine.execDecisionPoint tag s
  | .gatePoint tag => Sys2Proof.Machine.execGatePoint tag s
  | .gatePulseExpiry => Sys2Proof.Machine.execGatePulseExpiry s
  | .confirmArrival => Sys2Proof.Machine.execConfirmArrival s
  | .confirmWindowClose tag => Sys2Proof.Machine.execConfirmWindowClose tag s
  | .sampleArrival value overrange => Sys2Proof.Machine.execSampleArrival value overrange s
  | .sampleGapExpiry => Sys2Proof.Machine.execSampleGapExpiry s
  | .excitationConversion code => Sys2Proof.Machine.execExcitationConversion code s
  | .readinessInputChange input level => Sys2Proof.Machine.execReadinessInputChange input level s
  | .readinessConditionedChange input => Sys2Proof.Machine.execReadinessConditionedChange input s
  | .frameCompletion bytes => Sys2Proof.Machine.execFrameCompletion bytes s
  | .transmissionEnd => Sys2Proof.Machine.execTransmissionEnd s
  | .portFree => Sys2Proof.Machine.execPortFree s
  | .readState => Sys2Proof.Machine.execReadState s
  | .readCounters => Sys2Proof.Machine.execReadCounters s
  | .clearCounters => Sys2Proof.Machine.execClearCounters s
  | .readPlatform => Sys2Proof.Machine.execReadPlatform s
  | .readValve => Sys2Proof.Machine.execReadValve s
  | .writeSetup => Sys2Proof.Machine.execWriteSetup s
  | .readSetup => Sys2Proof.Machine.execReadSetup s
  | .writePassEntry => Sys2Proof.Machine.execWritePassEntry s
  | .readPassEntry => Sys2Proof.Machine.execReadPassEntry s
  | .writeRecipe => Sys2Proof.Machine.execWriteRecipe s
  | .readRecipe => Sys2Proof.Machine.execReadRecipe s
  | .verifyRecipe => Sys2Proof.Machine.execVerifyRecipe s
  | .verificationComplete => Sys2Proof.Machine.execVerificationComplete s
  | .discardRecipe => Sys2Proof.Machine.execDiscardRecipe s
  | .changeover => Sys2Proof.Machine.execChangeover s
  | .stopProduct => Sys2Proof.Machine.execStopProduct s
  | .startTracking => Sys2Proof.Machine.execStartTracking s
  | .stopTracking => Sys2Proof.Machine.execStopTracking s
  | .flushTracking => Sys2Proof.Machine.execFlushTracking s
  | .setDate => Sys2Proof.Machine.execSetDate s
  | .zeroNow => Sys2Proof.Machine.execZeroNow s
  | .setValveMode => Sys2Proof.Machine.execSetValveMode s
  | .clearLineStop => Sys2Proof.Machine.execClearLineStop s
  | .holdBlock => Sys2Proof.Machine.execHoldBlock s
  | .releaseBlock => Sys2Proof.Machine.execReleaseBlock s
  | .calWrite => Sys2Proof.Machine.execCalWrite s
  | .calWriteComplete => Sys2Proof.Machine.execCalWriteComplete s
  | .calLock => Sys2Proof.Machine.execCalLock s
  | .calLockComplete => Sys2Proof.Machine.execCalLockComplete s
  | .calClear => Sys2Proof.Machine.execCalClear s
  | .calClearComplete => Sys2Proof.Machine.execCalClearComplete s
  | .readCal => Sys2Proof.Machine.execReadCal s
  | .resetPart => Sys2Proof.Machine.execResetPart s
  | .unknownRequestCode => Sys2Proof.Machine.execUnknownRequestCode s

end Sys2Proof.Machine
end

