-- ==== Sys2Proof/Safety.lean ====
section
/-!
DEFINITION. What counts as a sound state of the part, in the terms the statements use: the invariants,
the parts of State a command may change, and when the Management Agent begins to serve a request.
-/

namespace Sys2Proof.Machine

/-! ## Frames -/

/-- The parts of State beside the queue of waiting commands. -/
inductive Part where
  | pins
  | sup
  | lif
  | mga
  | setup
  | ctr
  | wge
  | cck
  | drg
  | gtc
  | rcs
  | counters
  | freeCount
  deriving DecidableEq, Repr

/-- The part is the same in both states. -/
def Part.same (s t : State) : Part → Prop
  | .pins => t.pins = s.pins
  | .sup => t.sup = s.sup
  | .lif => t.lif = s.lif
  | .mga => t.mga = s.mga
  | .setup => t.setup = s.setup
  | .ctr => t.ctr = s.ctr
  | .wge => t.wge = s.wge
  | .cck => t.cck = s.cck
  | .drg => t.drg = s.drg
  | .gtc => t.gtc = s.gtc
  | .rcs => t.rcs = s.rcs
  | .counters => t.counters = s.counters
  | .freeCount => t.freeCount = s.freeCount

/-- From `s` to `t` nothing changes but the listed parts; the queue of waiting commands stays too. -/
def State.changesOnly (s t : State) (parts : List Part) : Prop :=
  t.pending = s.pending ∧ ∀ p : Part, p ∉ parts → p.same s t

/-- `t`'s counters are `s`'s with one increment of each listed counter. -/
def State.countsOnly (s t : State) (cs : List Counter) : Prop :=
  t.counters = (cs.foldl State.bump s).counters

/-! ## Requests and events -/

/-- The Management Agent begins to serve `r` (08 R166): start-up has completed, no request is in service,
RESET_PART has not been answered, the REPLY queue has room, and `r` heads the request queue. -/
def State.begins (s : State) (r : Request) (rest : List Request) : Prop :=
  s.sup.phase = .running ∧ s.mga.service = none ∧ s.mga.closed = false ∧ s.lif.reply.length < 4 ∧
    s.mga.requests = r :: rest

/-- `s` once `r` has left the request queue to be served, `rest` being behind it (08 R165). -/
def State.took (s : State) (rest : List Request) : State :=
  { s with mga := { s.mga with requests := rest, waitCounted := false } }

/-- The point `p` of the live entry `e` is announced (01 R30): start-up has completed, `e` is live under its
tag, and `p` is the next of its points that is due. -/
def State.announced (s : State) (e : Entry) (p : Point) : Prop :=
  s.sup.phase = .running ∧ s.entry e.tag = some e ∧
    s.ctr.pointsDue.find? (fun d => d.tag == e.tag) = some { tag := e.tag, point := p }

/-- `s` once a point that was due is taken. -/
def State.pointTaken (s : State) (tag : Tag) (p : Point) : State :=
  { s with ctr := { s.ctr with pointsDue := s.ctr.pointsDue.erase { tag := tag, point := p } } }

/-- `f` arrives whole at a part out of bypass and passes the five receive checks (07 R147, R148). -/
def State.admits (s : State) (f : Frame) : Prop :=
  s.bypassed = false ∧ f.len.toNat ≤ 240 ∧ f.payload.length = f.len.toNat ∧ f.crc = f.computedCrc ∧
    f.source ≠ 0 ∧ f.source ≠ 63 ∧ f.source ≠ s.ownStation ∧ f.dest ≠ 0 ∧ f.hop ≠ 0

/-- Everything the present position has brought on has been taken (log 6). -/
def State.nothingOutstanding (s : State) : Prop :=
  s.ctr.infeedDue = [] ∧ s.ctr.confirmDue = [] ∧ s.ctr.pointsDue = [] ∧ s.expired = none

/-- The command of an entry's position point (95_what_each_step_holds.md). -/
def Point.command (p : Point) (tag : Tag) : Instr :=
  match p with
  | .readTrigger => .readTriggerPoint tag
  | .platformEntry => .platformEntryPoint tag
  | .settle => .settlePoint tag
  | .endOfWindow => .endPoint tag
  | .exit => .exitPoint tag
  | .decision => .decisionPoint tag
  | .gate => .gatePoint tag
  | .confirmClose => .confirmWindowClose tag

/-- The command that takes the first of what the present position has brought on, in the order in which the model takes
whatever is left: infeed arrivals, confirm arrivals, expiries, points (log 6). -/
def State.firstOutstanding (s : State) : Option Instr :=
  if s.ctr.infeedDue ≠ [] then some .infeedArrival
  else if s.ctr.confirmDue ≠ [] then some .confirmArrival
  else if s.expired.isSome then some .missingExpiry
  else s.ctr.pointsDue.head?.map fun d => d.point.command d.tag

/-- The requests of the catalogue: the command that serves each, its code (10, Management framing), how many
argument bytes are fixed, and whether a run of data may follow them. -/
def requestForms : List (Instr × Byte × Nat × Bool) :=
  [ (.readState, 0x01, 0, false), (.readCounters, 0x02, 2, false), (.clearCounters, 0x03, 1, false),
    (.readPlatform, 0x04, 0, false), (.readValve, 0x05, 1, false), (.writeSetup, 0x10, 2, true),
    (.readSetup, 0x11, 2, false), (.writePassEntry, 0x12, 6, false), (.readPassEntry, 0x13, 1, false) ] ++
  [ (.writeRecipe, 0x20, 3, true), (.readRecipe, 0x21, 3, false), (.verifyRecipe, 0x22, 1, false),
    (.discardRecipe, 0x23, 1, false), (.changeover, 0x24, 1, false), (.stopProduct, 0x25, 0, false),
    (.startTracking, 0x30, 0, false), (.stopTracking, 0x31, 0, false), (.flushTracking, 0x32, 0, false),
    (.setDate, 0x38, 1, true), (.zeroNow, 0x39, 0, false), (.setValveMode, 0x3A, 2, false) ] ++
  [ (.clearLineStop, 0x40, 2, false), (.holdBlock, 0x41, 1, false), (.releaseBlock, 0x42, 1, false),
    (.calWrite, 0x48, 12, false), (.calLock, 0x49, 0, false), (.calClear, 0x4A, 0, false),
    (.readCal, 0x4B, 0, false), (.resetPart, 0x4F, 0, false) ]

/-- An argument lies out of its range, or a run does not fit its count or its image: the group and flag of R174
and R175, the valve of R105, the runs of R172, R128 and R129, the entry of R149, the slots of R130, R137 and
R138, the text of R77 and the block of R193. The other requests have statements of their own. -/
def outOfRange : Instr → List Byte → Prop
  | .readCounters, [g, c] => 9 ≤ g.toNat ∨ 1 < c.toNat
  | .clearCounters, [g] => 9 ≤ g.toNat ∧ g ≠ 0xFF
  | .readValve, [v] => 95 < v.toNat
  | .readSetup, [off, n] => n = 0 ∨ 128 < off.toNat + n.toNat
  | .writePassEntry, [i, x, source, _, intake, forward] =>
    15 < i.toNat ∨ 1 < x.toNat ∨ (x = 1 ∧ (62 < source.toNat ∨ 2 < intake.toNat ∨ 1 < forward.toNat))
  | .readPassEntry, [i] => 15 < i.toNat
  | .writeRecipe, k :: off :: n :: run =>
    1 < k.toNat ∨ n = 0 ∨ 64 < n.toNat ∨ run.length ≠ 2 * n.toNat ∨ 256 < off.toNat + n.toNat
  | .readRecipe, [k, off, n] => 1 < k.toNat ∨ n = 0 ∨ 64 < n.toNat ∨ 256 < off.toNat + n.toNat
  | .verifyRecipe, [k] | .discardRecipe, [k] | .changeover, [k] => 1 < k.toNat
  | .setDate, n :: text =>
    n.toNat ≠ text.length ∨ text.length ≠ 8 ∨ ∃ b ∈ text, ¬ (0x20 ≤ b.toNat ∧ b.toNat ≤ 0x7E)
  | .holdBlock, [b] | .releaseBlock, [b] => 9 ≤ b.toNat
  | _, _ => False

/-! ## What the blocks send -/

/-- A value of an enumeration as a byte: its place in the listed order (10 R195). -/
def numbered {α : Type} [DecidableEq α] (values : List α) (x : α) : Byte := BitVec.ofNat 8 (values.idxOf x)

/-- The arbiter's choice (07 R158, R159): `x` heads class `d`, which is the elevated class, or the first class in
order that holds a frame while the elevated class holds none. -/
def State.selects (s : State) (d : TxClass) (x : Queued) (rest : List Queued) : Prop :=
  s.lif.queue d = x :: rest ∧
    (s.elevation = some d ∨ (∀ e, s.elevation = some e → s.lif.queue e = []) ∧
      ∀ e : TxClass, e.ctorIdx < d.ctorIdx → s.lif.queue e = [])

/-- `t` is `s` once `x`, the head of class `d`, has left its queue and its transmission has started (07 R157, R158): a
passing frame goes as it stands, and a frame of the part's own gets its header. -/
def State.starts (s t : State) (d : TxClass) (x : Queued) (rest : List Queued) : Prop :=
  s.changesOnly t [.lif] ∧ t.lif.pass = s.lif.pass ∧
    (∀ e, t.lif.queue e = if e = d then rest else s.lif.queue e) ∧
    (∀ f, x = .passing f → t.lif.port = .sending d f false false ∧ t.lif.seq = s.lif.seq) ∧
    (∀ dest kind payload resets, x = .own dest kind payload resets →
      t.lif.seq = s.lif.seq + 1 ∧ ∃ f : Frame, t.lif.port = .sending d f true resets ∧
        f.dest = dest ∧ f.source = s.ownStation ∧ f.kind = kind ∧ f.hop = s.hopStart ∧
        f.seq = s.lif.seq ∧ f.len = BitVec.ofNat 8 payload.length ∧ f.payload = payload ∧
        f.crc = crc16 ([dest, s.ownStation, kind, s.hopStart, (s.lif.seq >>> 8).setWidth 8,
          s.lif.seq.setWidth 8, f.len] ++ payload))

/-- `s` once the Dose Regulator has sent `x` to the filler (04 R89, R100): at a full TRIM queue, or with no filler
station, the frame is only counted. -/
def State.toFiller (s : State) (queued : Counter) (x : Queued) : State :=
  if 8 ≤ s.lif.trim.length then s.bump .trimOverflow
  else if s.fillerStation = 0 then s.bump .trimNoStation
  else (s.join .trim x).bump queued

/-- The TRIM_CLEAR of 04 R100: the recipe id, the valve count, and each valve's epoch advanced by one. -/
def State.trimClear (s : State) (id : Nat) : Queued :=
  let n := min s.valveCount 96
  .own s.fillerStation 0x54 ([BitVec.ofNat 8 (id / 256), BitVec.ofNat 8 id, BitVec.ofNat 8 n] ++
    (List.range n).map fun v => (s.valve v).epoch + 1) false

/-- `s` once a VALVE_ALERT has been formed: it is counted when it joins the NOTICE queue (04 R106). -/
def State.alerted (s : State) (n : Notice) : State :=
  if s.noticeStation ≠ 0 ∧ s.lif.notice.length < 16 then (s.notify n).bump .valveAlerts else s.notify n

/-- `s` once the Code Checker has reported a reader fault (03 R79). -/
def State.readerReported (s : State) (tag : Tag) (cls : CodeClass) : State :=
  let t := s.notify (.readerFault tag cls)
  (if s.readerLineStop then t.addCause .readerFault else t).bump .readerFaults

/-- `s` once slot `k` has retired from draining (06 R142). -/
def State.slotReported (s : State) (k : SlotId) (moment : DrainMoment) : State :=
  (s.notify (.slotRetired k (s.image k).recipeId moment)).bump .slotRetirements

/-! ## The encoder and the eyes (01 R8, R21) -/

/-- The changes of the encoder lines that are forward steps, as the model takes ENC_A leading ENC_B (log 25):
A and B before, A and B after. -/
def forwardChanges : List (Bool × Bool × Bool × Bool) :=
  [(false, false, true, false), (true, false, true, true), (true, true, false, true),
    (false, true, false, false)]

/-- The monitor, and the arrivals recognised at once, when its eye becomes blocked at position `x` under the
minimum block distance `d`. -/
def EyeMonitor.whenBlocked (m : EyeMonitor) (d : Nat) (x : Pos) : EyeMonitor × List Pos :=
  match m.state with
  | .clear => if d = 0 then ({ state := .taken, latched := x }, [x])
              else ({ state := .pending, latched := x }, [])
  | .pending | .taken => (m, [])

/-- The monitor, and the arrivals recognised, when the position has advanced to `x`. -/
def EyeMonitor.whenReached (m : EyeMonitor) (d : Nat) (x : Pos) : EyeMonitor × List Pos :=
  if m.state = .pending ∧ x = m.latched + BitVec.ofNat 32 d then
    ({ state := .taken, latched := m.latched }, [m.latched])
  else (m, [])

/-! ## Invariants -/

/-- Every queue and list holds at most what its rule gives (01 R1, R9; 02 R38, R41; 04 R84; 05 R111; 07 R156;
08 R165), and
while a request is in service the REPLY queue has room for its reply (08 R166). -/
def State.withinCapacity (s : State) : Prop :=
  s.ctr.queue.length ≤ 256 ∧ s.ctr.debt ≤ 4095 ∧ s.wge.records.length ≤ 4 ∧ s.gtc.rejects.length ≤ 32 ∧
    s.lif.trigger.length ≤ 4 ∧ s.lif.forward.length ≤ 8 ∧ s.lif.trim.length ≤ 8 ∧
    s.lif.reply.length ≤ 4 ∧ s.lif.notice.length ≤ 16 ∧ s.lif.result.length ≤ 32 ∧
    s.mga.requests.length ≤ 4 ∧ (s.mga.service.isSome = true → s.lif.reply.length < 4) ∧
    s.wge.history.length ≤ s.averageLength ∧ ∀ v < 96, (s.valve v).recent.length ≤ 8

/-- While tracking is STOPPED the tracking queue, the reject queue and the occupancy list are empty
(01 R1; 05 R111). -/
def State.stoppedIsEmpty (s : State) : Prop :=
  s.ctr.run = .stopped → s.ctr.queue = [] ∧ s.gtc.rejects = [] ∧ s.wge.records = []

/-- The live entries that name a slot. -/
def State.naming (s : State) (k : SlotId) : Nat := s.ctr.queue.countP fun e => e.slot == some k

/-- The Recipe Store's books (01 R2; 06 R126, R127): at most 256 entries with distinct tag indices; each
reference count is the number of live entries that name the slot; a slot that is neither ACTIVE nor
DRAINING has count 0; the two slots are never both ACTIVE and never both DRAINING; a slot whose verification
is in service is VERIFYING. -/
def State.booksAgree (s : State) : Prop :=
  s.ctr.queue.length ≤ 256 ∧ (s.ctr.queue.map fun e => tagIndex e.tag).Nodup ∧
    (∀ k, (s.rcs.slot k).refs = s.naming k) ∧
    (∀ k, (s.rcs.slot k).state ≠ .active → (s.rcs.slot k).state ≠ .draining → (s.rcs.slot k).refs = 0) ∧
    ¬ (s.rcs.slot0.state = .active ∧ s.rcs.slot1.state = .active) ∧
    ¬ (s.rcs.slot0.state = .draining ∧ s.rcs.slot1.state = .draining) ∧
    (∀ v k, s.mga.service = some v → v.operation = .verify k → (s.rcs.slot k).state = .verifying)

/-- Each live entry took its tag from its index's generation counter, which then advanced by one and has not moved
since (01 R2): the counter is one ahead of the tag's high byte. -/
def State.tagsSpent (s : State) : Prop :=
  ∀ e ∈ s.ctr.queue,
    s.ctr.generations.toList.getD (tagIndex e.tag) 0 = (e.tag >>> 8).setWidth 8 + 1

/-- At most one infeed arrival that waits to be taken was latched before the present position, and none while an eye
monitor still holds such a latched position (01 R21): an eye is blocked once at a position, and what waits is taken
before the position moves on (log 6). -/
def State.arrivalsFresh (s : State) : Prop :=
  (s.ctr.infeedDue.filter (· ≠ s.ctr.position)).length ≤ 1 ∧
    (s.ctr.infeed.state = .pending → s.ctr.infeed.latched ≠ s.ctr.position →
      ∀ q ∈ s.ctr.infeedDue, q = s.ctr.position)

/-- A slot that is VERIFIED, ACTIVE or DRAINING holds an image that passes tests 1 to 5 of R131. -/
def State.recipesSound (s : State) : Prop :=
  ∀ k, (s.rcs.slot k).state.hasRecipe = true → imageFault (s.image k) = none

/-- Every field of the setup image lies in its range, every unassigned byte is 0, and the halt code lies
below the warn code (08 R169). -/
def SetupImage.sound (img : SetupImage) : Prop :=
  (∀ f ∈ setupFields, f.admits (setupNum img f.offset f.size) = true) ∧
    (∀ i, setupUnassigned ≤ i → i < 128 → setupByte img i = 0) ∧
    setupNum img 38 2 < setupNum img 36 2

/-- Trims stay within the ACTIVE recipe's trim limit (04 R95); an inert valve's trim, and every trim while
the DRG is held, is 0 (04 R84, R85, R102); the two slots are never both ACTIVE (06 R126). -/
def State.trimsWithin (s : State) : Prop :=
  ¬ (s.rcs.slot0.state = .active ∧ s.rcs.slot1.state = .active) ∧
  (∀ k, s.activeSlot = some k → ∀ v < 96,
    -((s.image k).trimLimit : Int) ≤ (s.valve v).trim ∧ (s.valve v).trim ≤ (s.image k).trimLimit) ∧
    (∀ v < 96, s.valveCount ≤ v → (s.valve v).trim = 0) ∧
    (s.sup.holdDrg = true → ∀ v < 96, (s.valve v).trim = 0)

/-! ### The order of the cans (01 R1, R6, R29, R30; 02 R41; 05 R111) -/

/-- The point `p` of an entry past EN_ROUTE has been reached and taken. -/
def State.hasTaken (s : State) (e : Entry) (p : Point) : Prop :=
  (∃ o, s.pointOffset e p = some o ∧ o.toNat ≤ (s.ctr.position - e.q).toNat) ∧
    ({ tag := e.tag, point := p } : PointDue) ∉ s.ctr.pointsDue

/-- The conditions START_TRACKING tests, which hold from then on while tracking runs: the setup positions
(01 R13), and for every slot in use the window before the decision (01 R13; 06 R135, R138). -/
def State.positionsFit (s : State) : Prop :=
  s.actuatorLead < s.gatePosition ∧ s.readOffset < s.decisionOffset ∧
    s.decisionOffset < s.gatePosition - s.actuatorLead ∧
    (s.confirmEnable = true → s.gatePosition + s.confirmTolerance < s.confirmOffset) ∧
    ∀ k, (s.rcs.slot k).state = .active ∨ (s.rcs.slot k).state = .draining →
      (s.image k).endOffset < s.decisionOffset

/-- An entry past EN_ROUTE stands at the stage its points have brought it to: DECIDED from its decision point,
AWAITING_CONFIRM from its gate point, and it is gone once its last point is taken (01 R6). -/
def State.stageFits (s : State) (e : Entry) : Prop :=
  (e.stage = .decided ∨ e.stage = .awaitingConfirm ↔ s.hasTaken e .decision) ∧
    (e.stage = .awaitingConfirm ↔ s.hasTaken e .gate) ∧
    ¬ s.hasTaken e (if s.confirmEnable then .confirmClose else .gate)

/-- The order of the cans: every EN_ROUTE entry stands behind every other (R1); each entry's stage fits its points
(R6); arrivals not yet taken lie close behind the position (R21); the points due are those of entries past
EN_ROUTE at the present position, each once and in R29's order (R30); each occupancy record is that of an entry
with a recipe, open until the end point (02 R41); the reject queue holds, in the order of the entries, one item
for each of some DECIDED entries whose decision is REJECT, with its fire position (05 R111). -/
def State.cansInOrder (s : State) : Prop :=
  (s.ctr.run = .running → s.positionsFit) ∧
    (∀ k, (s.rcs.slot k).state = .draining → 0 < (s.rcs.slot k).refs) ∧
    (∀ q ∈ s.ctr.infeedDue, (s.ctr.position - q).toNat < 65536) ∧
    (s.ctr.infeed.state = .pending → (s.ctr.position - s.ctr.infeed.latched).toNat < s.minBlock) ∧
    s.ctr.queue.Pairwise (fun x y => x.stage = .enRoute → y.stage = .enRoute) ∧
    (∀ e ∈ s.ctr.queue, e.stage ≠ .enRoute → s.stageFits e) ∧
    (∀ d ∈ s.ctr.pointsDue, ∃ e ∈ s.ctr.queue, e.tag = d.tag ∧ e.stage ≠ .enRoute ∧
      s.pointOffset e d.point = some (s.ctr.position - e.q)) ∧
    s.ctr.pointsDue.Pairwise (fun x y => x.tag = y.tag → x.point.ctorIdx < y.point.ctorIdx) ∧
    (∀ r ∈ s.wge.records, ∃ e ∈ s.ctr.queue, e.tag = r.tag ∧ e.stage ≠ .enRoute ∧ e.slot ≠ none ∧
      (r.window = .closed ↔ s.hasTaken e .endOfWindow) ∧ (r.window ≠ .closed → e.stage = .weighing)) ∧
    (s.gtc.rejects.map (·.tag)).Sublist (s.ctr.queue.map (·.tag)) ∧
    ∀ x ∈ s.gtc.rejects, ∃ e ∈ s.ctr.queue, e.tag = x.tag ∧ e.stage = .decided ∧
      e.decision = some .reject ∧ x.fire = s.firePos e

end Sys2Proof.Machine
end

