-- ==== Sys2Proof/Certificates/Slice0/Obligations.lean ====
section
/-!
DEFINITION. The statements for the provers. Each definition's docstring names the rules of spec/ it
formalises; OBLIGATIONS.json lists them.
-/

open Sys2Proof Sys2Proof.Machine

/-! ## The machine -/

/-- One step carries out the command at the front of the queue, with the rest waiting. -/
def Obligations.StepRunsFrontCommand : Prop :=
  ∀ (s : State) (c : Instr) (rest : List Instr),
    step { s with pending := c :: rest } = exec c { s with pending := rest }

/-- The part has no state in which it stops: every command answers a next state, and none touches the queue
of waiting commands. -/
def Obligations.EveryCommandAnswersNext : Prop :=
  ∀ (c : Instr) (s : State), ∃ t, exec c s = .next t ∧ t.pending = s.pending

/-- Every invariant of the statements below holds after reset. -/
def Obligations.InvariantsHoldAtReset : Prop :=
  State.reset.withinCapacity ∧ State.reset.stoppedIsEmpty ∧ State.reset.booksAgree ∧
    State.reset.recipesSound ∧ State.reset.setup.sound ∧ State.reset.trimsWithin ∧
    State.reset.cansInOrder ∧ State.reset.tagsSpent ∧ State.reset.arrivalsFresh

/-- R1, R9, R38, R41, R84, R111, R156, R165, R166: the capacities of every queue and list, the moving-average
history and the recent nets of each valve among them, are kept by every step. -/
def Obligations.CapacitiesKept : Prop :=
  ∀ s t : State, s.withinCapacity → step s = .next t → t.withinCapacity

/-- R1, R111: while tracking is STOPPED nothing is tracked; every step keeps this. R1, R6, R29, R30, R111: every
step keeps the order of the cans (every EN_ROUTE entry stands after every other, each entry's stage is the one its
points have brought it to, and the reject queue holds one item, in the order of the entries, of live REJECT entries
before their gate points). R21: of the infeed arrivals that wait, at most one was latched before the present
position; every step keeps this too. R2, R6: a tag names one entry for as long as it is live, its stage never goes
back, and what it is made with never changes. The order rests on log 6 (what waits between being reached and being
taken), so R6's clause is the model's reading of it. -/
def Obligations.StoppedStaysEmpty : Prop :=
  (∀ s t : State, s.stoppedIsEmpty → step s = .next t → t.stoppedIsEmpty) ∧
  (∀ s t : State, s.stoppedIsEmpty → s.booksAgree → s.recipesSound → s.cansInOrder → step s = .next t →
    t.cansInOrder) ∧
  (∀ s t : State, s.arrivalsFresh → step s = .next t → t.arrivalsFresh) ∧
  (∀ (c : Instr) (s t : State), s.stoppedIsEmpty → s.booksAgree → s.recipesSound → s.cansInOrder →
    s.tagsSpent → s.arrivalsFresh → exec c s = .next t → ∀ x ∈ s.ctr.queue, ∀ y ∈ t.ctr.queue, y.tag = x.tag →
      x.stage.ctorIdx ≤ y.stage.ctorIdx ∧ y.origin = x.origin ∧ y.valve = x.valve ∧ y.serial = x.serial ∧
      y.epoch = x.epoch ∧ y.slot = x.slot ∧ y.dateGen = x.dateGen ∧ y.dischargePos = x.dischargePos ∧
      y.expectedPos = x.expectedPos ∧ y.stale = x.stale ∧ (x.stage ≠ .enRoute → y.infeedPos = x.infeedPos) ∧
      (x.stage = .decided ∨ x.stage = .awaitingConfirm →
        y.decision = x.decision ∧ y.causes = x.causes ∧ y.selected = x.selected))

/-- R2, R126, R127: the reference counts, the distinct tags and the single ACTIVE and DRAINING slot are kept
by every step; so is the place of each live entry's generation counter, one ahead of its tag. -/
def Obligations.RecipeBooksKept : Prop :=
  (∀ s t : State, s.booksAgree → step s = .next t → t.booksAgree) ∧
  (∀ s t : State, s.tagsSpent → step s = .next t → t.tagsSpent)

/-- R126, R131, R142: only an image that passed tests 1 to 5 is ever VERIFIED, ACTIVE or DRAINING. -/
def Obligations.OnlySoundRecipesRun : Prop :=
  ∀ s t : State, s.recipesSound → step s = .next t → t.recipesSound

/-- R169, R170: the setup image stays within its ranges through every step. -/
def Obligations.SetupStaysInRange : Prop :=
  ∀ s t : State, s.setup.sound → step s = .next t → t.setup.sound

/-- R95: while a slot is ACTIVE every valve's trim lies within plus or minus that recipe's trim limit. -/
def Obligations.TrimsStayWithinLimit : Prop :=
  ∀ s t : State, s.trimsWithin → step s = .next t → t.trimsWithin

/-- Which commands may change what: the setup image (R170), the pass table (R149), the latches (R182), the
store (R184 to R188), the hold flags (R193), the date slots (R77, R80), the recipe images (R128, R137), the run
state (R10, R13, R15), the position (R9) and the input lines; beside the resets, which TRANSMISSION_END can
also bring. The audit counter never decreases (R185). -/
def Obligations.OwnedStateChangesOnlyByItsCommands : Prop :=
  ∀ (c : Instr) (s t : State), exec c s = .next t →
    s.sup.store.audit.toNat ≤ t.sup.store.audit.toNat ∧
    (c ∉ [.powerOnReset, .pinReset, .transmissionEnd] →
      (c ≠ .writeSetup → t.setup = s.setup) ∧
      (c ≠ .writePassEntry → t.lif.pass = s.lif.pass) ∧
      (c ∉ [.calWriteComplete, .calLockComplete, .calClearComplete] →
        t.sup.store.record = s.sup.store.record ∧ t.sup.store.checkAgrees = s.sup.store.checkAgrees) ∧
      (c ∉ [.calWrite, .calLock, .calClear] → t.sup.store.audit = s.sup.store.audit) ∧
      (c ∉ [.holdBlock, .releaseBlock] → t.sup.holdWge = s.sup.holdWge ∧
        t.sup.holdCck = s.sup.holdCck ∧ t.sup.holdDrg = s.sup.holdDrg) ∧
      (c ∉ [.setDate, .holdBlock] → t.cck.current = s.cck.current ∧ t.cck.previous = s.cck.previous ∧
        t.cck.generation = s.cck.generation) ∧
      (c ∉ [.writeRecipe, .discardRecipe] → t.image .s0 = s.image .s0 ∧ t.image .s1 = s.image .s1) ∧
      ((∀ a b, c ≠ .encoderStep a b) → t.ctr.position = s.ctr.position ∧
        (c ∉ [.startTracking, .stopTracking] → t.ctr.run = s.ctr.run))) ∧
    ((∀ a w, c ≠ .powerOnRelease a w ∧ c ≠ .pinRelease a w) →
      t.sup.address = s.sup.address ∧ t.sup.calwe = s.sup.calwe) ∧
    ((∀ a b, c ≠ .encoderStep a b) → (∀ l, c ≠ .infeedEyeChange l) → (∀ l, c ≠ .confirmEyeChange l) →
      (∀ i l, c ≠ .readinessInputChange i l) → t.pins = s.pins)

/-! ## Resets and start-up -/

/-- R181 with the tables of R33, R65, R83, R107, R125, R126, R164, R180, R194: the assertion of a power-on or
pin reset leaves every block at its reset values, both outputs inactive and the bypass in place; the latches,
the audit counter and, unless a store write is cut, the store are kept. R188: a cut store write leaves the
store with its old record or with a check word that fails. -/
def Obligations.AssertedResetLeavesResetValues : Prop :=
  ∀ (c : Instr) (cause : ResetCause) (s : State),
    (c = .powerOnReset ∧ cause = .powerOn) ∨ (c = .pinReset ∧ cause = .pin) →
    ∃ t, exec c s = .next t ∧ t.pending = s.pending ∧ t.pins = s.pins ∧
      (t.sup.resetCause = cause ∧ t.sup.address = s.sup.address ∧ t.sup.calwe = s.sup.calwe ∧
        t.sup.exc = .normal ∧ t.sup.excCode = none ∧ t.sup.lineStop = 0 ∧ t.sup.holdWge = false ∧
        t.sup.holdCck = false ∧ t.sup.holdDrg = false ∧ t.sup.binFull.active = false ∧
        t.sup.airOk.active = true ∧ t.sup.store.audit = s.sup.store.audit ∧
        ((∀ v, s.mga.service = some v → ∃ k, v.operation = .verify k) → t.sup.store = s.sup.store) ∧
        (t.sup.store = s.sup.store ∨ t.sup.store.checkAgrees = false)) ∧
      (t.gateActive = false ∧ t.lineStopActive = false ∧ t.bypassed = true ∧ t.taking = false) ∧
      ((∀ i : Fin 16, t.lif.pass[i] = none) ∧ (∀ q, t.lif.queue q = []) ∧ t.lif.port = .free ∧
        t.lif.seq = 0) ∧
      (t.mga.requests = [] ∧ t.mga.service = none ∧ t.mga.noticeNumber = 0 ∧ t.mga.dropCount = 0) ∧
      t.setup = SetupImage.defaults ∧
      (t.ctr.run = .stopped ∧ t.ctr.queue = [] ∧ (∀ i : Fin 256, t.ctr.generations[i] = 0) ∧
        t.ctr.position = 0 ∧ t.ctr.debt = 0 ∧ t.ctr.slipRun = 0 ∧ t.ctr.infeed.state = .clear ∧
        t.ctr.confirm.state = .clear) ∧
      (t.wge.sampleState = .sampleLoss ∧ t.wge.gapTimer = none ∧ t.wge.decSum = 0 ∧
        t.wge.decCount = 0 ∧ t.wge.decFlag = false ∧ t.wge.history = [] ∧ t.wge.output = none ∧
        t.wge.records = [] ∧ t.wge.emptySum = 0 ∧ t.wge.emptyCount = 0 ∧
        t.wge.zeroState = .tracking ∧ t.wge.driftRun = 0 ∧ t.wge.captureArmed = false) ∧
      t.cck = { current := none, previous := none, generation := 0, faultRun := 0 } ∧
      (∀ v < 96, t.valve v =
        { mode := .included, state := .collecting, erratic := false, saturated := false, trim := 0,
          epoch := 0, sends := 0, mismatchRun := 0, sum := 0, n := 0, satRun := 0, recent := [],
          weighed := 0, rejected := 0, missing := 0, stale := 0 }) ∧
      t.gtc = { rejects := [], gateTimer := none, resultNumber := 0 } ∧
      (∀ k, (t.rcs.slot k).state = .empty ∧ (∀ i < 256, (t.image k).word i = 0) ∧
        (t.rcs.slot k).refs = 0 ∧ (t.rcs.slot k).fault = none) ∧
      (∀ n, t.counter n = 0)

/-- R182, R183 (step 1): the release of a power-on or pin reset latches the straps, and the store read
follows; nothing else changes. -/
def Obligations.ReleaseLatchesStraps : Prop :=
  ∀ (address : BitVec 6) (calwe : Bool) (s : State), s.sup.phase = .asserted →
    (s.sup.resetCause = .powerOn → exec (.powerOnRelease address calwe) s =
      .next { s with sup := { s.sup with address := address, calwe := calwe, phase := .readingStore } }) ∧
    (s.sup.resetCause = .pin → exec (.pinRelease address calwe) s =
      .next { s with sup := { s.sup with address := address, calwe := calwe, phase := .readingStore } })

/-- R183 (step 2), R184, R60, R162: the start-up read decides the store's validity and gives the Weigh Engine its
copies; with an address of 0 or 63 start-up completes here and the bypass stays. The zero state is TRACKING
after every reset. -/
def Obligations.CalibrationReadTakesCopies : Prop :=
  ∀ s : State, s.sup.phase = .readingStore → s.wge.zeroState = .tracking →
    ∃ t, exec .calibrationRead s = .next t ∧
      (let c : CalRecord := if s.sup.store.checkAgrees then s.sup.store.record
        else { span := 0, capacity := 1000, zero := 0, locked := false }
      t.wge = { s.wge with
        span := c.span, capacity := c.capacity, calZero := c.zero, zero := c.zero,
        zeroState := .tracking, driftRun := 0, emptySum := 0, emptyCount := 0 } ∧
      t.calRecord = c ∧
      t.calState = (if s.sup.store.checkAgrees then (if s.sup.store.record.locked then .locked else .opened)
        else .invalid)) ∧
      t.sup.store = s.sup.store ∧ t.sup.address = s.sup.address ∧ t.sup.calwe = s.sup.calwe ∧
      (1 ≤ s.sup.address.toNat ∧ s.sup.address.toNat ≤ 62 →
        t.sup.phase = .endingBypass ∧ t.ctr = s.ctr) ∧
      (s.sup.address.toNat = 0 ∨ s.sup.address.toNat = 63 →
        t.sup.phase = .running ∧ t.bypassed = true) ∧
      s.changesOnly t [.sup, .wge, .ctr]

/-- R183 (steps 3 and 4), R22, R122, R176: at start-up completion the eyes and the readiness inputs are watched
from their levels, and the HELLO notice, number 0, is the first frame the part sends, with a CAL_STATE notice
behind it when the store is INVALID. -/
def Obligations.StartUpEndsWithHello : Prop :=
  ∀ s : State, s.sup.phase = .endingBypass → 1 ≤ s.sup.address.toNat → s.sup.address.toNat ≤ 62 →
    s.lif = Lif.reset → s.mga = Mga.reset → s.setup = SetupImage.defaults →
    ∃ t, exec .startUpCompletion s = .next t ∧
      t.sup = { s.sup with
        phase := .running,
        binFull := { active := false, timing := s.pins.binFull },
        airOk := { active := true, timing := !s.pins.airOk } } ∧
      (let i := if s.pins.eyeIn then s.ctr.infeed.whenBlocked 0 s.ctr.position else (s.ctr.infeed, [])
      let y := if s.pins.eyeConf then s.ctr.confirm.whenBlocked 0 s.ctr.position else (s.ctr.confirm, [])
      t.ctr = { s.ctr with infeed := i.1, infeedDue := s.ctr.infeedDue ++ i.2,
                           confirm := y.1, confirmDue := s.ctr.confirmDue ++ y.2 }) ∧
      (let hello : Frame :=
        { dest := 63, source := s.ownStation, kind := 0x42, hop := 63, seq := 0, len := 7,
          payload := [0x01, 0, 0, s.sup.resetCause.toByte, s.calState.toByte, s.ownStation,
            if s.sup.calwe then 1 else 0],
          crc := 0 }
      t.lif.port = .sending .notice hello.withCrc true false) ∧
      t.lif.notice = (if s.sup.storeValid then []
        else [.own 63 0x42 ([0x0A, 1, 0, 0] ++ bytesBE 4 s.sup.store.audit.toNat) false]) ∧
      t.lif.seq = 1 ∧ t.bypassed = false ∧
      s.changesOnly t [.sup, .ctr, .lif, .mga, .counters]

/-! ## The conveyor -/

/-- R8, R9, R10: what an encoder step does when it does not advance the position. Which single change is forward
is DEDUCED (log 25). With nothing outstanding, so that the step alone acts. What is outstanding is taken before any
encoder step, one command after another in the order of log 6: the step acts as it does after the first of them. -/
def Obligations.EncoderStepsKeepReverseDebt : Prop :=
  (∀ (a b : Bool) (s : State), s.sup.phase = .running → s.nothingOutstanding →
    let p := { s with pins := { s.pins with encA := a, encB := b } }
    let forward := (s.pins.encA, s.pins.encB, a, b) ∈ forwardChanges
    let reverse := (a, b, s.pins.encA, s.pins.encB) ∈ forwardChanges
    (a ≠ s.pins.encA → b ≠ s.pins.encB → exec (.encoderStep a b) s = .next (p.bump .encoderErrors)) ∧
    (forward → 0 < s.ctr.debt →
      exec (.encoderStep a b) s = .next { p with ctr := { s.ctr with debt := s.ctr.debt - 1 } }) ∧
    (reverse → s.ctr.debt < 4095 →
      exec (.encoderStep a b) s = .next { p with ctr := { s.ctr with debt := s.ctr.debt + 1 } }) ∧
    (reverse → s.ctr.debt = 4095 → s.ctr.run = .stopped → exec (.encoderStep a b) s = .next p) ∧
    (reverse → s.ctr.debt = 4095 → s.ctr.run = .running →
      ∃ t, exec (.encoderStep a b) s = .next t ∧ t.ctr.run = .stopped ∧ t.ctr.debt = 4095 ∧
        t.ctr.position = s.ctr.position ∧ t.ctr.queue = [] ∧ t.gtc.rejects = [] ∧
        t.wge.records = [] ∧ t.hasCause .conveyorReversed = true ∧
        t.counter .reversalFaults = satInc (s.counter .reversalFaults) ∧
        t.gtc.gateTimer = s.gtc.gateTimer ∧
        s.changesOnly t [.pins, .sup, .lif, .mga, .ctr, .wge, .gtc, .rcs, .counters])) ∧
  (∀ (a b : Bool) (s t : State) (first : Instr), s.sup.phase = .running →
    a ≠ s.pins.encA ∨ b ≠ s.pins.encB → (s.expired = none → s.booksAgree ∧ s.cansInOrder) →
    s.firstOutstanding = some first → exec first s = .next t →
    exec (.encoderStep a b) s = exec (.encoderStep a b) t)

/-- R9, R11, R21, R30: a forward step at debt 0 advances the position by one, wrapping; each eye monitor that
reaches its distance recognises its arrival, and every point of an entry past EN_ROUTE that lies at the new
position is due; where the tags differ, each is due once and the points of one entry stand in R29's order. Which
change is forward is DEDUCED (log 25); what is recognised or due and not yet taken waits in the lists of log 6, and
nothing is outstanding before the step (what a step does with what is, is said with the reverse debt). -/
def Obligations.ForwardStepReachesPosition : Prop :=
  ∀ (a b : Bool) (s : State), s.sup.phase = .running → s.nothingOutstanding →
    (s.pins.encA, s.pins.encB, a, b) ∈ forwardChanges → s.ctr.debt = 0 →
    ∃ t, exec (.encoderStep a b) s = .next t ∧ s.changesOnly t [.pins, .ctr] ∧
      t.pins = { s.pins with encA := a, encB := b } ∧
      (let x := s.ctr.position + 1
      let i := s.ctr.infeed.whenReached s.minBlock x
      let y := s.ctr.confirm.whenReached s.minBlock x
      t.ctr = { s.ctr with position := x, infeed := i.1, infeedDue := i.2, confirm := y.1,
                           confirmDue := y.2, pointsDue := t.ctr.pointsDue } ∧
      (∀ d : PointDue, d ∈ t.ctr.pointsDue ↔ ∃ e ∈ s.ctr.queue, e.stage ≠ .enRoute ∧ d.tag = e.tag ∧
        ∃ o, s.pointOffset e d.point = some o ∧ x = e.q + o)) ∧
      ((s.ctr.queue.map (·.tag)).Nodup →
        t.ctr.pointsDue.Pairwise fun x y => x.tag = y.tag → x.point.ctorIdx < y.point.ctorIdx)

/-- R29: where the position points of an entry lie, measured from its Q, and which entries have them. -/
def Obligations.PointsLieWhereTheTableSays : Prop :=
  ∀ (s : State) (e : Entry),
    s.pointOffset e .readTrigger = some (BitVec.ofNat 32 s.readOffset) ∧
    s.pointOffset e .decision = some (BitVec.ofNat 32 s.decisionOffset) ∧
    s.pointOffset e .gate = some (BitVec.ofNat 32 s.gatePosition - BitVec.ofNat 32 s.actuatorLead) ∧
    s.pointOffset e .confirmClose = (if s.confirmEnable then
      some (BitVec.ofNat 32 (s.confirmOffset + s.confirmTolerance + 1)) else none) ∧
    (e.slot = none → ∀ p ∈ [Point.platformEntry, .settle, .endOfWindow, .exit], s.pointOffset e p = none) ∧
    (∀ k, e.slot = some k →
      s.pointOffset e .platformEntry = some (BitVec.ofNat 32 ((s.image k).word 23)) ∧
      s.pointOffset e .settle = some (BitVec.ofNat 32 ((s.image k).word 24)) ∧
      s.pointOffset e .endOfWindow = some (BitVec.ofNat 32 ((s.image k).word 25)) ∧
      s.pointOffset e .exit = some (BitVec.ofNat 32 ((s.image k).word 26)))

/-- R21: an eye that becomes blocked or clear, for both eyes; nothing but the monitor, the arrivals recognised and the
splash counter changes. R23, R27, R30: with a minimum block distance of 0 the blocking is itself an arrival, and what
the position had brought on was taken at the step that reached it: whatever is outstanding is taken first, one command
after another in the order of log 6, so that the new arrival alone waits, and a reached expiry comes before it. -/
def Obligations.EyeChangesMoveTheMonitor : Prop :=
  ∀ (level : Bool) (s : State), s.sup.phase = .running →
    (level ≠ s.pins.eyeIn →
      let p := { s with pins := { s.pins with eyeIn := level } }
      (p.infeedBlocked = true → 0 < s.minBlock ∨ s.ctr.infeed.state ≠ .clear ∨ s.nothingOutstanding →
        exec (.infeedEyeChange level) s = .next { p with ctr := { s.ctr with
          infeed := (s.ctr.infeed.whenBlocked s.minBlock s.ctr.position).1,
          infeedDue := s.ctr.infeedDue ++ (s.ctr.infeed.whenBlocked s.minBlock s.ctr.position).2 } }) ∧
      (p.infeedBlocked = false → exec (.infeedEyeChange level) s = .next
        (let t := { p with ctr := { s.ctr with infeed := { s.ctr.infeed with state := .clear } } }
        if s.ctr.infeed.state = .pending then t.bump .infeedSplashes else t))) ∧
    (level ≠ s.pins.eyeConf →
      let p := { s with pins := { s.pins with eyeConf := level } }
      (p.confirmBlocked = true → 0 < s.minBlock ∨ s.ctr.confirm.state ≠ .clear ∨ s.nothingOutstanding →
        exec (.confirmEyeChange level) s = .next { p with ctr := { s.ctr with
          confirm := (s.ctr.confirm.whenBlocked s.minBlock s.ctr.position).1,
          confirmDue := s.ctr.confirmDue ++ (s.ctr.confirm.whenBlocked s.minBlock s.ctr.position).2 } }) ∧
      (p.confirmBlocked = false → exec (.confirmEyeChange level) s = .next
        (let t := { p with ctr := { s.ctr with confirm := { s.ctr.confirm with state := .clear } } }
        if s.ctr.confirm.state = .pending then t.bump .confirmSplashes else t))) ∧
    (∀ (c : Instr) (arrivals : List Pos × List Pos), s.minBlock = 0 →
      (c = .infeedEyeChange level ∧ level ≠ s.pins.eyeIn ∧ s.ctr.infeed.state = .clear ∧
        ({ s with pins := { s.pins with eyeIn := level } } : State).infeedBlocked = true ∧
        arrivals = ([s.ctr.position], [])) ∨
      (c = .confirmEyeChange level ∧ level ≠ s.pins.eyeConf ∧ s.ctr.confirm.state = .clear ∧
        ({ s with pins := { s.pins with eyeConf := level } } : State).confirmBlocked = true ∧
        arrivals = ([], [s.ctr.position])) →
      (∃ t, exec c s = .next t ∧ t.ctr.position = s.ctr.position ∧
        (t.ctr.infeedDue, t.ctr.confirmDue) = arrivals ∧ t.ctr.pointsDue = [] ∧
        (s.booksAgree → s.cansInOrder → t.expired = none)) ∧
      ((s.expired = none → s.booksAgree ∧ s.cansInOrder) → ∀ (t : State) (first : Instr),
        s.firstOutstanding = some first → exec first s = .next t → exec c s = exec c t))

/-! ## Arrivals, strays, missing cans and retirement -/

/-- R23, R26: an infeed arrival at or after the lower window edge of the oldest EN_ROUTE entry pairs with it: Q, the
stage and the slip run are set, ARRIVALS and PAIRED counted, and then come the hand-off to the Weigh Engine
and the points already gone by. -/
def Obligations.ArrivalPairsOldestEnRoute : Prop :=
  ∀ (s : State) (q : Pos) (rest : List Pos) (e : Entry) (x : Pos),
    s.sup.phase = .running → s.ctr.run = .running → s.ctr.infeedDue = q :: rest →
    s.ctr.queue.find? (fun y => y.stage == .enRoute) = some e → e.expectedPos = some x →
    atOrAfter q (x - BitVec.ofNat 32 s.arrivalTolerance) = true →
    let u := { s with ctr := { s.ctr with
      infeedDue := rest, slipRun := 0,
      queue := s.ctr.queue.map fun (y : Entry) =>
        if y.tag = e.tag then { y with infeedPos := some q, stage := .weighing } else y } }
    exec .infeedArrival s =
      .next ((((u.bump .arrivals).bump .paired).handOff e.tag e.slot).announceGoneBy e.tag)

/-- R23, R24, R25, R26: an arrival that finds no EN_ROUTE entry, or lies before the oldest one's lower window edge,
is a stray: with room in the queue a STRAY entry of the ACTIVE slot is made, counted, raises the slip run, and is
handed off; at a full queue UNTRACKED is counted, cause UNTRACKED_CAN added and the slip run raised. The slip run is
compared at or above its limit (log 12). -/
def Obligations.ArrivalMakesStray : Prop :=
  ∀ (s : State) (q : Pos) (rest : List Pos), s.sup.phase = .running → s.ctr.run = .running →
    s.ctr.infeedDue = q :: rest →
    (∀ e x, s.ctr.queue.find? (fun y => y.stage == .enRoute) = some e → e.expectedPos = some x →
      atOrAfter q (x - BitVec.ofNat 32 s.arrivalTolerance) = false) →
    (∀ e, s.ctr.queue.find? (fun y => y.stage == .enRoute) = some e → e.expectedPos ≠ none) →
    let u := { s with ctr := { s.ctr with infeedDue := rest } }
    let e : Entry :=
      { tag := s.tagOf s.freeIndex, origin := .stray, valve := none, serial := none, epoch := none,
        slot := s.activeSlot, dateGen := s.cck.generation, dischargePos := none, expectedPos := none,
        infeedPos := some q, stage := .weighing, weigh := none, codeState := .notRequested,
        code := none, causes := 0, selected := 0, decision := none, unfired := false, stale := false,
        offered := false, exit := none }
    (s.ctr.queue.length < 256 → exec .infeedArrival s = .next
      (((((((u.bump .arrivals).addEntry e).bump .strays).raiseSlip).handOff e.tag e.slot).announceGoneBy
        e.tag))) ∧
    (s.ctr.queue.length = 256 → ∃ t, exec .infeedArrival s = .next t ∧ t.ctr.queue = s.ctr.queue ∧
      t.wge = s.wge ∧ t.ctr.infeedDue = rest ∧ t.hasCause .untrackedCan = true ∧
      t.counter .untracked = satInc (s.counter .untracked) ∧
      t.counter .arrivals = satInc (s.counter .arrivals) ∧
      (s.ctr.slipRun + 1 < s.slipLimit → t.ctr.slipRun = s.ctr.slipRun + 1) ∧
      (s.slipLimit ≤ s.ctr.slipRun + 1 → t.ctr.slipRun = 0 ∧ t.hasCause .trackSlip = true ∧
        t.counter .slipEvents = satInc (s.counter .slipEvents)) ∧
      s.changesOnly t [.sup, .lif, .mga, .ctr, .counters])

/-- R17: while tracking is STOPPED an arrival at either eye is counted and otherwise ignored. -/
def Obligations.ArrivalsWhileStoppedAreOnlyCounted : Prop :=
  ∀ (s : State) (q : Pos) (rest : List Pos), s.sup.phase = .running → s.ctr.run = .stopped →
    (s.ctr.infeedDue = q :: rest → exec .infeedArrival s =
      .next ({ s with ctr := { s.ctr with infeedDue := rest } }.bump .infeedStopped)) ∧
    (s.ctr.confirmDue = q :: rest → exec .confirmArrival s =
      .next ({ s with ctr := { s.ctr with confirmDue := rest } }.bump .confirmStopped))

/-- R1, R2, R3, R127: an entry that is made takes the lowest free index at its present generation, which
advances; a FILLED entry joins at the tail, a STRAY entry before the first EN_ROUTE entry; its slot's
reference count rises by one. -/
def Obligations.NewEntryTakesLowestFreeIndex : Prop :=
  ∀ (s : State) (e : Entry), s.ctr.queue.length < 256 →
    ∃ i : Fin 256, (∀ x ∈ s.ctr.queue, tagIndex x.tag ≠ i) ∧
      (∀ j : Nat, j < i.val → ∃ x ∈ s.ctr.queue, tagIndex x.tag = j) ∧
      (let n := { e with tag := s.ctr.generations[i] ++ BitVec.ofNat 8 i.val }
      (s.addEntry e).ctr = { s.ctr with
        generations := s.ctr.generations.set i (s.ctr.generations[i] + 1),
        queue := if e.origin = .filled then s.ctr.queue ++ [n]
          else s.ctr.queue.takeWhile (fun x => x.stage != .enRoute) ++
            n :: s.ctr.queue.dropWhile fun x => x.stage != .enRoute }) ∧
      (∀ k, ((s.addEntry e).rcs.slot k).refs =
        (s.rcs.slot k).refs + (if e.slot = some k then 1 else 0)) ∧
      (∀ k, (s.addEntry e).image k = s.image k ∧
        ((s.addEntry e).rcs.slot k).state = (s.rcs.slot k).state) ∧
      s.changesOnly (s.addEntry e) [.ctr, .rcs]

/-- R26: the points announced at an arrival are the entry's points at or before the present position, in the
order of their positions and, at one position, of the table of R29; each is announced, in that order, to the block
that owns it, until the entry has retired, and acts there as it acts at the command of the point. -/
def Obligations.GoneByPointsComeInOrder : Prop :=
  (∀ (s : State) (e : Entry),
    (s.pointsGoneBy e).Nodup ∧
    (∀ p, p ∈ s.pointsGoneBy e ↔
      ∃ d, s.pointOffset e p = some d ∧ atOrAfter s.ctr.position (e.q + d) = true) ∧
    (s.pointsGoneBy e).Pairwise fun p r => ∀ d x, s.pointOffset e p = some d → s.pointOffset e r = some x →
      d.toNat < x.toNat ∨ (d = x ∧ p.ctorIdx < r.ctorIdx)) ∧
  (∀ (s : State) (e : Entry), s.entry e.tag = some e → s.announceGoneBy e.tag =
    (s.pointsGoneBy e).foldl (fun t p => if t.entry e.tag = none then t else p.act t e.tag) s) ∧
  (∀ (s : State) (e : Entry) (p : Point), s.announced e p →
    exec (p.command e.tag) s = .next (p.act (s.pointTaken e.tag p) e.tag))

/-- R28: an increment of the slip run below the limit only raises it; at the limit the run returns to 0, a
TRACK_SLIP notice is formed, cause TRACK_SLIP added and SLIP_EVENTS counted. -/
def Obligations.SlipRunActsAtItsLimit : Prop :=
  ∀ s : State,
    (s.ctr.slipRun + 1 < s.slipLimit →
      s.raiseSlip = { s with ctr := { s.ctr with slipRun := s.ctr.slipRun + 1 } }) ∧
    (s.ctr.slipRun + 1 = s.slipLimit → s.raiseSlip =
      ((({ s with ctr := { s.ctr with slipRun := 0 } }.notify (.trackSlip s.ctr.position)).addCause
        .trackSlip).bump .slipEvents))

/-- R27: the expiry of the oldest EN_ROUTE entry retires it as MISSING, counts it, raises the missing count of
its valve and the slip run. Its CAN_RESULT joins before the notices of a slip event (log 37). -/
def Obligations.ExpiryRetiresMissing : Prop :=
  ∀ (s : State) (e : Entry) (x : Pos), s.sup.phase = .running →
    s.ctr.queue.find? (fun y => y.stage == .enRoute) = some e → e.expectedPos = some x →
    atOrAfter s.ctr.position (x + BitVec.ofNat 32 s.arrivalTolerance + 1) = true →
    let t := (s.retire .missing e.tag).bump .missing
    (∀ v < 96, e.valve = some v → v < s.valveCount → exec .missingExpiry s = .next
      { t with drg := { s.drg with
        valves := s.drg.valves.setIfInBounds v
          { s.valve v with missing := satInc (s.valve v).missing } } }.raiseSlip) ∧
    (e.valve = none → exec .missingExpiry s = .next t.raiseSlip)

/-- R7, R121, R127, R142: at a retirement the entry leaves the queue, its points and its occupancy record go, its
slot's count falls by one, a DRAINING slot left without entries becomes VERIFIED with a SLOT_RETIRED notice that
says LAST_ENTRY, or FLUSH in a flush, and is counted; for every outcome but FLUSHED a CAN_RESULT is formed when
results are enabled and a notice station is set. With station 0 the
retirement is counted instead; a FLUSHED one is not counted (log 40). -/
def Obligations.RetirementFreesTheEntry : Prop :=
  ∀ (s : State) (out : ExitOutcome) (e : Entry), s.entry e.tag = some e →
    let t := s.retire out e.tag
    t.ctr = { s.ctr with
      queue := s.ctr.queue.filter fun x => x.tag != e.tag,
      pointsDue := s.ctr.pointsDue.filter fun d => d.tag != e.tag } ∧
    t.wge = { s.wge with records := s.wge.records.filter fun (r : Occupancy) => r.tag != e.tag } ∧
    (∀ k, t.image k = s.image k ∧
      (t.rcs.slot k).refs = (s.rcs.slot k).refs - (if e.slot = some k then 1 else 0) ∧
      (t.rcs.slot k).state = (if e.slot = some k ∧ (s.rcs.slot k).state = .draining ∧
        (s.rcs.slot k).refs - 1 = 0 then .verified else (s.rcs.slot k).state)) ∧
    t.gtc = { s.gtc with
      resultNumber := if out ≠ .flushed ∧ s.resultEnable = true ∧ s.noticeStation ≠ 0 then
        s.gtc.resultNumber + 1 else s.gtc.resultNumber } ∧
    (out = .flushed ∨ s.resultEnable = false → t.lif.result <:+ s.lif.result) ∧
    (let u : State := match e.slot with
      | some k => if (s.rcs.slot k).state = SlotState.draining ∧ (s.rcs.slot k).refs ≤ 1
          then s.slotReported k (if out = ExitOutcome.flushed then .flush else .lastEntry) else s
      | none => s
    (out = .flushed ∨ s.resultEnable = false → t.lif = u.lif ∧ t.mga = u.mga ∧ u.countsOnly t []) ∧
    (out ≠ .flushed → s.resultEnable = true → s.noticeStation = 0 →
      t.lif = u.lif ∧ t.mga = u.mga ∧ u.countsOnly t [.resultNoStation])) ∧
    s.changesOnly t [.lif, .mga, .ctr, .wge, .gtc, .rcs, .counters]

/-- R120, R121, R142: a retirement with results enabled and a notice station forms one CAN_RESULT, behind the
SLOT_RETIRED notice of a slot whose draining it ends (log 37); it carries the present result number and the entry's
fields at their places, absent ones as zeros under a clear mask bit; it joins the RESULT queue, or is dropped and
counted when the queue holds 32 frames. The decision's number is log 35. -/
def Obligations.RetirementReportsTheCan : Prop :=
  ∀ (s : State) (out : ExitOutcome) (e : Entry), s.entry e.tag = some e → out ≠ .flushed →
    s.resultEnable = true → s.noticeStation ≠ 0 →
    let t := s.retire out e.tag
    let u : State := match e.slot with
      | some k => if (s.rcs.slot k).state = SlotState.draining ∧ (s.rcs.slot k).refs ≤ 1
          then s.slotReported k .lastEntry else s
      | none => s
    let weigh := fun (f : WeighResult → Option Int) => e.weigh.bind f
    let reason := e.weigh.bind (·.reason)
    let zone := e.weigh.bind (·.zone)
    let grade := e.code.bind (·.grade)
    let text := e.code.bind (·.text)
    let detail := e.code.bind (·.detail)
    let has : List Bool :=
      [e.valve.isSome, e.serial.isSome, e.epoch.isSome, e.slot.isSome, e.dischargePos.isSome,
        e.infeedPos.isSome, e.weigh.isSome, reason.isSome, (weigh (·.gross)).isSome, (weigh (·.net)).isSome,
        zone.isSome, e.code.isSome, grade.isSome, text.isSome, detail.isSome, e.decision.isSome]
    let mask := (has.zipIdx.map fun (b : Bool × Nat) => if b.1 then 2 ^ b.2 else 0).sum
    let flags := (if e.unfired then 1 else 0) + (if e.stale then 2 else 0) + (if e.offered then 4 else 0)
    let payload : List Byte :=
      bytesBE 2 s.gtc.resultNumber.toNat ++ bytesBE 2 mask ++ bytesBE 2 e.tag.toNat ++ [e.origin.toByte] ++
      bytesBE 1 (e.valve.getD 0) ++ bytesBE 2 (e.serial.getD 0).toNat ++ [e.epoch.getD 0] ++
      ([match e.slot with | some .s0 => 0 | some .s1 => 1 | none => 0xFF] : List Byte) ++
      bytesBE 2 ((e.slot.map fun k => (s.image k).word 0).getD 0) ++ [e.dateGen] ++
      bytesBE 4 (e.dischargePos.getD 0).toNat ++ bytesBE 4 (e.infeedPos.getD 0).toNat ++
      bytesBE 4 s.ctr.position.toNat ++ [(e.weigh.map (·.status.toByte)).getD 0, (reason.map (·.toByte)).getD 0] ++
      signedBE 4 ((weigh (·.gross)).getD 0) ++ signedBE 4 ((weigh (·.net)).getD 0) ++
      [(zone.map (·.toByte)).getD 0, (e.code.map (·.cls.toByte)).getD 0] ++ bytesBE 1 (grade.getD 0) ++
      [(detail.map (·.toByte)).getD 0] ++ bytesBE 2 e.causes.toNat ++ bytesBE 2 e.selected.toNat ++
      [(e.decision.map (·.toByte)).getD 0, BitVec.ofNat 8 flags, out.toByte,
        BitVec.ofNat 8 (text.getD []).length] ++ text.getD []
    t.mga = u.mga ∧
    (u.lif.result.length < 32 →
      t.lif = (u.join .result (.own s.noticeStation 0x43 payload false)).lif ∧
      u.countsOnly t [.resultsQueued]) ∧
    (32 ≤ u.lif.result.length → t.lif = u.lif ∧ u.countsOnly t [.resultOverflow])

/-- R14, R15, R16: STOP_TRACKING and FLUSH_TRACKING retire every entry as FLUSHED, each counted as FLUSHED, empty
the reject queue and the occupancy list, set the slip run to 0 and retire a draining slot, with a SLOT_RETIRED
notice that says FLUSH (R142); position, debt, generations, eye monitors and the gate pulse stay. STOP_TRACKING also
stops tracking. The reply is OK. -/
def Obligations.FlushEmptiesTracking : Prop :=
  ∀ (c : Instr) (code : Byte) (stops : Bool) (s : State) (r : Request) (rest : List Request),
    (c = .stopTracking ∧ code = 0x31 ∧ stops = true) ∨ (c = .flushTracking ∧ code = 0x32 ∧ stops = false) →
    s.begins r rest → r.code = code → r.args = [] → s.booksAgree →
    ∃ t u, exec c s = .next t ∧ t = replyTo r { state := u, status := .ok, data := [] } ∧
      u.ctr = { s.ctr with
        run := if stops then .stopped else s.ctr.run, queue := [], slipRun := 0, pointsDue := [] } ∧
      u.gtc = { s.gtc with rejects := [] } ∧ u.wge = { s.wge with records := [] } ∧
      (∀ k, u.image k = s.image k ∧ (u.rcs.slot k).refs = 0 ∧
        (u.rcs.slot k).state = (if (s.rcs.slot k).state = .draining ∧ 0 < (s.rcs.slot k).refs
          then .verified else (s.rcs.slot k).state)) ∧
      u.lif.result <:+ s.lif.result ∧ u.mga.requests = rest ∧
      (∀ k, (s.rcs.slot k).state = .draining → 0 < (s.rcs.slot k).refs →
        u.lif = ((s.took rest).slotReported k .flush).lif ∧
        u.mga = ((s.took rest).slotReported k .flush).mga ∧
        ((s.took rest).slotReported k .flush).countsOnly u (s.ctr.queue.map fun _ => .flushed)) ∧
      ((∀ k, (s.rcs.slot k).state = .draining → (s.rcs.slot k).refs = 0) →
        u.lif = s.lif ∧ u.mga = (s.took rest).mga ∧ s.countsOnly u (s.ctr.queue.map fun _ => .flushed)) ∧
      s.changesOnly t [.lif, .mga, .ctr, .wge, .gtc, .rcs, .counters]

/-! ## Weighing -/

/-- R34, R36, R37, R38, R39, R49, R56: a sample restarts the gap timer, ends a sample loss with a notice, and joins
the decimator; the D-th gives a decimated value; a full history gives an output, which becomes the current output,
joins every open window and, with no record ON_PLATFORM, is handed to the empty-platform accumulator. While the Weigh
Engine is held, or before start-up completes, a sample changes nothing. -/
def Obligations.SampleFlowsThroughTheFilter : Prop :=
  (∀ (value : BitVec 24) (flag : Bool) (s : State), s.sup.holdWge = true ∨ s.sup.phase ≠ .running →
    exec (.sampleArrival value flag) s = .next s) ∧
  (∀ (value : BitVec 24) (flag : Bool) (s : State), s.sup.phase = .running → s.sup.holdWge = false →
    let sum := s.wge.decSum + value.toInt
    let set := s.wge.decFlag || flag
    let h := s.wge.history ++ [{ value := roundDiv sum s.decimation, overrange := set }]
    let h := h.drop (h.length - s.averageLength)
    let full := decide (s.decimation ≤ s.wge.decCount + 1) && decide (h.length = s.averageLength)
    let o : Output :=
      { value := roundDiv (h.map (·.value)).sum s.averageLength, overrange := h.any (·.overrange),
        exc := s.sup.exc }
    ∃ t, exec (.sampleArrival value flag) s = .next
        (if full = true ∧ ∀ r ∈ s.wge.records, r.platform ≠ .onPlatform then t.emptyTakes o else t) ∧
      s.changesOnly t [.wge, .lif, .mga, .counters] ∧
      t.wge = { s.wge with
        gapTimer := some s.sampleGap
        sampleState := .samplesOk
        decSum := if s.decimation ≤ s.wge.decCount + 1 then 0 else sum
        decCount := if s.decimation ≤ s.wge.decCount + 1 then 0 else s.wge.decCount + 1
        decFlag := if s.decimation ≤ s.wge.decCount + 1 then false else set
        history := if s.decimation ≤ s.wge.decCount + 1 then h else s.wge.history
        output := if full then some o else s.wge.output
        records := if full then s.wge.records.map (fun (r : Occupancy) =>
            if r.window = WindowState.opened then
              { r with acc := { r.acc with
                  sum := r.acc.sum + o.value, count := satInc r.acc.count,
                  minimum := some ((r.acc.minimum.map fun m => min m o.value).getD o.value),
                  maximum := some ((r.acc.maximum.map fun m => max m o.value).getD o.value),
                  overrange := r.acc.overrange || o.overrange, warn := r.acc.warn || o.exc == .warn,
                  halt := r.acc.halt || o.exc == .halt } }
            else r) else s.wge.records } ∧
      (s.wge.sampleState = .samplesOk → t.lif = s.lif ∧ t.mga = s.mga ∧ t.counters = s.counters) ∧
      (s.wge.sampleState = .sampleLoss → t.lif = (s.notify (.sampleState .samplesOk)).lif ∧
        t.mga = (s.notify (.sampleState .samplesOk)).mga ∧
        t.counters = (s.notify (.sampleState .samplesOk)).counters))

/-- R35: at the expiry of the sample gap timer the sample state is SAMPLE_LOSS, open windows are flagged, the
empty-platform accumulator is discarded and the whole filter emptied; a notice is formed and the loss counted. -/
def Obligations.SampleLossEmptiesTheFilter : Prop :=
  ∀ (s : State) (n : Nat), s.sup.phase = .running → s.wge.gapTimer = some n →
    (let u := { s with wge := { s.wge with
      sampleState := .sampleLoss, gapTimer := none, decSum := 0, decCount := 0, decFlag := false,
      history := [], output := none, emptySum := 0, emptyCount := 0,
      records := s.wge.records.map fun (r : Occupancy) =>
        if r.window = WindowState.opened then { r with acc := { r.acc with noSamples := true } } else r } }
    exec .sampleGapExpiry s = .next
      (((if s.wge.emptyCount = 0 then u else u.bump .zeroAbandoned).notify
        (.sampleState .sampleLoss)).bump .sampleLosses))

/-- R56, R57, R58, R59: an unflagged NORMAL output on an empty platform is collected; the E-th makes the
evaluation: an armed capture takes Ze as Z, a zero band of 0 leaves Z, an in-band difference moves Z by its
share, an out-of-band one raises the drift run and at the limit declares the zero LOST. A change of the zero state
forms a ZERO_STATE notice with the new state and Z. A flagged output discards what was collected. -/
def Obligations.EmptyPlatformMovesTheZero : Prop :=
  ∀ (s : State) (x : Int),
    let o : Output := { value := x, overrange := false, exc := .normal }
    let sum := s.wge.emptySum + x
    let ze := roundDiv sum s.emptyWindow
    let done := s.emptyTakes o
    let tracked := s.wge.zero + roundDiv ((ze - s.wge.zero) * s.zeroCoefficient) 16
    let reports := fun (changes : Prop) [Decidable changes] (z : ZeroState) (zero : Int) (c : Counter) =>
      let u := if changes then s.notify (.zeroState z zero) else s
      done.lif = u.lif ∧ done.mga = u.mga ∧ u.countsOnly done [c] ∧
        s.changesOnly done [.wge, .lif, .mga, .counters]
    (s.wge.emptyCount + 1 < s.emptyWindow → done =
      { s with wge := { s.wge with emptySum := sum, emptyCount := s.wge.emptyCount + 1 } }) ∧
    (s.wge.emptyCount + 1 = s.emptyWindow → done.wge.emptySum = 0 ∧ done.wge.emptyCount = 0 ∧
      (s.wge.captureArmed = true → done.wge.zero = ze ∧ done.wge.zeroState = .tracking ∧
        done.wge.driftRun = 0 ∧ done.wge.captureArmed = false ∧
        reports (s.wge.zeroState = .lost) .tracking ze .zeroCaptures) ∧
      (s.wge.captureArmed = false → s.zeroBand = 0 →
        done = { s with wge := { s.wge with emptySum := 0, emptyCount := 0 } }) ∧
      (s.wge.captureArmed = false → 0 < s.zeroBand → (ze - s.wge.zero).natAbs ≤ s.zeroBand →
        done.wge.zero = tracked ∧ done.wge.zeroState = .tracking ∧ done.wge.driftRun = 0 ∧
        reports (s.wge.zeroState = .lost) .tracking tracked .zeroUpdates) ∧
      (s.wge.captureArmed = false → 0 < s.zeroBand → s.zeroBand < (ze - s.wge.zero).natAbs →
        done.wge.zero = s.wge.zero ∧
        (s.wge.driftRun + 1 < s.driftLimit →
          done.wge.driftRun = s.wge.driftRun + 1 ∧ done.wge.zeroState = s.wge.zeroState ∧
          done.lif = s.lif ∧ s.countsOnly done [.zeroOutOfBand]) ∧
        (s.driftLimit ≤ s.wge.driftRun + 1 →
          done.wge.driftRun = 0 ∧ done.wge.zeroState = .lost ∧
          reports (s.wge.zeroState = .tracking) .lost s.wge.zero .zeroOutOfBand))) ∧
    (∀ y : Output, y.overrange = true ∨ y.exc ≠ .normal →
      (s.emptyTakes y).wge = { s.wge with emptySum := 0, emptyCount := 0 } ∧
      s.countsOnly (s.emptyTakes y) (if s.wge.emptyCount = 0 then [] else [.zeroAbandoned]) ∧
      s.changesOnly (s.emptyTakes y) [.wge, .counters])

/-- R42, R43: the hand-off of a can at its infeed arrival, in the order of its four cases. -/
def Obligations.HandOffFollowsItsCases : Prop :=
  ∀ (s : State) (tag : Tag) (slot : Option SlotId),
    let nw := fun (t : State) (reason : WeighReason) =>
      { t with ctr := { t.ctr with queue := t.ctr.queue.map fun (e : Entry) => if e.tag = tag then
        { e with
          stage := .awaitingDecision
          weigh := some { status := .notWeighed, reason := some reason, gross := none, net := none,
                          zone := none } }
        else e } }.bump .resultsNotWeighed
    (s.sup.holdWge = true → s.handOff tag slot = nw s .engineHeld) ∧
    (s.sup.holdWge = false → slot = none →
      s.handOff tag slot = nw s (if s.wge.span = 0 then .noCalibration else .noRecipe)) ∧
    (s.sup.holdWge = false → slot ≠ none → s.wge.records.length = 4 →
      s.handOff tag slot = ({ nw s (if s.wge.span = 0 then .noCalibration else .doubleOnPlatform) with
        wge := { s.wge with records := s.wge.records.map fun (r : Occupancy) =>
          if r.window = WindowState.closed then r else { r with acc := { r.acc with double := true } } } }.bump
        .platformCrowded)) ∧
    (s.sup.holdWge = false → slot ≠ none → s.wge.records.length < 4 →
      s.handOff tag slot = { s with wge := { s.wge with records := s.wge.records ++
        [{ tag := tag, platform := .approaching, window := .waiting,
           acc := { sum := 0, count := 0, minimum := none, maximum := none, overrange := false,
                    warn := false, halt := false, double := false, noSamples := false } }] } })

/-- R44, R45, R47: the platform entry, settle and exit points of a can with and without a record. -/
def Obligations.PlatformPointsMoveTheRecord : Prop :=
  ∀ (s : State) (e : Entry),
    (s.announced e .platformEntry →
      let u := s.pointTaken e.tag .platformEntry
      let v := { u with wge := { s.wge with
        emptySum := 0, emptyCount := 0,
        records := s.wge.records.map fun (r : Occupancy) =>
          if r.tag = e.tag then { r with platform := .onPlatform }
          else if r.window = WindowState.opened then { r with acc := { r.acc with double := true } } else r } }
      ((∃ r ∈ s.wge.records, r.tag = e.tag) → exec (.platformEntryPoint e.tag) s =
        .next (if s.wge.emptyCount = 0 then v else v.bump .zeroAbandoned)) ∧
      ((∀ r ∈ s.wge.records, r.tag ≠ e.tag) → exec (.platformEntryPoint e.tag) s = .next u)) ∧
    (s.announced e .settle →
      let u := s.pointTaken e.tag .settle
      ((∃ r ∈ s.wge.records, r.tag = e.tag) → exec (.settlePoint e.tag) s =
        .next { u with wge := { s.wge with records := s.wge.records.map fun (r : Occupancy) => if r.tag = e.tag then
          { r with
            window := .opened
            acc := { r.acc with
              double := r.acc.double ||
                s.wge.records.any fun (x : Occupancy) => x.tag != e.tag && x.platform == .onPlatform
              noSamples := r.acc.noSamples || s.wge.sampleState == .sampleLoss } }
          else r } }) ∧
      ((∀ r ∈ s.wge.records, r.tag ≠ e.tag) → exec (.settlePoint e.tag) s = .next u)) ∧
    (s.announced e .exit → exec (.exitPoint e.tag) s =
      .next { s.pointTaken e.tag .exit with
        wge := { s.wge with records := s.wge.records.filter fun (r : Occupancy) => r.tag != e.tag } })

/-- R46: the end point closes the window, writes the weigh result, which moves the entry to AWAITING_DECISION and
is counted by its status, and then offers it to the Dose Regulator; without a record it does nothing. -/
def Obligations.EndPointWritesAndOffersTheResult : Prop :=
  ∀ (s : State) (e : Entry), s.announced e .endOfWindow →
    (∀ r, s.wge.records.find? (fun x => x.tag == e.tag) = some r →
      let w := s.weighResult e r.acc
      ∃ u, exec (.endPoint e.tag) s = .next (u.offer e w) ∧
        u.wge = { s.wge with records := s.wge.records.map fun (x : Occupancy) =>
          if x.tag = e.tag then { x with window := .closed } else x } ∧
        u.ctr = { (s.pointTaken e.tag .endOfWindow).ctr with
          queue := s.ctr.queue.map fun (x : Entry) => if x.tag = e.tag then
            { x with weigh := some w, stage := .awaitingDecision } else x } ∧
        s.countsOnly u [match w.status with
          | .ok => .resultsOk | .suspect => .resultsSuspect | .notWeighed => .resultsNotWeighed] ∧
        s.changesOnly u [.ctr, .wge, .counters]) ∧
    ((∀ r ∈ s.wge.records, r.tag ≠ e.tag) →
      exec (.endPoint e.tag) s = .next (s.pointTaken e.tag .endOfWindow))

/-- R50, R51, R52, R53, R54: the weigh result of a window: the ten reasons in their order, the gross from the
mean, the zero offset and the span, clamped at the capacity, the net and the zone, and the status. -/
def Obligations.WeighResultFollowsTheOrder : Prop :=
  ∀ (s : State) (e : Entry) (a : Accumulator),
    let w := s.weighResult e a
    let none_ := fun (x : WeighReason) =>
      w = { status := .notWeighed, reason := some x, gross := none, net := none, zone := none }
    (s.sup.holdWge = true → none_ .engineHeld) ∧
    (s.sup.holdWge = false →
      (s.wge.span = 0 → none_ .noCalibration) ∧
      (s.wge.span ≠ 0 →
        (e.slot = none → none_ .noRecipe) ∧
        (∀ k, e.slot = some k →
          (a.noSamples = true → none_ .noSamples) ∧
          (a.noSamples = false → a.halt = true → none_ .excitationHalt) ∧
          (a.noSamples = false → a.halt = false → a.double = true → none_ .doubleOnPlatform) ∧
          (a.noSamples = false → a.halt = false → a.double = false →
            (a.overrange = true → none_ .overrange) ∧
            (a.overrange = false → a.count.toNat < (s.image k).minOutputs → none_ .shortWindow) ∧
            (a.overrange = false → (s.image k).minOutputs ≤ a.count.toNat →
              let mean := roundDiv a.sum a.count.toNat
              let g := roundDiv ((mean - s.wge.zero) * s.wge.span) 65536
              let c : Int := s.wge.capacity
              let clamped := fun (x : WeighReason) (gross : Int) =>
                w = { status := .notWeighed, reason := some x, gross := some gross, net := none,
                      zone := none }
              (((s.image k).stabilityLimit : Int) < a.maximum.getD 0 - a.minimum.getD 0 →
                clamped .unstable (if g < -c then -c else if c < g then c else g)) ∧
              (a.maximum.getD 0 - a.minimum.getD 0 ≤ (s.image k).stabilityLimit →
                (c < g → clamped .overload c) ∧ (g < -c → clamped .underload (-c)) ∧
                (-c ≤ g → g ≤ c →
                  let net := g - (s.image k).tare
                  w = { status := if a.warn = true ∨ s.wge.zeroState = .lost then .suspect else .ok
                        reason := if a.warn = true then some .excitationWarn
                          else if s.wge.zeroState = .lost then some .zeroLost else none
                        gross := some g, net := some net
                        zone := some (if net < (s.image k).l2 then .grossUnder
                          else if net < (s.image k).l1 then .under
                          else if net ≤ (s.image k).h1 then .good
                          else if net ≤ (s.image k).h2 then .over else .grossOver) })))))))


/-! ## Code checking -/

/-- R67, R68, R79, R82: the read trigger point: NOT_CHECKED while held or where the recipe does not ask;
a CODE_TRIGGER with the tag to the reader station, and the state REQUESTED; NO_RESULT with no station or a
full TRIGGER queue, which raises the reader fault run. -/
def Obligations.ReadTriggerAsksTheReader : Prop :=
  ∀ (s : State) (e : Entry), s.announced e .readTrigger →
    let u := s.pointTaken e.tag .readTrigger
    let asked := s.sup.holdCck = false ∧ ∃ k, e.slot = some k ∧ (s.image k).word 40 = 1
    let written := fun (c : CodeClass) => s.ctr.queue.map fun (y : Entry) => if y.tag = e.tag then
      { y with codeState := .result, code := some { cls := c, grade := none, text := none, detail := none } }
      else y
    (¬ asked → exec (.readTriggerPoint e.tag) s =
      .next ({ u with ctr := { u.ctr with queue := written .notChecked },
                      cck := { s.cck with faultRun := 0 } }.bump .codeNotChecked)) ∧
    (asked → s.readerStation ≠ 0 → s.lif.trigger.length < 4 →
      ∃ t, exec (.readTriggerPoint e.tag) s = .next t ∧
        t.lif = (s.join .trigger (.own s.readerStation 0x52
          [(e.tag >>> 8).setWidth 8, e.tag.setWidth 8] false)).lif ∧
        t.ctr = { u.ctr with queue := s.ctr.queue.map fun (y : Entry) =>
          if y.tag = e.tag then { y with codeState := .requested } else y } ∧
        s.countsOnly t [.triggers] ∧ s.changesOnly t [.ctr, .lif, .counters]) ∧
    (asked → s.readerStation = 0 ∨ 4 ≤ s.lif.trigger.length →
      ∃ t, exec (.readTriggerPoint e.tag) s = .next t ∧
        t.ctr = { u.ctr with queue := written .noResult } ∧
        t.counter .codeNoResult = satInc (s.counter .codeNoResult) ∧
        (s.readerStation = 0 → t.counter .triggerNoStation = satInc (s.counter .triggerNoStation)) ∧
        (s.readerStation ≠ 0 → t.counter .triggerOverflow = satInc (s.counter .triggerOverflow)) ∧
        (s.cck.faultRun + 1 < s.readerFaultLimit →
          t.cck = { s.cck with faultRun := s.cck.faultRun + 1 } ∧ t.sup = s.sup ∧ t.lif = s.lif) ∧
        (s.readerFaultLimit ≤ s.cck.faultRun + 1 →
          t.cck = { s.cck with faultRun := 0 } ∧
          t.counter .readerFaults = satInc (s.counter .readerFaults) ∧
          t.lif = (s.readerReported e.tag .noResult).lif ∧ t.mga = (s.readerReported e.tag .noResult).mga ∧
          (s.readerLineStop = true → t.hasCause .readerFault = true) ∧
          (s.readerLineStop = false → t.sup = s.sup)) ∧
        s.changesOnly t [.sup, .lif, .mga, .ctr, .cck, .counters])

/-- R70, R72, R76, R79, R80, R82: what a frame at the code intake does: discarded while held or malformed; the reply
for a REQUESTED entry is written as NO_READ, MISMATCH, LOW_GRADE or MATCH, in that order, with grade and text, and
counted; a NO_READ raises the reader fault run, which at or above its limit returns to 0 and reports a reader fault,
and the others set it to 0; any other reply is counted and discarded. -/
def Obligations.CodeReplyTakesEffect : Prop :=
  ∀ (s : State) (f : Frame) (p : PassEntry), s.admits f → f.dest = s.ownStation → f.kind ≠ 0x40 →
    s.passMatch f = some p → p.intake = .code →
    let u := (s.bump .rxFrames).bump .takenCode
    (s.sup.holdCck = true → exec (.frameCompletion f.bytes) s = .next (u.bump .codeHeld)) ∧
    (s.sup.holdCck = false → codeReplyOf f.payload = none →
      exec (.frameCompletion f.bytes) s = .next (u.bump .codeMalformed)) ∧
    (s.sup.holdCck = false → ∀ r, codeReplyOf f.payload = some r →
      (s.entry r.tag = none → exec (.frameCompletion f.bytes) s =
        .next ((u.bump .codeReplies).bump .unknownTag)) ∧
      (∀ e, s.entry r.tag = some e → e.codeState ≠ .requested →
        exec (.frameCompletion f.bytes) s = .next ((u.bump .codeReplies).bump
          (if ∃ c, e.code = some c ∧ c.text ≠ none then .duplicate
            else if e.stage = .decided ∨ e.stage = .awaitingConfirm then .late else .unsolicited))) ∧
      (∀ e k, s.entry r.tag = some e → e.codeState = .requested → e.slot = some k →
        ∃ (t : State) (c : CodeResult), exec (.frameCompletion f.bytes) s = .next t ∧
          t.ctr = { s.ctr with queue := s.ctr.queue.map fun (y : Entry) =>
            if y.tag = r.tag then { y with codeState := .result, code := some c } else y } ∧
          c.grade = r.grade ∧ c.text = some r.text ∧
          (r.read = false → c.cls = .noRead ∧ c.detail = none) ∧
          (r.read = true → (∀ d, patternFailure s.cck (s.image k) e.dateGen r.text = some d →
              c.cls = .mismatch ∧ c.detail = some d) ∧
            (patternFailure s.cck (s.image k) e.dateGen r.text = none → c.detail = none ∧
              c.cls = (if r.grade.getD 0 < (s.image k).word 41 then .lowGrade else .isMatch))) ∧
          (c.cls ≠ .noRead → t.cck = { s.cck with faultRun := 0 } ∧
            s.countsOnly t [.rxFrames, .takenCode, .codeReplies, match c.cls with
              | .mismatch => .codeMismatch | .lowGrade => .codeLowGrade | _ => .codeMatch] ∧
            s.changesOnly t [.ctr, .cck, .counters]) ∧
          (c.cls = .noRead →
            let u := [Counter.rxFrames, .takenCode, .codeReplies, .codeNoRead].foldl State.bump s
            (s.cck.faultRun + 1 < s.readerFaultLimit → t.cck = { s.cck with faultRun := s.cck.faultRun + 1 } ∧
              t.counters = u.counters ∧ s.changesOnly t [.ctr, .cck, .counters]) ∧
            (s.readerFaultLimit ≤ s.cck.faultRun + 1 → t.cck = { s.cck with faultRun := 0 } ∧
              (let v := u.readerReported r.tag .noRead
              t.sup = v.sup ∧ t.lif = v.lif ∧ t.mga = v.mga ∧ t.counters = v.counters))) ∧
          s.changesOnly t [.sup, .lif, .mga, .ctr, .cck, .counters]))

/-- R69, R73, R74, R75: the form of a CODE reply, the date a generation gives, and the match of a text: it
passes when it has the length of the expanded pattern and every character matches, and the failing index is the
first that does not match or at which one of the two has ended. An element stands for its character, one digit, one
capital letter, one printable character, the lot or the date. What R81 says of stamps of before a hold is read by the
table of R74 (log 31). -/
def Obligations.CodeTextIsJudgedByThePattern : Prop :=
  (∀ (payload : List Byte) (r : CodeReply), codeReplyOf payload = some r ↔
    ∃ flag grade : Byte, payload = [(r.tag >>> 8).setWidth 8, r.tag.setWidth 8, flag, grade,
        BitVec.ofNat 8 r.text.length] ++ r.text ∧
      flag = (if r.read then 0 else 1) ∧ r.text.length ≤ 32 ∧
      (∀ b ∈ r.text, 0x20 ≤ b.toNat ∧ b.toNat ≤ 0x7E) ∧
      ((grade = 0xFF ∧ r.grade = none) ∨ (grade.toNat ≤ 4 ∧ r.grade = some grade.toNat))) ∧
  (∀ (lot date : List Byte) (w : Word16), expandElement lot date w =
    if w.toNat / 256 = 1 then [.exactly (w.setWidth 8)] else if w.toNat / 256 = 2 then [.digit]
    else if w.toNat / 256 = 3 then [.letter] else if w.toNat / 256 = 4 then [.any]
    else if w.toNat / 256 = 5 then lot.map .exactly else if w.toNat / 256 = 6 then date.map .exactly else []) ∧
  (∀ b c : Byte, ((Position.exactly c).admits b = true ↔ b = c) ∧
    (Position.digit.admits b = true ↔ 0x30 ≤ b.toNat ∧ b.toNat ≤ 0x39) ∧
    (Position.letter.admits b = true ↔ 0x41 ≤ b.toNat ∧ b.toNat ≤ 0x5A) ∧
    (Position.any.admits b = true ↔ 0x20 ≤ b.toNat ∧ b.toNat ≤ 0x7E)) ∧
  (∀ (c : Cck) (gen : Byte), c.resolveDate gen =
    if gen = c.generation then (match c.current with | some t => .ok t | none => .error .noDate)
    else if gen + 1 = c.generation then (match c.previous with | some t => .ok t | none => .error .noDate)
    else .error .staleDate) ∧
  (∀ (ps : List Position) (text : List Byte),
    (failIndex 0 ps text = none ↔ ps.length = text.length ∧
      ∀ (i : Nat) (p : Position) (b : Byte), ps[i]? = some p → text[i]? = some b → p.admits b = true) ∧
    (∀ i, failIndex 0 ps text = some i ↔
      (∀ j < i, ∃ (p : Position) (b : Byte), ps[j]? = some p ∧ text[j]? = some b ∧ p.admits b = true) ∧
      (ps[i]? ≠ none ∨ text[i]? ≠ none) ∧
      (∀ (p : Position) (b : Byte), ps[i]? = some p → text[i]? = some b → p.admits b = false))) ∧
  (∀ (c : Cck) (img : Image) (gen : Byte) (text : List Byte),
    let fails := fun (date : List Byte) =>
      (failIndex 0 (img.elements.flatMap (expandElement img.lot date)) text).map MismatchDetail.index
    ((∀ w ∈ img.elements, w.toNat / 256 ≠ 6) → patternFailure c img gen text = fails []) ∧
    ((∃ w ∈ img.elements, w.toNat / 256 = 6) →
      (∀ date, c.resolveDate gen = .ok date → patternFailure c img gen text = fails date) ∧
      (∀ d, c.resolveDate gen = .error d → patternFailure c img gen text = some d)))

/-! ## Decision, gate and confirmation -/

/-- R71, R79, R108, R109, R110, R111, R112: the decision point: an open code request closes as NO_RESULT, which
raises the reader fault run by one, or at the setup limit sets it to 0 and reports a reader fault; the reject cause
set, one bit a cause; the part of it that the entry's policy selects; REJECT exactly when that is not empty; a
REJECT joins the reject queue in tracking order with its fire position, or passes unfired when the queue holds 32,
with cause REJECT_OVERFLOW. -/
def Obligations.DecisionFollowsThePolicy : Prop :=
  ∀ (s : State) (e : Entry), s.announced e .decision →
    ∃ (t : State) (causes : BitVec 12), exec (.decisionPoint e.tag) s = .next t ∧
      (let closes : Bool := e.codeState == .requested
      let limit : Bool := decide (s.readerFaultLimit ≤ s.cck.faultRun + 1)
      let code : Option CodeResult :=
        if closes then some { cls := .noResult, grade := none, text := none, detail := none } else e.code
      let zone := e.weigh.bind (·.zone)
      let status := e.weigh.map (·.status)
      let cls := code.map (·.cls)
      let holds : List Bool :=
        [zone == some .grossUnder, zone == some .under, zone == some .over, zone == some .grossOver,
          status == some .notWeighed, status == some .suspect, cls == some .mismatch,
          cls == some .lowGrade, cls == some .noRead, cls == some .noResult, e.origin == .stray,
          e.slot == none]
      let selected := causes &&& (match e.slot with
        | some k => BitVec.ofNat 12 ((s.image k).word 42)
        | none => BitVec.allOnes 12)
      let rejects : Bool := selected != 0
      let fits : Bool := decide (s.gtc.rejects.length < 32)
      let fire := e.q + BitVec.ofNat 32 s.gatePosition - BitVec.ofNat 32 s.actuatorLead
      let place := fun (tag : Tag) => s.ctr.queue.findIdx fun (y : Entry) => y.tag == tag
      let ahead := fun (x : RejectItem) => decide (place x.tag < place e.tag)
      (∀ i < 12, causes.getLsbD i = holds.getD i false) ∧
      t.ctr = { (s.pointTaken e.tag .decision).ctr with
        queue := s.ctr.queue.map fun (y : Entry) => if y.tag = e.tag then
          { y with
            codeState := if closes then .result else y.codeState
            code := if closes then code else y.code
            causes := causes
            selected := selected
            decision := some (if rejects then .reject else .accept)
            stage := .decided
            unfired := y.unfired || (rejects && !fits) }
          else y } ∧
      t.gtc = { s.gtc with
        rejects := if rejects && fits then
          s.gtc.rejects.takeWhile ahead ++ { tag := e.tag, fire := fire } :: s.gtc.rejects.dropWhile ahead
          else s.gtc.rejects } ∧
      (∀ v < 96, t.valve v = if rejects = true ∧ e.valve = some v ∧ v < s.valveCount then
        { s.valve v with rejected := satInc (s.valve v).rejected } else s.valve v) ∧
      t.cck = { s.cck with
        faultRun := if closes = false then s.cck.faultRun else if limit then 0 else s.cck.faultRun + 1 } ∧
      (let a := if closes && limit then s.readerReported e.tag .noResult else s
      let b := if rejects && !fits then a.addCause .rejectOverflow else a
      t.sup = b.sup ∧ t.lif = b.lif ∧ t.mga = b.mga ∧
        b.countsOnly t ((if closes then [.codeNoResult, .codeDeadlines] else []) ++
          [if rejects then .decisionsReject else .decisionsAccept] ++
          if rejects && !fits then [.rejectOverflows] else [])) ∧
      (rejects = true → fits = false → t.hasCause .rejectOverflow = true)) ∧
      s.changesOnly t [.sup, .lif, .mga, .ctr, .cck, .drg, .gtc, .counters]

/-- R114, R115: at the gate point an item of the entry leaves the reject queue and the gate fires, the pulse
starting again from its full length; an unfired reject is counted; the entry then awaits its confirmation or,
with the confirm eye off, retires UNCONFIRMED. When the pulse expires the output is inactive. -/
def Obligations.GateFiresAtTheGatePoint : Prop :=
  (∀ (s : State) (e : Entry), s.announced e .gate →
    let u := s.pointTaken e.tag .gate
    let item := s.gtc.rejects.any fun (x : RejectItem) => x.tag == e.tag
    let counted : List Counter :=
      if item then (if s.gtc.gateTimer = none then [.gateFires] else [.gateFires, .gateExtensions])
      else if e.decision = some .reject ∧ e.unfired = true then [.unfiredAtGate] else []
    let v := counted.foldl State.bump { u with
      gtc := if item then { s.gtc with
          rejects := s.gtc.rejects.filter fun (x : RejectItem) => x.tag != e.tag
          gateTimer := some s.gatePulse } else s.gtc
      ctr := { u.ctr with queue := s.ctr.queue.map fun (y : Entry) =>
        if y.tag = e.tag then { y with stage := .awaitingConfirm } else y } }
    (s.confirmEnable = true → exec (.gatePoint e.tag) s = .next v) ∧
    (s.confirmEnable = false → e.decision = some .reject → exec (.gatePoint e.tag) s =
      .next ((v.retire .unconfirmedReject e.tag).bump .unconfirmedReject)) ∧
    (s.confirmEnable = false → e.decision = some .accept → exec (.gatePoint e.tag) s =
      .next ((v.retire .unconfirmedAccept e.tag).bump .unconfirmedAccept))) ∧
  (∀ (s : State) (n : Nat), s.sup.phase = .running → s.gtc.gateTimer = some n →
    ∃ t, exec .gatePulseExpiry s = .next t ∧ t = { s with gtc := { s.gtc with gateTimer := none } } ∧
      s.gateActive = true ∧ t.gateActive = false)

/-- R116, R117, R118: a confirm arrival pairs with the oldest AWAITING_CONFIRM entry whose confirm window holds its
position: an ACCEPT is confirmed, a REJECT at the exit has failed and stops the line; an unpaired entry's window
close says that a reject is gone or that an accepted can is lost. At a REJECT_FAILED the CAN_RESULT joins before the
LINE_STOP_CHANGE notice: R158 lets either be first (DESIGN CHOICE, log 37). -/
def Obligations.ConfirmationClosesTheCan : Prop :=
  (∀ (s : State) (y : Pos) (rest : List Pos), s.sup.phase = .running → s.ctr.run = .running →
    s.ctr.confirmDue = y :: rest →
    let u := { s with ctr := { s.ctr with confirmDue := rest } }
    let low := fun (e : Entry) =>
      e.q + BitVec.ofNat 32 s.confirmOffset - BitVec.ofNat 32 s.confirmTolerance
    let found := s.ctr.queue.find? fun (e : Entry) =>
      e.stage == .awaitingConfirm && decide ((y - low e).toNat ≤ 2 * s.confirmTolerance)
    (s.confirmEnable = false → exec .confirmArrival s = .next (u.bump .confirmDisabled)) ∧
    (s.confirmEnable = true → found = none → exec .confirmArrival s = .next (u.bump .unexpectedAtExit)) ∧
    (s.confirmEnable = true → ∀ e, found = some e →
      (e.decision = some .accept → exec .confirmArrival s =
        .next ((u.retire .confirmedAccept e.tag).bump .confirmedAccept)) ∧
      (e.decision = some .reject → exec .confirmArrival s =
        .next (((u.retire .rejectFailed e.tag).bump .rejectFailed).addCause .rejectFailed)))) ∧
  (∀ (s : State) (e : Entry), s.announced e .confirmClose →
    let u := s.pointTaken e.tag .confirmClose
    (e.decision = some .accept → exec (.confirmWindowClose e.tag) s =
      .next ((u.retire .lostAfterDecision e.tag).bump .lostAfterDecision)) ∧
    (e.decision = some .reject → exec (.confirmWindowClose e.tag) s =
      .next ((u.retire .rejectConfirmed e.tag).bump .rejectConfirmed)))

/-! ## The Dose Regulator -/

/-- R87, R88, R89, R106: what a discharge's epoch does to its valve's record: a match confirms it; a mismatch below
the resend count only lengthens the run; at the resend count the run returns to 0 and, unless already UNCONFIRMED,
the trim is sent again while it has been sent fewer than 3 times, and the valve is else UNCONFIRMED with a
VALVE_ALERT. A DOSE_TRIM that meets a full TRIM queue or no filler station is only counted. The comparison is at or
above the resend count (log 12), and a full queue is counted before a missing station (log 27). -/
def Obligations.EpochsConfirmTheTrim : Prop :=
  ∀ (s : State) (v : Nat) (epoch : Byte), v < 96 →
    let x := s.valve v
    let t := s.takeEpoch v epoch
    (s.sup.holdDrg = true → t = s) ∧
    (s.sup.holdDrg = false → epoch = x.epoch →
      t.valve v = { x with
        state := .collecting, mismatchRun := 0, sends := if x.state = .collecting then x.sends else 0 } ∧
      s.countsOnly t [.epochMatches] ∧ s.changesOnly t [.drg, .counters]) ∧
    (s.sup.holdDrg = false → epoch ≠ x.epoch →
      let u := s.bump .epochMismatches
      (x.mismatchRun + 1 < s.resendCount → t.valve v = { x with mismatchRun := x.mismatchRun + 1 } ∧
        t.counters = u.counters ∧ s.changesOnly t [.drg, .counters]) ∧
      (s.resendCount ≤ x.mismatchRun + 1 →
        (x.state = .unconfirmed → t.valve v = { x with mismatchRun := 0 } ∧ t.counters = u.counters ∧
          s.changesOnly t [.drg, .counters]) ∧
        (x.state ≠ .unconfirmed → x.sends < 3 →
          t.valve v = { x with mismatchRun := 0, sends := x.sends + 1, state := .awaitingConfirm } ∧
          (let w := u.toFiller .trimsQueued (.own s.fillerStation 0x53
            ([BitVec.ofNat 8 v, x.epoch] ++ signedBE 4 x.trim) false)
          t.lif = w.lif ∧ w.countsOnly t [.trimResends] ∧ s.changesOnly t [.drg, .lif, .counters])) ∧
        (x.state ≠ .unconfirmed → 3 ≤ x.sends →
          t.valve v = { x with mismatchRun := 0, state := .unconfirmed } ∧
          (let w := u.alerted (.valveAlert v .unconfirmed x.trim x.epoch .unconfirmed)
          t.lif = w.lif ∧ t.mga = w.mga ∧ t.counters = w.counters)))) ∧
    (∀ i < 96, i ≠ v → t.valve i = s.valve i) ∧ s.changesOnly t [.drg, .lif, .mga, .counters]

/-- R91, R92, R93: which results an offer is taken from: of a FILLED can of a valve, in the order of R91's tests; a
result with a net counts as weighed for its valve. A net that is taken joins the recent nets, which keep the last 8
(R84's capacity is a premise there, kept by CapacitiesKept); with 8 held, a spread above the limit sets ERRATIC, with
a VALVE_ALERT when it was clear, and one within it clears ERRATIC; the deviation is summed, the entry marked offered,
and the batch evaluated when n reaches its size. -/
def Obligations.OffersPassTheTests : Prop :=
  ∀ (s : State) (e : Entry) (w : WeighResult) (v : Nat),
    ((e.origin = .stray ∨ e.valve = none) → s.offer e w = s) ∧
    (e.origin = .filled → e.valve = some v → s.valveCount ≤ v → s.offer e w = s) ∧
    (e.origin = .filled → e.valve = some v → v < s.valveCount → v < 96 →
      let u := if w.net = none then s else { s with drg := { s.drg with
        valves := s.drg.valves.setIfInBounds v { s.valve v with weighed := satInc (s.valve v).weighed } } }
      let stale := { u with drg := { u.drg with
        valves := u.drg.valves.setIfInBounds v { u.valve v with stale := satInc (u.valve v).stale } } }
      (s.sup.holdDrg = true → s.offer e w = u.bump .offersHeld) ∧
      (s.sup.holdDrg = false → (e.slot = none ∨ s.activeSlot ≠ e.slot) → s.offer e w = u.bump .offersOtherSlot) ∧
      (∀ k, s.sup.holdDrg = false → e.slot = some k → s.activeSlot = some k →
        (w.status ≠ .ok ∨ w.zone = some .grossUnder ∨ w.zone = some .grossOver →
          s.offer e w = u.bump .offersUnfit) ∧
        (w.status = .ok → w.zone ≠ some .grossUnder → w.zone ≠ some .grossOver →
          ((s.valve v).mode = .excluded → s.offer e w = u.bump .offersExcluded) ∧
          ((s.valve v).mode = .included → e.stale = true → s.offer e w = stale.bump .offersStale) ∧
          ((s.valve v).mode = .included → e.stale = false → e.epoch ≠ some (s.valve v).epoch →
            s.offer e w = stale.bump .offersSuperseded) ∧
          ((s.valve v).mode = .included → e.stale = false → e.epoch = some (s.valve v).epoch →
            (s.offer e w).counter .offersTaken = satInc (s.counter .offersTaken) ∧
            ((s.valve v).n + 1 < (s.image k).batch →
              ((s.offer e w).valve v).sum = (s.valve v).sum + (w.net.getD 0 - (s.image k).target) ∧
              ((s.offer e w).valve v).n = (s.valve v).n + 1 ∧
              ((s.offer e w).valve v).trim = (s.valve v).trim) ∧
            (s.offer e w).ctr = { s.ctr with queue := s.ctr.queue.map fun (y : Entry) =>
              if y.tag = e.tag then { y with offered := true } else y } ∧
            (∀ net, w.net = some net → (s.valve v).recent.length ≤ 8 →
              let x := u.valve v
              let img := s.image k
              let nets := x.recent ++ [net]
              let recent := if nets.length = 9 then nets.tail else nets
              let wide := recent.any fun a => recent.any fun b => decide ((img.spreadLimit : Int) < a - b)
              let erratic := if recent.length = 8 then wide else x.erratic
              ∃ c, s.offer e w = (if img.batch ≤ x.n + 1 then c.evaluate v img else c) ∧
                c.valve v = { x with recent := recent, erratic := erratic, sum := x.sum + (net - img.target),
                                     n := x.n + 1 } ∧
                (∀ i < 96, i ≠ v → c.valve i = s.valve i) ∧
                (let a := if erratic = true ∧ x.erratic = false
                  then s.alerted (.valveAlert v .erratic x.trim x.epoch x.state) else s
                c.lif = a.lif ∧ c.mga = a.mga ∧ a.countsOnly c [.offersTaken]) ∧
                s.changesOnly c [.ctr, .drg, .lif, .mga, .counters])))))

/-- R94, R95, R96, R97, R89, R106: the evaluation of a batch: suppressed while ERRATIC; within the dead band the
trim stays and the saturation ends; else the trim moves against the mean deviation by at most the max step and stays
within the trim limit; a moved trim has a new epoch, goes to the filler as a DOSE_TRIM (a full queue counts before a
missing station, log 27) and awaits confirmation; a landing on the limit raises the saturation run, and SATURATED is
set with a VALVE_ALERT, behind the DOSE_TRIM (log 37), when the run is at or above its count (log 12); the
collection starts again. -/
def Obligations.EvaluationMovesTheTrim : Prop :=
  ∀ (s : State) (v : Nat) (img : Image), v < 96 →
    let x := s.valve v
    let t := s.evaluate v img
    let m := roundDiv x.sum img.batch
    let wanted := -(roundDiv (m * img.gain) 16)
    let step := max (-(img.maxStep : Int)) (min img.maxStep wanted)
    let next := max (-(img.trimLimit : Int)) (min img.trimLimit (x.trim + step))
    (t.valve v).sum = 0 ∧ (t.valve v).n = 0 ∧ (t.valve v).recent = x.recent ∧
    t.counter .evaluations = satInc (s.counter .evaluations) ∧
    (x.erratic = true → t.valve v = { x with sum := 0, n := 0 } ∧
      s.countsOnly t [.evalSuppressed, .evaluations] ∧ s.changesOnly t [.drg, .counters]) ∧
    (x.erratic = false → m.natAbs ≤ img.deadBand →
      t.valve v = { x with sum := 0, n := 0, satRun := 0, saturated := false } ∧
      s.countsOnly t [.evalDeadband, .evaluations] ∧ s.changesOnly t [.drg, .counters]) ∧
    (x.erratic = false → img.deadBand < m.natAbs →
      let moves : Bool := decide (next ≠ x.trim)
      let epoch := if moves then x.epoch + 1 else x.epoch
      let state := if moves then ValveState.awaitingConfirm else x.state
      let lands : Bool := decide (next.natAbs = img.trimLimit)
      let run := min 15 (x.satRun + 1)
      let sets := lands && !x.saturated && decide (img.satCount ≤ run)
      t.valve v = { x with
        trim := next, epoch := epoch, state := state, sends := if moves then 1 else x.sends,
        mismatchRun := if moves then 0 else x.mismatchRun, sum := 0, n := 0,
        satRun := if lands then run else 0, saturated := if lands then x.saturated || sets else false } ∧
      (let a := if moves then (s.toFiller .trimsQueued (.own s.fillerStation 0x53
          ([BitVec.ofNat 8 v, epoch] ++ signedBE 4 next) false)).bump .trimChanges else s.bump .evalUnchanged
      let b := if sets then a.alerted (.valveAlert v .saturated next epoch state) else a
      t.lif = b.lif ∧ t.mga = b.mga ∧ b.countsOnly t [.evaluations])) ∧
    (∀ i < 96, i ≠ v → t.valve i = s.valve i) ∧ s.changesOnly t [.drg, .lif, .mga, .counters]

/-! ## Supervision -/

/-- R190, and R122, R123 of 05: the excitation state after a conversion, with its notice, its count and, at an entry
into HALT with the option ON, its cause after them; a readiness input's 10 ms run while its level reads other than
its conditioned level, and the conditioned level then changes, BIN_FULL becoming active and AIR_OK becoming
inactive each adding its cause and counted, also when the set holds the cause already (log 15). -/
def Obligations.SupervisedInputsMoveTheirStates : Prop :=
  (∀ (code : BitVec 10) (s : State), s.sup.phase = .running →
    let n := code.toNat
    let next : ExcState := match s.sup.exc with
      | .normal => if n < s.haltCode then .halt else if n < s.warnCode then .warn else .normal
      | .warn => if n < s.haltCode then .halt else if s.warnCode + 5 ≤ n then .normal else .warn
      | .halt => if s.haltCode + 5 ≤ n then .warn else .halt
    let u := { s with sup := { s.sup with exc := next, excCode := some code } }
    let stops : Bool := next == .halt && s.excLineStop
    (next = s.sup.exc → exec (.excitationConversion code) s = .next u) ∧
    (next ≠ s.sup.exc → ∃ t, exec (.excitationConversion code) s = .next t ∧ t.sup.exc = next ∧
      t.sup.excCode = some code ∧ t.counter .excitationChanges = satInc (s.counter .excitationChanges) ∧
      (∀ c, t.hasCause c = (s.hasCause c || (stops && c == .excitationHalt))) ∧
      (let a := (u.notify (.excitationState next code)).bump .excitationChanges
       t = if stops then a.addCause .excitationHalt else a) ∧
      s.changesOnly t [.sup, .lif, .mga, .counters])) ∧
  (∀ (level : Bool) (s : State), s.sup.phase = .running →
    exec (.readinessInputChange .binFull level) s = .next { s with
      pins := { s.pins with binFull := level },
      sup := { s.sup with binFull := { s.sup.binFull with
        timing := (level != s.binActiveLow) != s.sup.binFull.active } } } ∧
    exec (.readinessInputChange .airOk level) s = .next { s with
      pins := { s.pins with airOk := level },
      sup := { s.sup with airOk := { s.sup.airOk with
        timing := (level != s.airActiveLow) != s.sup.airOk.active } } }) ∧
  (∀ s : State, s.sup.phase = .running →
    (s.sup.binFull = { active := true, timing := true } →
      exec (.readinessConditionedChange .binFull) s =
        .next { s with sup := { s.sup with binFull := { active := false, timing := false } } }) ∧
    (s.sup.airOk = { active := false, timing := true } →
      exec (.readinessConditionedChange .airOk) s =
        .next { s with sup := { s.sup with airOk := { active := true, timing := false } } }) ∧
    (s.sup.binFull = { active := false, timing := true } →
      ∃ t, exec (.readinessConditionedChange .binFull) s = .next t ∧
        t.sup.binFull = { active := true, timing := false } ∧ t.sup.airOk = s.sup.airOk ∧
        (∀ c, t.hasCause c = (s.hasCause c || c == .binFull)) ∧ t.lineStopActive = true ∧
        t.counter .binFullEvents = satInc (s.counter .binFullEvents) ∧
        t.lif = (({ s with sup := { s.sup with binFull := { active := true, timing := false } } } : State).addCause
          .binFull).lif ∧
        s.changesOnly t [.sup, .lif, .mga, .counters]) ∧
    (s.sup.airOk = { active := true, timing := true } →
      ∃ t, exec (.readinessConditionedChange .airOk) s = .next t ∧
        t.sup.airOk = { active := false, timing := false } ∧ t.sup.binFull = s.sup.binFull ∧
        (∀ c, t.hasCause c = (s.hasCause c || c == .airLow)) ∧ t.lineStopActive = true ∧
        t.counter .airLowEvents = satInc (s.counter .airLowEvents) ∧
        t.lif = (({ s with sup := { s.sup with airOk := { active := false, timing := false } } } : State).addCause
          .airLow).lif ∧
        s.changesOnly t [.sup, .lif, .mga, .counters]))

/-- R176, R177, R191: a block's notice goes to the setup notice station with the kind byte and the kind data of 10,
Notices (enumerations numbered by R195); a notice for no station is only counted; at a full NOTICE queue it is
dropped and the drop count rises to at most 255; else it joins with the next number and the drop count, which
returns to 0. A line-stop cause already in the set does nothing; a new one joins it, makes LINE_STOP active, and
forms a notice. -/
def Obligations.NoticesAndCausesArePlaced : Prop :=
  (∀ (s : State) (station : Byte) (n : Notice),
    let t := s.placeNotice station n
    (station = 0 → t = s.bump .noticeNoStation) ∧
    (station ≠ 0 → 16 ≤ s.lif.notice.length → t = { s with mga := { s.mga with
      dropCount := if s.mga.dropCount = 255 then 255 else s.mga.dropCount + 1 } }.bump .noticesDropped) ∧
    (station ≠ 0 → s.lif.notice.length < 16 →
      t.lif = (s.join .notice (.own station 0x42
        ([n.kind, s.mga.noticeNumber, s.mga.dropCount] ++ n.data) false)).lif ∧
      t.mga = { s.mga with noticeNumber := s.mga.noticeNumber + 1, dropCount := 0 } ∧
      s.countsOnly t [.noticesQueued] ∧ s.changesOnly t [.lif, .mga, .counters])) ∧
  (∀ (s : State) (n : Notice), s.notify n = s.placeNotice (setupByte s.setup 3) n) ∧
  (∀ n : Notice, n.kind :: n.data = match n with
    | .hello cause cal station calwe => [0x01, numbered [.powerOn, .pin, .loopCommand] cause,
        numbered [.invalid, .opened, .locked] cal, station, numbered [false, true] calwe]
    | .lineStopChange cause set => [0x02, numbered [.rejectFailed, .rejectOverflow, .untrackedCan, .trackSlip,
        .conveyorReversed, .binFull, .airLow, .readerFault, .excitationHalt] cause] ++ bytesBE 2 set.toNat
    | .excitationState state code => [0x03, numbered [.normal, .warn, .halt] state] ++ bytesBE 2 code.toNat
    | .zeroState state zero => [0x04, numbered [.tracking, .lost] state] ++ signedBE 4 zero
    | .sampleState state => [0x05, numbered [.samplesOk, .sampleLoss] state]
    | .valveAlert valve reason trim epoch state => [0x06, BitVec.ofNat 8 valve,
        numbered [.unconfirmed, .erratic, .saturated] reason] ++ signedBE 4 trim ++
        [epoch, numbered [.collecting, .awaitingConfirm, .unconfirmed] state]
    | .readerFault tag cls => [0x07] ++ bytesBE 2 tag.toNat ++
        [numbered [.isMatch, .mismatch, .lowGrade, .noRead, .noResult, .notChecked] cls]
    | .trackSlip position => [0x08] ++ bytesBE 4 position.toNat
    | .slotRetired slot recipeId moment => [0x09, numbered [.s0, .s1] slot] ++ bytesBE 2 recipeId ++
        [numbered [.atDrain, .lastEntry, .flush] moment]
    | .calState state audit => [0x0A, numbered [.invalid, .opened, .locked] state] ++ bytesBE 4 audit.toNat) ∧
  (∀ (s : State) (c : LineStopCause),
    let t := s.addCause c
    (s.hasCause c = true → t = s) ∧
    (s.hasCause c = false → (∀ d, t.hasCause d = (s.hasCause d || d == c)) ∧ t.lineStopActive = true ∧
      (let u := s.notify (.lineStopChange c t.sup.lineStop)
       t.lif = u.lif ∧ t.mga = u.mga ∧ u.countsOnly t [.lineStopAdds]) ∧
      t.sup = { s.sup with lineStop := t.sup.lineStop } ∧
      s.changesOnly t [.sup, .lif, .mga, .counters]))

/-! ## The loop -/

/-- R147, R148, R161: in bypass a frame passes unseen; else it is counted, and bytes that are no whole frame, and then
a wrong CRC, a source of 0 or 63, the part's own source, destination 0 and hop count 0, in that order, discard it
under their counters. -/
def Obligations.ReceiveChecksDiscardFrames : Prop :=
  (∀ (s : State) (bytes : List Byte), s.bypassed = true → exec (.frameCompletion bytes) s = .next s) ∧
  (∀ (s : State) (bytes : List Byte), s.bypassed = false →
    ¬ (bytes.length = 9 + (bytes.getD 6 0).toNat ∧ (bytes.getD 6 0).toNat ≤ 240) →
    exec (.frameCompletion bytes) s = .next ((s.bump .rxFrames).bump .rxLengthErrors)) ∧
  (∀ (s : State) (f : Frame), s.bypassed = false → f.len.toNat ≤ 240 → f.payload.length = f.len.toNat →
    let out := fun (c : Counter) =>
      exec (.frameCompletion f.bytes) s = .next ((s.bump .rxFrames).bump c)
    (f.crc ≠ f.computedCrc → out .rxCrcErrors) ∧
    (f.crc = f.computedCrc →
      (f.source = 0 ∨ f.source = 63 → out .rxBadSource) ∧
      (f.source ≠ 0 → f.source ≠ 63 →
        (f.source = s.ownStation → out .rxOwnReturned) ∧
        (f.source ≠ s.ownStation →
          (f.dest = 0 → out .rxNoDestination) ∧
          (f.dest ≠ 0 → f.hop = 0 → out .rxHopExpired)))))

/-- R150 to R155: the match of the pass table is the first entry in use of the frame's kind and source; a frame to the
part that none takes is unclaimed; any other frame, one to a destination above 63 with them (log 21), is forwarded
with one hop less and a new CRC, unless its hops are used up, the FORWARD queue is full, or a broadcast's entry does
not forward: that one is taken at its intake, where it has one, and counted as NOT_FORWARDED. A frame that goes both
ways goes in an order left open (log 11). An intake of DISCHARGE takes a payload of 6 bytes and counts any other;
an intake of CODE takes every payload. -/
def Obligations.FramesAreClassified : Prop :=
  (∀ (s : State) (f : Frame) (p : PassEntry),
    let takes := fun (x : PassEntry) => x.kind = f.kind ∧ (x.source = 0 ∨ x.source = f.source)
    s.passMatch f = some p ↔ ∃ i : Fin 16, s.lif.pass[i] = some p ∧ takes p ∧
      ∀ j : Fin 16, j < i → ∀ x, s.lif.pass[j] = some x → ¬ takes x) ∧
  (∀ (s : State) (f : Frame), s.admits f →
    let u := s.bump .rxFrames
    let g : Frame := { f with hop := f.hop - 1 }
    (f.dest = s.ownStation → f.kind ≠ 0x40 → (∀ p, s.passMatch f = some p → p.intake = .nothing) →
      exec (.frameCompletion f.bytes) s = .next (u.bump .unclaimed)) ∧
    (f.dest ≠ s.ownStation →
      ((∀ p, s.passMatch f = some p → p.intake = .nothing ∧ (f.dest = 63 → p.forward = true)) →
        (f.hop = 1 → exec (.frameCompletion f.bytes) s = .next (u.bump .hopExhausted)) ∧
        (f.hop ≠ 1 → 8 ≤ s.lif.forward.length →
          exec (.frameCompletion f.bytes) s = .next (u.bump .forwardOverflow)) ∧
        (f.hop ≠ 1 → s.lif.forward.length < 8 →
          ∃ t, exec (.frameCompletion f.bytes) s = .next t ∧
            t.lif = (s.join .forward (.passing { g with crc := g.computedCrc })).lif ∧
            s.countsOnly t [.rxFrames, .forwarded] ∧ s.changesOnly t [.lif, .counters])) ∧
      (∀ p, s.passMatch f = some p →
        (f.dest = 63 → p.forward = false → p.intake = .nothing →
          exec (.frameCompletion f.bytes) s = .next (u.bump .notForwarded)) ∧
        (f.dest = 63 → p.forward = false → p.intake ≠ .nothing →
          exec (.frameCompletion f.bytes) s = .next ((u.handTo p.intake f).bump .notForwarded)) ∧
        (p.intake ≠ .nothing → (f.dest = 63 → p.forward = true) →
          let v := { u with freeCount := s.freeCount + 1 }
          exec (.frameCompletion f.bytes) s = .next ((v.handTo p.intake f).forward f) ∨
            exec (.frameCompletion f.bytes) s = .next ((v.forward f).handTo p.intake f))))) ∧
  (∀ (s : State) (f : Frame), s.handTo .code f = (s.bump .takenCode).codeIntake f.payload ∧
    (f.payload.length ≠ 6 → s.handTo .discharge f = s.bump .intakeMalformed) ∧
    (∀ v s1 s0 epoch r1 r0 : Byte, f.payload = [v, s1, s0, epoch, r1, r0] →
      s.handTo .discharge f = (s.bump .takenDischarge).dischargeIntake
        { valve := v.toNat, serial := s1 ++ s0, epoch := epoch, recipeId := r1.toNat * 256 + r0.toNat }))

/-- R17, R18, R19, R20, R87, R154: a DISCHARGE at the part, when its pass entry takes it: malformed unless its
payload has 6 bytes; ignored while STOPPED; else the valve's epoch is compared and, with room, a FILLED entry
made, EN_ROUTE, expected one path length on; at a full queue TRACK_OVERFLOW is counted and no entry made. -/
def Obligations.DischargeMakesAnEntry : Prop :=
  ∀ (s : State) (f : Frame) (p : PassEntry), s.admits f → f.dest = s.ownStation → f.kind ≠ 0x40 →
    s.passMatch f = some p → p.intake = .discharge →
    (f.payload.length ≠ 6 →
      exec (.frameCompletion f.bytes) s = .next ((s.bump .rxFrames).bump .intakeMalformed)) ∧
    (∀ v s1 s0 epoch r1 r0 : Byte, f.payload = [v, s1, s0, epoch, r1, r0] →
      let known : Bool := decide (v.toNat < s.valveCount)
      let id := r1.toNat * 256 + r0.toNat
      let e : Entry :=
        { tag := 0, origin := .filled, valve := if known then some v.toNat else none,
          serial := some (s1 ++ s0), epoch := some epoch,
          slot := (s.activeSlot.filter fun k => (s.image k).word 0 == id).or
            (s.drainingSlot.filter fun k => (s.image k).word 0 == id),
          dateGen := s.cck.generation, dischargePos := some s.ctr.position,
          expectedPos := some (s.ctr.position + BitVec.ofNat 32 s.pathLength), infeedPos := none,
          stage := .enRoute, weigh := none, codeState := .notRequested, code := none, causes := 0,
          selected := 0, decision := none, unfired := false,
          stale := known && (s.sup.holdDrg || epoch != (s.valve v.toNat).epoch), offered := false,
          exit := none }
      (s.ctr.run = .stopped → exec (.frameCompletion f.bytes) s =
        .next (((s.bump .rxFrames).bump .takenDischarge).bump .dischargesStopped)) ∧
      (s.ctr.run = .running → ∃ t, exec (.frameCompletion f.bytes) s = .next t ∧
        t.drg = (if known then s.takeEpoch v.toNat epoch else s).drg ∧
        t.counter .discharges = satInc (s.counter .discharges) ∧
        (s.ctr.queue.length < 256 → t.ctr = (s.addEntry e).ctr ∧ t.rcs = (s.addEntry e).rcs ∧
          t.counter .badValve = (if known then s.counter .badValve else satInc (s.counter .badValve))) ∧
        (256 ≤ s.ctr.queue.length → t.ctr = s.ctr ∧ t.rcs = s.rcs ∧
          t.counter .trackOverflow = satInc (s.counter .trackOverflow)) ∧
        s.changesOnly t [.lif, .mga, .ctr, .drg, .rcs, .counters]))

/-- R158, R159, R160, R157, R181: the end of a transmission counts the frame and leaves the port in its idle
interval, or, when it was the reply to RESET_PART, resets the part (its outputs and conditioned inputs inactive but
for AIR_OK, no cause, no hold, excitation NORMAL, every block at its reset values; the latches, the store and its
audit counter kept; the values of the copies before the start-up read and of a latched position in EYE_CLEAR are the
model's, logs 19 and 5); at the end of the interval the arbiter takes the head of the elevated class, else of the
first class in order that holds a frame, and a frame of the part's own gets its header. R156: a frame joins the tail
of its class's queue; at a BUSY port, or in bypass, nothing else happens, and at a FREE port the arbiter selects in
the same way. -/
def Obligations.PortSendsInTheArbitersOrder : Prop :=
  (∀ (s : State) (c : TxClass) (f : Frame) (own resets : Bool), s.lif.port = .sending c f own resets →
    (resets = false → exec .transmissionEnd s = .next ((if own then [Counter.txFrames, .txGenerated]
      else [.txFrames]).foldl State.bump { s with lif := { s.lif with port := .idleGap c } })) ∧
    (resets = true → ∃ t, exec .transmissionEnd s = .next t ∧ t.sup.phase = .readingStore ∧
      t.sup.resetCause = .loopCommand ∧ t.sup.address = s.sup.address ∧ t.sup.calwe = s.sup.calwe ∧
      t.sup.exc = .normal ∧ t.sup.excCode = none ∧ t.sup.lineStop = 0 ∧ t.sup.holdWge = false ∧
      t.sup.holdCck = false ∧ t.sup.holdDrg = false ∧ t.sup.binFull.active = false ∧
      t.sup.airOk.active = true ∧ t.sup.store.audit = s.sup.store.audit ∧
      ((∀ v, s.mga.service = some v → ∃ k, v.operation = .verify k) → t.sup.store = s.sup.store) ∧
      (t.sup.store = s.sup.store ∨ t.sup.store.checkAgrees = false) ∧
      t.gateActive = false ∧ t.lineStopActive = false ∧ t.bypassed = true ∧ t.taking = false ∧
      t.lif = Lif.reset ∧
      t.mga = Mga.reset ∧ t.setup = SetupImage.defaults ∧ t.ctr = Ctr.reset ∧ t.wge = Wge.reset ∧
      t.cck = Cck.reset ∧ t.drg = Drg.reset ∧ t.gtc = Gtc.reset ∧ t.rcs = Rcs.reset ∧
      (∀ n, t.counter n = 0) ∧ t.pins = s.pins ∧ t.pending = s.pending)) ∧
  (∀ (s : State) (c : TxClass), s.lif.port = .idleGap c →
    (s.bypassed = true ∨ (∀ d, s.lif.queue d = []) →
      exec .portFree s = .next { s with lif := { s.lif with port := .free } }) ∧
    (∀ (d : TxClass) (x : Queued) (rest : List Queued), s.bypassed = false → s.selects d x rest →
      ∃ t, exec .portFree s = .next t ∧ s.starts t d x rest)) ∧
  (∀ (s : State) (c : TxClass) (x : Queued), ∃ u : State,
    s.changesOnly u [.lif] ∧ u.lif.pass = s.lif.pass ∧ u.lif.port = s.lif.port ∧ u.lif.seq = s.lif.seq ∧
    (∀ e, u.lif.queue e = if e = c then s.lif.queue c ++ [x] else s.lif.queue e) ∧
    (s.lif.port ≠ .free ∨ s.bypassed = true → s.join c x = u) ∧
    (s.lif.port = .free → s.bypassed = false →
      ∃ d y rest, u.selects d y rest ∧ u.starts (s.join c x) d y rest))

/-! ## Management requests -/

/-- R151, R165, R166, R167, R168: a management frame is discarded when its payload is too short, when a line
controller is set and did not send it, or when 4 requests wait; else its request joins the queue, and one that heads
it and finds the REPLY queue full has its wait counted once, at that moment (log 14). A reply goes to the requester
with code, tag and status, and is counted. -/
def Obligations.RequestsQueueAndRepliesGoBack : Prop :=
  (∀ (s : State) (f : Frame), s.admits f → f.dest = s.ownStation → f.kind = 0x40 →
    let u := (s.bump .rxFrames).bump .takenManagement
    let allowed := s.lineController = 0 ∨ f.source = s.lineController
    (f.payload.length < 2 → exec (.frameCompletion f.bytes) s = .next (u.bump .mgmtMalformed)) ∧
    (2 ≤ f.payload.length → ¬ allowed →
      exec (.frameCompletion f.bytes) s = .next (u.bump .mgmtForeign)) ∧
    (2 ≤ f.payload.length → allowed → 4 ≤ s.mga.requests.length →
      exec (.frameCompletion f.bytes) s = .next (u.bump .mgmtOverrun)) ∧
    (∀ code tag args, f.payload = code :: tag :: args → allowed → s.mga.requests.length < 4 →
      let requests := s.mga.requests ++ [{ source := f.source, code := code, tag := tag, args := args }]
      let waits := s.mga.service = none ∧ s.mga.closed = false ∧ 4 ≤ s.lif.reply.length ∧
        s.mga.waitCounted = false
      (¬ waits → exec (.frameCompletion f.bytes) s =
        .next ({ u with mga := { s.mga with requests := requests } }.bump .requestsTaken)) ∧
      (waits → exec (.frameCompletion f.bytes) s =
        .next (({ u with mga := { s.mga with requests := requests, waitCounted := true } }.bump
          .requestsTaken).bump .replyWaits)))) ∧
  (∀ (r : Request) (a : Answer),
    let t := replyTo r a
    t.lif = (a.state.join .reply (.own r.source 0x41 ([r.code, r.tag, a.status.toByte] ++ a.data)
      false)).lif ∧
    t.counter (if a.status = .ok then .repliesOk else .repliesRefused) =
      satInc (a.state.counter (if a.status = .ok then .repliesOk else .repliesRefused)) ∧
    t.mga.requests = a.state.mga.requests ∧ t.mga.service = a.state.mga.service ∧
    t.mga.closed = a.state.mga.closed ∧ a.state.changesOnly t [.lif, .mga, .counters]) ∧
  [Status.ok, .badRequest, .badArgument, .trackingRunning, .slotState, .changeoverBusy, .recipeConflict,
    .setupInconsistent, .calLocked, .calWriteDisabled, .notHoldable].map Status.toByte =
    [0, 1, 2, 3, 4, 5, 6, 7, 8, 9, 10]

/-- R179 and, for what each block reports, R32, R83, R125, R144, R164, R194; R63, R105, R129, R149, R172, R174,
R189: each read is answered OK with the values its rule lists, in that order, and changes nothing. The layout of a
reply beyond R195 and R196 is the model's: yes and no, presence bytes and absent items (log 13), the class reported
in the idle interval (log 16), the conditioned levels with active as 1 (log 32), one presence byte for a slot's
recipe id and name (log 33), the count byte of READ_COUNTERS (log 34), the infeed monitor before the confirm monitor
and slot 0 before slot 1 (log 39). READ_STATE with a running gate pulse reads its time left as a free value up to
the loaded pulse (log 8). -/
def Obligations.ReadsReportTheState : Prop :=
  ∀ (s : State) (r : Request) (rest : List Request), s.begins r rest →
    let u := s.took rest
    let ok := fun (c : Instr) (data : List Byte) =>
      exec c s = .next (replyTo r { state := u, status := .ok, data := data })
    let yes := fun (b : Bool) => (if b then 1 else 0 : Byte)
    let one := fun (n : Nat) => BitVec.ofNat 8 n
    let absent := fun (size : Nat) => List.replicate (size + 1) (0 : Byte)
    let inStage := fun (x : Stage) => bytesBE 2 (s.ctr.queue.countP fun (e : Entry) => e.stage == x)
    let ctr : List Byte := [s.ctr.run.toByte] ++ bytesBE 4 s.ctr.position.toNat ++ bytesBE 2 s.ctr.debt ++
      bytesBE 2 s.ctr.queue.length ++ inStage .enRoute ++ inStage .weighing ++ inStage .awaitingDecision ++
      inStage .decided ++ inStage .awaitingConfirm ++
      (match s.ctr.queue.head? with
        | none => absent 3
        | some e => [1] ++ bytesBE 2 e.tag.toNat ++ [e.stage.toByte]) ++
      [one s.ctr.slipRun, s.ctr.infeed.state.toByte, s.ctr.confirm.state.toByte]
    let wge : List Byte := [yes s.sup.holdWge, yes (s.wge.span == 0)]
    let date := fun (x : Option (List Byte)) => (match x with
      | none => absent 1
      | some text => [1, one text.length] ++ text : List Byte)
    let cck : List Byte := [yes s.sup.holdCck, s.cck.generation] ++ date s.cck.current ++
      date s.cck.previous ++ [one s.cck.faultRun] ++
      bytesBE 2 (s.ctr.queue.countP fun (e : Entry) => e.codeState == .requested)
    let gtc := fun (left : Nat) => ([one s.gtc.rejects.length] ++
      (match s.gtc.rejects.head? with
        | none => absent 6
        | some x => [1] ++ bytesBE 2 x.tag.toNat ++ bytesBE 4 x.fire.toNat) ++
      (match s.gtc.gateTimer with
        | none => [0] ++ absent 1
        | some _ => [1, 1, one left]) ++
      [yes s.sup.binFull.active, yes s.sup.airOk.active] ++ bytesBE 2 s.gtc.resultNumber.toNat : List Byte)
    let slot := fun (x : Slot) => ([x.state.toByte] ++ bytesBE 2 x.refs ++
      (if x.state = .verified ∨ x.state = .active ∨ x.state = .draining then
        [1] ++ bytesBE 2 (x.image.word 0) ++ [16] ++
          ((List.range 8).flatMap fun (i : Nat) => bytesBE 2 (x.image.word (1 + i)))
      else absent 3) ++
      (match if x.state = .faulted then x.fault else none with
        | none => absent 2
        | some f => [1, f.reason.toByte, one f.index]) : List Byte)
    let lif : List Byte := [one s.lif.trigger.length, one s.lif.forward.length, one s.lif.trim.length,
      one s.lif.reply.length, one s.lif.notice.length, one s.lif.result.length] ++
      (match s.lif.port with
        | .free => [1, 0]
        | .sending c _ _ _ => [0, one (c.ctorIdx + 1)]
        | .idleGap c => [0, one (c.ctorIdx + 1)]) ++
      [match s.elevation with
        | none => 0
        | some c => one (c.ctorIdx + 1)] ++ bytesBE 2 s.lif.seq.toNat ++ [s.ownStation]
    let sup : List Byte := [s.sup.resetCause.toByte, s.ownStation, yes s.sup.calwe, s.calState.toByte,
      s.sup.exc.toByte] ++
      (match s.sup.excCode with
        | none => absent 2
        | some x => [1] ++ bytesBE 2 x.toNat) ++
      bytesBE 2 s.sup.lineStop.toNat ++ [yes s.lineStopActive, yes s.sup.holdWge, yes s.sup.holdCck,
        yes s.sup.holdDrg]
    let all := fun (left : Nat) => ctr ++ wge ++ cck ++ gtc left ++ slot s.rcs.slot0 ++ slot s.rcs.slot1 ++
      lif ++ sup ++ [one rest.length, s.mga.noticeNumber, s.mga.dropCount]
    (r.code = 0x01 → r.args = [] →
      (s.gtc.gateTimer = none → ok .readState (all 0)) ∧
      (∀ n, s.gtc.gateTimer = some n → ∃ left ≤ n, exec .readState s = .next (replyTo r
        { state := { u with freeCount := s.freeCount + 1 }, status := .ok, data := all left }))) ∧
    (∀ (g : Byte) (b : Block), r.code = 0x02 → r.args = [g, 0] → g.toNat = b.ctorIdx →
      let group := ([(0, 18), (18, 11), (29, 17), (46, 9), (55, 19), (74, 20), (94, 19), (113, 7), (120, 7)] :
        List (Nat × Nat)).getD b.ctorIdx (0, 0)
      ok .readCounters ([g, one group.2] ++ (List.range group.2).flatMap fun (i : Nat) =>
        bytesBE 4 (s.counters.toList.getD (group.1 + i) 0).toNat)) ∧
    (r.code = 0x04 → r.args = [] → ok .readPlatform (
      (match s.wge.output with
        | none => absent 6
        | some o => [1] ++ signedBE 4 o.value ++ [yes o.overrange, o.exc.toByte]) ++
      signedBE 4 s.wge.zero ++ [s.wge.zeroState.toByte, one s.wge.driftRun, yes s.wge.captureArmed,
        s.wge.sampleState.toByte, s.sup.exc.toByte, one s.wge.records.length] ++
      (s.wge.records.flatMap fun (o : Occupancy) => bytesBE 2 o.tag.toNat ++
        [o.platform.toByte, o.window.toByte] ++ bytesBE 4 o.acc.count.toNat) ++ wge)) ∧
    (∀ v : Byte, r.code = 0x05 → r.args = [v] → v.toNat ≤ 95 →
      let x := s.valve v.toNat
      ok .readValve ([x.mode.toByte, x.state.toByte, yes x.erratic, yes x.saturated] ++ signedBE 4 x.trim ++
        [x.epoch, one x.sends, one x.mismatchRun] ++ signedBE 4 x.sum ++
        [one x.n, one x.satRun, one x.recent.length] ++ x.recent.flatMap (signedBE 4) ++
        bytesBE 4 x.weighed.toNat ++ bytesBE 4 x.rejected.toNat ++ bytesBE 4 x.missing.toNat ++
        bytesBE 4 x.stale.toNat ++ [yes (decide (s.valveCount ≤ v.toNat)), yes s.sup.holdDrg])) ∧
    (∀ off n : Byte, r.code = 0x11 → r.args = [off, n] → n ≠ 0 → off.toNat + n.toNat ≤ 128 →
      ok .readSetup (n :: (List.range n.toNat).map fun i => setupByte s.setup (off.toNat + i))) ∧
    (∀ i : Fin 16, r.code = 0x13 → r.args = [BitVec.ofNat 8 i] →
      ok .readPassEntry (match s.lif.pass[i] with
        | none => [0, 0, 0, 0, 0]
        | some p => [1, p.source, p.kind, p.intake.toByte, if p.forward then 1 else 0])) ∧
    (∀ (k : SlotId) (off n : Byte), r.code = 0x21 → r.args = [if k = .s0 then 0 else 1, off, n] →
      1 ≤ n.toNat → n.toNat ≤ 64 → off.toNat + n.toNat ≤ 256 →
      let x := s.rcs.slot k
      ok .readRecipe ([x.state.toByte] ++ bytesBE 2 x.refs ++
        (match x.fault with
          | none => absent 2
          | some f => [1, f.reason.toByte, one f.index]) ++ [n] ++
        (List.range n.toNat).flatMap fun (i : Nat) => bytesBE 2 ((s.image k).word (off.toNat + i)))) ∧
    (r.code = 0x4B → r.args = [] →
      let c := if s.sup.storeValid then s.sup.store.record
        else ({ span := 0, capacity := 1000, zero := 0, locked := false } : CalRecord)
      ok .readCal (bytesBE 4 c.span ++ bytesBE 4 c.capacity ++ signedBE 4 c.zero ++ [s.calState.toByte] ++
        bytesBE 4 s.sup.store.audit.toNat ++ [yes s.sup.calwe]))

/-- R174, R175, R105: READ_COUNTERS with clear and CLEAR_COUNTERS return a group's counters to 0 after reading them,
and those of every valve with the group of the DRG; group FFh is every group. The clear comes before the reply is
counted (log 24). -/
def Obligations.CountersAreClearedByGroup : Prop :=
  ∀ (s : State) (r : Request) (rest : List Request), s.begins r rest →
    let u := s.took rest
    let spans : List (Nat × Nat) :=
      [(0, 18), (18, 29), (29, 46), (46, 55), (55, 74), (74, 94), (94, 113), (113, 120), (120, 127)]
    let cleared := fun (v : State) (b : Option Block) =>
      u.changesOnly v [.counters, .drg] ∧
      (∀ c : Counter, v.counter c = if ∀ g, b = some g → (spans.getD g.ctorIdx (0, 0)).1 ≤ c.ctorIdx ∧
        c.ctorIdx < (spans.getD g.ctorIdx (0, 0)).2 then 0 else s.counter c) ∧
      (∀ i < 96, v.valve i = if b = none ∨ b = some .drg then
        { s.valve i with weighed := 0, rejected := 0, missing := 0, stale := 0 } else s.valve i)
    (∀ (g : Byte) (b : Block), r.code = 0x02 → r.args = [g, 1] → g.toNat = b.ctorIdx →
      ∃ v, exec .readCounters s = .next (replyTo r { state := v, status := .ok, data := reportCounters u b }) ∧
        cleared v (some b)) ∧
    (∀ (g : Byte) (b : Block), r.code = 0x03 → r.args = [g] → g.toNat = b.ctorIdx →
      ∃ v, exec .clearCounters s = .next (replyTo r { state := v, status := .ok, data := [] }) ∧
        cleared v (some b)) ∧
    (r.code = 0x03 → r.args = [0xFF] →
      ∃ v, exec .clearCounters s = .next (replyTo r { state := v, status := .ok, data := [] }) ∧
        cleared v none)

/-- R170, R171, and R21, R22, R40, R85, R122 for the effects: WRITE_SETUP refuses, in R170's order with its status and
offset, a run whose count is wrong or that leaves the image, one that cuts a field (the field its beginning cuts
first, log 28), one that touches a field that is not live while RUNNING, one that leaves a touched field out of its
range or an unassigned byte other than 0, and one that leaves the halt code at or above the warn code; a refused run
changes nothing. Any other run is written, and each changed field has its effect, in offset order (log 17): a pending
arrival at or past a new minimum block distance is recognised; a changed eye polarity clears its monitor, which then
takes an eye that reads blocked as becoming blocked; a changed decimation or average length empties the filter, a
changed empty window its accumulator; a changed readiness polarity restarts that input's conditioning; a changed
valve count returns the records between the old and the new to reset. -/
def Obligations.SetupWritesPassTheTests : Prop :=
  ∀ (s : State) (r : Request) (rest : List Request) (off n : Byte) (run : List Byte) (img : SetupImage),
    s.begins r rest → r.code = 0x10 → r.args = off :: n :: run →
    (∀ i < 128, setupByte img i = if off.toNat ≤ i ∧ i < off.toNat + n.toNat
      then run.getD (i - off.toNat) 0 else setupByte s.setup i) →
    let lo := off.toNat
    let hi := off.toNat + n.toNat
    let refused := fun (st : Status) (data : List Byte) =>
      exec .writeSetup s = .next (replyTo r { state := s.took rest, status := st, data := data })
    let touched := fun (f : SetupField) => decide (f.offset < hi) && decide (lo < f.offset + f.size)
    let cut := fun (f : SetupField) => (decide (f.offset < lo) && decide (lo < f.offset + f.size)) ||
      (decide (f.offset < hi) && decide (hi < f.offset + f.size))
    let firstCut : Option SetupField := setupFields.find? cut
    let firstFixed : Option SetupField := setupFields.find? fun f => touched f && !f.live
    let firstBad : Option Nat :=
      ((setupFields.find? fun f => touched f && !f.admits (setupNum img f.offset f.size)).map (·.offset)).or
        ((List.range 128).find? fun i =>
          decide (51 ≤ i) && decide (lo ≤ i) && decide (i < hi) && setupByte img i != 0)
    let whole := 0 < n.toNat ∧ run.length = n.toNat ∧ hi ≤ 128
    let free := s.ctr.run = .running → firstFixed = none
    let below := setupNum img 38 2 < setupNum img 36 2
    (¬ whole → refused .badArgument []) ∧
    (whole → ∀ f, firstCut = some f → refused .badArgument [BitVec.ofNat 8 f.offset]) ∧
    (whole → firstCut = none → s.ctr.run = .running → ∀ f, firstFixed = some f →
      refused .trackingRunning [BitVec.ofNat 8 f.offset]) ∧
    (whole → firstCut = none → free → ∀ i, firstBad = some i → refused .badArgument [BitVec.ofNat 8 i]) ∧
    (whole → firstCut = none → free → firstBad = none → ¬ below → refused .badArgument [38]) ∧
    (whole → firstCut = none → free → firstBad = none → below →
      let changed : Nat → Nat → Bool := fun o z => setupNum img o z != setupNum s.setup o z
      let far := setupNum img 10 2
      let x := s.ctr.position
      let reach := fun (m : EyeMonitor × List Pos) =>
        if changed 10 2 = true ∧ m.1.state = .pending ∧
            (x - (m.1.latched + BitVec.ofNat 32 far)).toNat < 2 ^ 31 then
          (({ state := .taken, latched := m.1.latched } : EyeMonitor), m.2 ++ [m.1.latched])
        else m
      let turn := fun (o : Nat) (blocked : Bool) (m : EyeMonitor × List Pos) =>
        if changed o 1 then
          let clear : EyeMonitor := { m.1 with state := .clear }
          if blocked then ((clear.whenBlocked far x).1, m.2 ++ (clear.whenBlocked far x).2) else (clear, m.2)
        else m
      let infeed := turn 12 (s.pins.eyeIn != (setupNum img 12 1 == 1)) (reach (s.ctr.infeed, s.ctr.infeedDue))
      let confirm := turn 13 (s.pins.eyeConf != (setupNum img 13 1 == 1))
        (reach (s.ctr.confirm, s.ctr.confirmDue))
      let filter : Wge := if changed 28 1 || changed 29 1 then
        { s.wge with decSum := 0, decCount := 0, decFlag := false, history := [], output := none } else s.wge
      ∃ v, exec .writeSetup s = .next (replyTo r { state := v, status := .ok, data := [] }) ∧
        v.setup = img ∧
        v.ctr = { s.ctr with
          infeed := infeed.1, infeedDue := infeed.2, confirm := confirm.1, confirmDue := confirm.2 } ∧
        v.wge = (if changed 30 1 then { filter with emptySum := 0, emptyCount := 0 } else filter) ∧
        v.sup = { s.sup with
          binFull := if changed 42 1 then
            { active := false, timing := s.pins.binFull != (setupNum img 42 1 == 1) } else s.sup.binFull
          airOk := if changed 43 1 then
            { active := true, timing := !(s.pins.airOk != (setupNum img 43 1 == 1)) } else s.sup.airOk } ∧
        (∀ i < 96, v.valve i = if min (setupNum s.setup 47 1) (setupNum img 47 1) ≤ i ∧
          i < max (setupNum s.setup 47 1) (setupNum img 47 1) then Valve.reset else s.valve i) ∧
        s.countsOnly v [.setupWrites] ∧
        (s.took rest).changesOnly v [.setup, .ctr, .wge, .sup, .drg, .counters])

/-- R128, R130 to R137: WRITE_RECIPE writes words and leaves the slot LOADING; DISCARD_RECIPE
empties it; neither touches a slot that is VERIFYING, ACTIVE or DRAINING. VERIFY_RECIPE takes a LOADING slot to
VERIFYING and holds its reply until VERIFICATION_COMPLETE, which leaves it VERIFIED, or FAULTED with the first
fault: the reason and word index of the first test that fails, of the check word (R131), the field ranges and the
unassigned words (R132), the limit and window orders (R133), the lot string and the pattern elements (R134), the
decision offset and the capacity (R135). The fault stands in the reply without a presence byte (log 13). -/
def Obligations.RecipeRequestsMoveTheSlot : Prop :=
  (∀ (s : State) (r : Request) (rest : List Request) (k : SlotId), s.begins r rest →
    let u := s.took rest
    let slot : Byte := if k = .s0 then 0 else 1
    let st := (s.rcs.slot k).state
    let busy := st = .verifying ∨ st = .active ∨ st = .draining
    let others := fun (v : State) => (v.rcs.slot k).refs = (s.rcs.slot k).refs ∧
      (v.rcs.slot k).fault = none ∧ v.rcs.slot k.other = s.rcs.slot k.other
    let refused := fun (c : Instr) =>
      exec c s = .next (replyTo r { state := u, status := .slotState, data := [] })
    (∀ (off n : Byte) (ws : List Word16), r.code = 0x20 →
      r.args = slot :: off :: n :: ws.flatMap (fun (w : Word16) => [(w >>> 8).setWidth 8, w.setWidth 8]) →
      1 ≤ n.toNat → n.toNat ≤ 64 → ws.length = n.toNat → off.toNat + n.toNat ≤ 256 →
      (busy → refused .writeRecipe) ∧
      (¬ busy → ∃ v, exec .writeRecipe s = .next (replyTo r { state := v, status := .ok, data := [1] }) ∧
        (v.rcs.slot k).state = .loading ∧ others v ∧
        (∀ i < 256, (v.image k).word i = if off.toNat ≤ i ∧ i < off.toNat + n.toNat
          then (ws.getD (i - off.toNat) 0).toNat else (s.image k).word i) ∧
        u.countsOnly v [.recipeWrites] ∧ u.changesOnly v [.rcs, .counters])) ∧
    (r.code = 0x23 → r.args = [slot] →
      (busy → refused .discardRecipe) ∧
      (¬ busy → ∃ v, exec .discardRecipe s = .next (replyTo r { state := v, status := .ok, data := [0] }) ∧
        (v.rcs.slot k).state = .empty ∧ others v ∧ (∀ i < 256, (v.image k).word i = 0) ∧
        u.changesOnly v [.rcs])) ∧
    (r.code = 0x22 → r.args = [slot] →
      (st ≠ .loading → refused .verifyRecipe) ∧
      (st = .loading → ∃ t, exec .verifyRecipe s = .next t ∧
        t.rcs.slot k = { s.rcs.slot k with state := .verifying } ∧
        t.rcs.slot k.other = s.rcs.slot k.other ∧
        t.mga = { u.mga with service := some { request := r, operation := .verify k } } ∧
        s.changesOnly t [.rcs, .mga]))) ∧
  (∀ (s : State) (r : Request) (k : SlotId),
    s.mga.service = some { request := r, operation := .verify k } →
    let u := { s with mga := { s.mga with service := none } }
    let img := s.image k
    ∃ v data, exec .verificationComplete s =
        .next (replyTo r { state := v, status := .ok, data := data }) ∧ v.image k = img ∧
      (v.rcs.slot k).refs = (s.rcs.slot k).refs ∧ v.rcs.slot k.other = s.rcs.slot k.other ∧
      (∀ f, (imageFault img).or (s.conflict img) = some f → (v.rcs.slot k).state = .faulted ∧
        (v.rcs.slot k).fault = some f ∧ data = [4, f.reason.toByte, BitVec.ofNat 8 f.index] ∧
        u.countsOnly v [.verifyFaults]) ∧
      ((imageFault img).or (s.conflict img) = none → (v.rcs.slot k).state = .verified ∧
        (v.rcs.slot k).fault = none ∧ data = [3] ∧ u.countsOnly v [.verifyPasses] ∧
        ((List.range 255).map img.word).sum % 65536 = img.word 255 ∧
        img.l2 ≤ img.l1 ∧ img.l1 ≤ img.nominal ∧ img.nominal ≤ img.h1 ∧ img.h1 ≤ img.h2 ∧
        img.entryOffset < img.settleOffset ∧ img.settleOffset < img.endOffset ∧
        img.endOffset ≤ img.exitOffset ∧ img.endOffset < s.decisionOffset ∧
        img.h2 + img.tare ≤ s.wge.capacity) ∧
      u.changesOnly v [.rcs, .counters]) ∧
  (∀ (s : State) (img : Image),
    let two := fun (i : Nat) => img.word i * 65536 + img.word (i + 1)
    let signed : Int := if two 21 < 2147483648 then (two 21 : Int) else (two 21 : Int) - 4294967296
    let fits := fun (i lo hi x : Nat) => (i, decide (lo ≤ x) && decide (x ≤ hi))
    let zero := fun (i : Nat) => (i, decide (img.word i = 0))
    let ranges : List (Nat × Bool) :=
      [fits 0 1 65535 (img.word 0),
        (1, (List.range 8).all fun i => decide (0x20 ≤ img.word (1 + i) / 256 ∧
          img.word (1 + i) / 256 ≤ 0x7E ∧ 0x20 ≤ img.word (1 + i) % 256 ∧ img.word (1 + i) % 256 ≤ 0x7E)),
        fits 9 0 2000000 (two 9), fits 11 1 8000000 (two 11), fits 13 0 8000000 (two 13),
        fits 15 0 8000000 (two 15), fits 17 0 8000000 (two 17), fits 19 0 8000000 (two 19),
        (21, decide (-100000 ≤ signed) && decide (signed ≤ 100000)), fits 27 0 16777215 (two 27),
        fits 29 1 64 (img.word 29), fits 30 1 16 (img.word 30), fits 31 0 100000 (two 31),
        fits 33 1 16 (img.word 33), fits 34 1 100000 (two 34), fits 36 0 50000 (img.word 36),
        fits 37 1 15 (img.word 37), fits 38 0 1000000 (two 38), fits 40 0 1 (img.word 40),
        fits 41 0 4 (img.word 41), fits 42 0 4095 (img.word 42)] ++
      (List.range 166).map fun i => zero (89 + i)
    let limits : List (Nat × Bool) := [(15, decide (two 13 ≤ two 15)), (11, decide (two 15 ≤ two 11)),
      (17, decide (two 11 ≤ two 17)), (19, decide (two 17 ≤ two 19))]
    let windows : List (Nat × Bool) := [(24, decide (img.word 23 < img.word 24)),
      (25, decide (img.word 24 < img.word 25)), (26, decide (img.word 25 ≤ img.word 26))]
    let element := fun (w : Nat) => decide (w / 256 = 1 ∧ 0x20 ≤ w % 256 ∧ w % 256 ≤ 0x7E ∨
      2 ≤ w / 256 ∧ w / 256 ≤ 6 ∧ w % 256 = 0)
    let pattern : List (Nat × Bool) := [fits 43 1 12 (img.word 43)] ++
      ((List.range 12).map fun i =>
        if i < img.word 43 then fits (44 + i) 0x20 0x7E (img.word (44 + i)) else zero (44 + i)) ++
      [fits 56 1 32 (img.word 56)] ++
      (List.range 32).map fun i =>
        if i < img.word 56 then (57 + i, element (img.word (57 + i))) else zero (57 + i)
    let tests : List (FaultReason × List (Nat × Bool)) :=
      [(.checkWord, [(255, decide (((List.range 255).map img.word).sum % 65536 = img.word 255))]),
        (.fieldRange, ranges), (.limitOrder, limits), (.windowOrder, windows), (.pattern, pattern),
        (.windowVsSetup, [(25, decide (img.word 25 < s.decisionOffset))]),
        (.capacity, [(19, decide (two 19 + two 9 ≤ s.wge.capacity))])]
    let fails := fun (x : FaultReason × List (Nat × Bool)) => (x.2.find? fun t => !t.2).map fun t =>
      ({ reason := x.1, index := t.1 } : SlotFault)
    (imageFault img).or (s.conflict img) = tests.findSome? fails)

/-- R138, R139, R141, R142, R99: a CHANGEOVER to a VERIFIED slot that agrees with the setup and the calibration,
with no slot DRAINING, makes it ACTIVE, sets the old one draining, clears the valves unless the DRG is held and
sends a TRIM_CLEAR with its recipe id (R100), and retires the old one at once when no entry names it, with a
SLOT_RETIRED notice of moment AT_DRAIN (R142); STOP_PRODUCT sets the ACTIVE slot draining and retires it in the same
way. A TRIM_CLEAR that finds the queue full and no filler station is counted once, as TRIM_OVERFLOW (log 27). The
reply gives slot 0's state before slot 1's (DESIGN CHOICE, log 38). The test of R138 that fails stands in the reply
without a presence byte (log 13). -/
def Obligations.ChangeoverMovesBothSlots : Prop :=
  ∀ (s : State) (r : Request) (rest : List Request) (k : SlotId), s.begins r rest →
    let u := s.took rest
    let x := s.rcs.slot k
    let y := s.rcs.slot k.other
    let left := fun (z : Slot) => if z.refs = 0 then SlotState.verified else .draining
    let refused := fun (c : Instr) (st : Status) =>
      exec c s = .next (replyTo r { state := u, status := st, data := [] })
    let states := fun (v : State) => [v.rcs.slot0.state.toByte, v.rcs.slot1.state.toByte]
    let draining := s.rcs.slot0.state = .draining ∨ s.rcs.slot1.state = .draining
    (r.code = 0x24 → r.args = [if k = .s0 then 0 else 1] →
      (x.state ≠ .verified → refused .changeover .slotState) ∧
      (x.state = .verified → draining → refused .changeover .changeoverBusy) ∧
      (x.state = .verified → ¬ draining → s.decisionOffset ≤ (s.image k).endOffset →
        exec .changeover s = .next (replyTo r
          { state := u.bump .changeoverConflicts, status := .recipeConflict, data := [6, 25] })) ∧
      (x.state = .verified → ¬ draining → (s.image k).endOffset < s.decisionOffset →
        s.wge.capacity < (s.image k).h2 + (s.image k).tare →
        exec .changeover s = .next (replyTo r
          { state := u.bump .changeoverConflicts, status := .recipeConflict, data := [7, 19] })) ∧
      (x.state = .verified → ¬ draining → (s.image k).endOffset < s.decisionOffset →
        (s.image k).h2 + (s.image k).tare ≤ s.wge.capacity →
        ∃ v, exec .changeover s = .next (replyTo r { state := v, status := .ok, data := states v }) ∧
          v.rcs.slot k = { x with state := .active } ∧
          v.rcs.slot k.other = { y with state := if y.state = .active then left y else y.state } ∧
          (∀ i < 96, v.valve i = if s.sup.holdDrg = false ∧ i < s.valveCount then
            { s.valve i with
              trim := 0, epoch := (s.valve i).epoch + 1, state := .awaitingConfirm, sends := 1,
              mismatchRun := 0, sum := 0, n := 0, recent := [], erratic := false, saturated := false,
              satRun := 0 } else s.valve i) ∧
          v.counter .changeovers = satInc (s.counter .changeovers) ∧
          (let a := if s.sup.holdDrg then u else u.toFiller .trimClears (s.trimClear (s.image k).recipeId)
           let b := if y.state = .active ∧ y.refs = 0 then a.slotReported k.other .atDrain else a
           v.lif = b.lif ∧ v.mga = b.mga ∧ b.countsOnly v [.changeovers]) ∧
          u.changesOnly v [.rcs, .drg, .lif, .mga, .counters])) ∧
    (r.code = 0x25 → r.args = [] →
      ((∀ j, (s.rcs.slot j).state ≠ .active) → refused .stopProduct .slotState) ∧
      (s.activeSlot = some k → draining → refused .stopProduct .changeoverBusy) ∧
      (s.activeSlot = some k → ¬ draining →
        ∃ v, exec .stopProduct s = .next (replyTo r { state := v, status := .ok, data := states v }) ∧
          v.rcs.slot k = { x with state := left x } ∧ v.rcs.slot k.other = y ∧
          v.counter .productStops = satInc (s.counter .productStops) ∧
          (let b := if x.refs = 0 then u.slotReported k .atDrain else u
           v.lif = b.lif ∧ v.mga = b.mga ∧ b.countsOnly v [.productStops]) ∧
          u.changesOnly v [.rcs, .lif, .mga, .counters]))

/-- R13, R59, R77, R98: START_TRACKING under its five conditions, SET_DATE, ZERO_NOW and SET_VALVE_MODE. A
SET_DATE while the CCK is held is answered with the generation as it stands (DESIGN CHOICE, log 36). -/
def Obligations.OperatingRequestsTakeEffect : Prop :=
  ∀ (s : State) (r : Request) (rest : List Request), s.begins r rest →
    let u := s.took rest
    let answers := fun (c : Instr) (v : State) (st : Status) (data : List Byte) =>
      exec c s = .next (replyTo r { state := v, status := st, data := data })
    (r.code = 0x30 → r.args = [] →
      let fails : List Bool :=
        [decide (s.gatePosition ≤ s.actuatorLead), decide (s.decisionOffset ≤ s.readOffset),
          decide (s.gatePosition ≤ s.decisionOffset + s.actuatorLead),
          s.confirmEnable && decide (s.confirmOffset ≤ s.gatePosition + s.confirmTolerance),
          match s.activeSlot with
            | none => false
            | some k => decide (s.decisionOffset ≤ (s.image k).endOffset)]
      (s.ctr.run = .running → answers .startTracking u .trackingRunning []) ∧
      (s.ctr.run = .stopped → (∀ i < 5, fails.getD i false = false) →
        answers .startTracking { u with ctr := { s.ctr with run := .running, debt := 0, slipRun := 0 } } .ok
          []) ∧
      (∀ i < 5, s.ctr.run = .stopped → fails.getD i false = true → (∀ j < i, fails.getD j false = false) →
        answers .startTracking u .setupInconsistent [BitVec.ofNat 8 (i + 1)])) ∧
    (∀ text : List Byte, r.code = 0x38 → r.args = BitVec.ofNat 8 text.length :: text →
      text.length = 8 → (∀ b ∈ text, 0x20 ≤ b.toNat ∧ b.toNat ≤ 0x7E) →
      (s.sup.holdCck = true → answers .setDate u .ok [s.cck.generation]) ∧
      (s.sup.holdCck = false → answers .setDate ({ u with cck := { s.cck with
        current := some text, previous := s.cck.current, generation := s.cck.generation + 1 } }.bump
        .dateSets) .ok [s.cck.generation + 1])) ∧
    (r.code = 0x39 → r.args = [] →
      (s.sup.holdWge = true → answers .zeroNow u .ok []) ∧
      (s.sup.holdWge = false →
        answers .zeroNow { u with wge := { s.wge with captureArmed := true } } .ok [])) ∧
    (∀ v m : Byte, r.code = 0x3A → r.args = [v, m] → v.toNat < s.valveCount → v.toNat < 96 →
      let x := s.valve v.toNat
      let set := fun (y : Valve) =>
        { u with drg := { s.drg with valves := s.drg.valves.setIfInBounds v.toNat y } }
      (m = 0 → answers .setValveMode
        (if s.sup.holdDrg = true ∨ x.mode = .included then u else set { x with mode := .included }) .ok []) ∧
      (m = 1 → answers .setValveMode
        (if s.sup.holdDrg = true ∨ x.mode = .excluded then u
          else set { x with mode := .excluded, sum := 0, n := 0 }) .ok [])) ∧
    (∀ v m : Byte, r.code = 0x3A → r.args = [v, m] → (s.valveCount ≤ v.toNat ∨ 1 < m.toNat) →
      answers .setValveMode u .badArgument [])

/-- R149, R166, R168, R181, R192: CLEAR_LINE_STOP takes out the named causes but for a level cause whose condition
still holds, and counts each cause removed and each kept; WRITE_PASS_ENTRY sets or frees an entry; RESET_PART is
answered OK, its reply marked to reset the part, and nothing further is begun; a code that names no request is
answered BAD_REQUEST, and so is a request of the catalogue whose arguments are fewer than its fixed ones, or more
where it carries no run; a group, flag, valve, run, entry, slot, text or block out of its range (R77, R105, R128,
R129, R130, R137, R138, R172, R174, R175, R193) is answered BAD_ARGUMENT. Each such request changes nothing but the
queue. -/
def Obligations.SystemRequestsTakeEffect : Prop :=
  ∀ (s : State) (r : Request) (rest : List Request), s.begins r rest →
    let u := s.took rest
    let answers := fun (c : Instr) (v : State) (st : Status) (data : List Byte) =>
      exec c s = .next (replyTo r { state := v, status := st, data := data })
    (∀ m1 m0 : Byte, r.code = 0x40 → r.args = [m1, m0] →
      let mask := m1.toNat * 256 + m0.toNat
      let named := lineStopCauses.filter fun (c : LineStopCause) => mask.testBit c.ctorIdx && s.hasCause c
      (512 ≤ mask → answers .clearLineStop u .badArgument []) ∧
      (mask < 512 → ∃ v, answers .clearLineStop v .ok (bytesBE 2 v.sup.lineStop.toNat) ∧
        (∀ c, v.hasCause c = (s.hasCause c && !(mask.testBit c.ctorIdx && !s.levelHolds c))) ∧
        v.sup = { s.sup with lineStop := v.sup.lineStop } ∧
        u.countsOnly v ((named.filter fun c => !s.levelHolds c).map (fun _ => .lineStopClears) ++
          (named.filter fun c => s.levelHolds c).map fun _ => .lineStopKept) ∧
        u.changesOnly v [.sup, .counters])) ∧
    (∀ (i : Fin 16) (source kind intake forward : Byte), r.code = 0x12 →
      (r.args = [BitVec.ofNat 8 i, 0, source, kind, intake, forward] → answers .writePassEntry
        { u with lif := { s.lif with pass := s.lif.pass.set i none } } .ok []) ∧
      (∀ (n : Intake) (w : Bool), r.args = [BitVec.ofNat 8 i, 1, source, kind, intake, forward] →
        intake.toNat = n.ctorIdx → forward.toNat = w.toNat →
        (source.toNat ≤ 62 → answers .writePassEntry { u with lif := { s.lif with
          pass := s.lif.pass.set i (some { source := source, kind := kind, intake := n, forward := w }) } }
          .ok []) ∧
        (62 < source.toNat → answers .writePassEntry u .badArgument []))) ∧
    (r.code = 0x4F → r.args = [] → exec .resetPart s = .next (replyTo r
      { state := { u with mga := { u.mga with closed := true } }, status := .ok, data := [] } true)) ∧
    ((∀ c ∈ requestCodes, r.code ≠ c) → answers .unknownRequestCode u .badRequest []) ∧
    (∀ (c : Instr) (code : Byte) (fixed : Nat) (run : Bool), (c, code, fixed, run) ∈ requestForms → r.code = code →
      (r.args.length < fixed ∨ (fixed < r.args.length ∧ run = false) → answers c u .badRequest []) ∧
      (outOfRange c r.args → answers c u .badArgument []))

/-- R193, R61, R62, R80, R81, R102, R104: HOLD_BLOCK and RELEASE_BLOCK: a held Weigh Engine ends its windows as
ENGINE_HELD, each counted as RESULTS_NOT_WEIGHED (R64), and returns to its reset values but for its calibration; a
held Code Checker closes its requests as NOT_CHECKED, each counted (R82), and forgets its dates; a held Dose
Regulator returns its valves to reset but for their counters, and its release clears the table and sends a
TRIM_CLEAR with recipe id 0 (R100; a full queue with no filler station counts it as TRIM_OVERFLOW, log 27); a flag
already so changes nothing, and no other block can be held. -/
def Obligations.HoldsAndReleasesTakeEffect : Prop :=
  ∀ (s : State) (r : Request) (rest : List Request) (b : Byte), s.begins r rest → r.args = [b] →
    let u := s.took rest
    let done := fun (c : Instr) (v : State) =>
      exec c s = .next (replyTo r { state := v, status := .ok, data := [] })
    let flags : List Bool := [s.sup.holdWge, s.sup.holdCck, s.sup.holdDrg]
    (r.code = 0x41 →
      (b.toNat < 9 → b.toNat ∉ [3, 4, 5] → exec .holdBlock s =
        .next (replyTo r { state := u, status := .notHoldable, data := [] })) ∧
      (∀ i < 3, b.toNat = i + 3 → flags.getD i false = true → done .holdBlock u) ∧
      (b = 3 → s.sup.holdWge = false → ∃ v, done .holdBlock v ∧
        v.sup = { s.sup with holdWge := true } ∧
        v.ctr = { s.ctr with queue := s.ctr.queue.map fun (y : Entry) =>
          if (s.wge.records.any fun (o : Occupancy) => o.tag == y.tag && o.window != .closed) then
            { y with
              stage := .awaitingDecision
              weigh := some { status := .notWeighed, reason := some .engineHeld, gross := none,
                              net := none, zone := none } }
          else y } ∧
        v.wge = { Wge.reset with
          span := s.wge.span, capacity := s.wge.capacity, calZero := s.wge.calZero,
          zero := s.wge.calZero } ∧
        u.countsOnly v (((s.wge.records.filter fun (o : Occupancy) => o.window != .closed).map
          fun _ => .resultsNotWeighed) ++ [.holds]) ∧
        u.changesOnly v [.sup, .ctr, .wge, .counters]) ∧
      (b = 4 → s.sup.holdCck = false → ∃ v, done .holdBlock v ∧
        v.sup = { s.sup with holdCck := true } ∧
        v.ctr = { s.ctr with queue := s.ctr.queue.map fun (y : Entry) =>
          if (s.ctr.queue.any fun (e : Entry) => e.tag == y.tag && e.codeState == .requested) then
            { y with
              codeState := .result
              code := some { cls := .notChecked, grade := none, text := none, detail := none } }
          else y } ∧
        v.cck = { current := none, previous := none, generation := 0, faultRun := 0 } ∧
        u.countsOnly v (((s.ctr.queue.filter fun (e : Entry) => e.codeState == .requested).map
          fun _ => .codeNotChecked) ++ [.holds]) ∧
        u.changesOnly v [.sup, .ctr, .cck, .counters]) ∧
      (b = 5 → s.sup.holdDrg = false → ∃ v, done .holdBlock v ∧
        v.sup = { s.sup with holdDrg := true } ∧
        (∀ i < 96, v.valve i = { Valve.reset with
          weighed := (s.valve i).weighed, rejected := (s.valve i).rejected,
          missing := (s.valve i).missing, stale := (s.valve i).stale }) ∧
        u.countsOnly v [.holds] ∧ u.changesOnly v [.sup, .drg, .counters])) ∧
    (r.code = 0x42 →
      (b.toNat < 9 → b.toNat ∉ [3, 4, 5] → exec .releaseBlock s =
        .next (replyTo r { state := u, status := .notHoldable, data := [] })) ∧
      (∀ i < 3, b.toNat = i + 3 → flags.getD i false = false → done .releaseBlock u) ∧
      (b = 3 → s.sup.holdWge = true → done .releaseBlock
        ({ u with sup := { s.sup with holdWge := false } }.bump .releases)) ∧
      (b = 4 → s.sup.holdCck = true → done .releaseBlock
        ({ u with sup := { s.sup with holdCck := false } }.bump .releases)) ∧
      (b = 5 → s.sup.holdDrg = true → ∃ v, done .releaseBlock v ∧
        v.sup = { s.sup with holdDrg := false } ∧
        (∀ i < 96, v.valve i = if i < s.valveCount then
          { s.valve i with
            trim := 0, epoch := (s.valve i).epoch + 1, state := .awaitingConfirm, sends := 1,
            mismatchRun := 0, sum := 0, n := 0, recent := [], erratic := false, saturated := false,
            satRun := 0 } else s.valve i) ∧
        v.counter .releases = satInc (s.counter .releases) ∧
        (let a := u.toFiller .trimClears (s.trimClear 0)
         v.lif = a.lif ∧ a.countsOnly v [.releases]) ∧
        u.changesOnly v [.sup, .drg, .lif, .counters]))

/-- R185, R186, R187: the three store writes: what refuses each, an argument of CAL_WRITE out of its range of R184
first, then the latch, the lock and the run state; the audit counter rises as the operation starts, and the reply is
held. At its completion the record stands in the store with its check word; the Weigh Engine takes its copies but at
a lock, with a ZERO_STATE notice when the zero was LOST (R60); a CAL_STATE notice is formed with the new state and the
audit counter; and the reply goes, at a CAL_WRITE with both. -/
def Obligations.StoreWritesGoThroughTheAudit : Prop :=
  (∀ (s : State) (r : Request) (rest : List Request), s.begins r rest →
    let u := s.took rest
    let refused := fun (c : Instr) (st : Status) =>
      exec c s = .next (replyTo r { state := u, status := st, data := [] })
    let starts := fun (c : Instr) (op : Operation) =>
      exec c s = .next ({ u with
        sup := { s.sup with store := { s.sup.store with audit := satInc s.sup.store.audit } },
        mga := { u.mga with service := some { request := r, operation := op } } }.bump .calOperations)
    (∀ (span capacity : Nat) (zero : Int), r.code = 0x48 →
      r.args = bytesBE 4 span ++ bytesBE 4 capacity ++ signedBE 4 zero → span ≤ 16777215 →
      1000 ≤ capacity → capacity ≤ 8000000 → -8388608 ≤ zero → zero ≤ 8388607 →
      (s.sup.calwe = false → refused .calWrite .calWriteDisabled) ∧
      (s.sup.calwe = true → s.calState = .locked → refused .calWrite .calLocked) ∧
      (s.sup.calwe = true → s.calState ≠ .locked → s.ctr.run = .running →
        refused .calWrite .trackingRunning) ∧
      (s.sup.calwe = true → s.calState ≠ .locked → s.ctr.run = .stopped →
        starts .calWrite (.calWrite { span := span, capacity := capacity, zero := zero, locked := false }))) ∧
    (∀ (span capacity : Nat) (zero : Int), r.code = 0x48 →
      r.args = bytesBE 4 span ++ bytesBE 4 capacity ++ signedBE 4 zero → span < 2 ^ 32 → capacity < 2 ^ 32 →
      -(2 ^ 31) ≤ zero → zero < 2 ^ 31 →
      16777215 < span ∨ capacity < 1000 ∨ 8000000 < capacity ∨ zero < -8388608 ∨ 8388607 < zero →
      refused .calWrite .badArgument) ∧
    (r.code = 0x49 → r.args = [] →
      (s.calState = .locked →
        exec .calLock s = .next (replyTo r { state := u, status := .ok, data := [] })) ∧
      (s.calState ≠ .locked → starts .calLock (.calLock { s.calRecord with locked := true }))) ∧
    (r.code = 0x4A → r.args = [] →
      (s.sup.calwe = false → refused .calClear .calWriteDisabled) ∧
      (s.sup.calwe = true → starts .calClear (.calClear { s.calRecord with span := 0, locked := false })))) ∧
  (∀ (s : State) (r : Request) (c : CalRecord),
    let sup := { s.sup with store := { s.sup.store with record := c, checkAgrees := true }, storeValid := true }
    let u : State := { s with mga := { s.mga with service := none }, sup := sup }
    let wge := { s.wge with
      span := c.span, capacity := c.capacity, calZero := c.zero, zero := c.zero, zeroState := .tracking,
      driftRun := 0, emptySum := 0, emptyCount := 0 }
    let copied : State := if s.wge.zeroState = .lost
      then ({ u with wge := wge } : State).notify (.zeroState .tracking c.zero) else { u with wge := wge }
    let state : CalState := if c.locked then .locked else .opened
    let ends := fun (i : Instr) (v : State) (copies : Wge) (data : List Byte) => ∃ t, exec i s = .next t ∧
      t = replyTo r { state := v.notify (.calState state s.sup.store.audit), status := .ok, data := data } ∧
      t.sup = sup ∧ t.wge = copies ∧ t.mga.service = none ∧ t.mga.requests = s.mga.requests ∧
      s.changesOnly t [.sup, .wge, .lif, .mga, .counters]
    (s.mga.service = some { request := r, operation := .calWrite c } →
      ends .calWriteComplete copied wge (state.toByte :: bytesBE 4 s.sup.store.audit.toNat)) ∧
    (s.mga.service = some { request := r, operation := .calLock c } → ends .calLockComplete u s.wge []) ∧
    (s.mga.service = some { request := r, operation := .calClear c } →
      ends .calClearComplete copied wge [])) ∧
  [CalState.invalid, .opened, .locked].map CalState.toByte = [0, 1, 2]
end

