-- ==== Sys2Proof/Laws/State.lean ====
section
/-!
SUPPORT. What each update of one block leaves of the fields of State: one lemma for each update and field.
-/

namespace Sys2Proof.Machine

/-! ## `State.onPins` -/

@[simp] theorem State.onPins_pending (s : State) (f : Pins → Pins) : (s.onPins f).pending = s.pending := rfl
@[simp] theorem State.onPins_pins (s : State) (f : Pins → Pins) : (s.onPins f).pins = f s.pins := rfl
@[simp] theorem State.onPins_sup (s : State) (f : Pins → Pins) : (s.onPins f).sup = s.sup := rfl
@[simp] theorem State.onPins_lif (s : State) (f : Pins → Pins) : (s.onPins f).lif = s.lif := rfl
@[simp] theorem State.onPins_mga (s : State) (f : Pins → Pins) : (s.onPins f).mga = s.mga := rfl
@[simp] theorem State.onPins_setup (s : State) (f : Pins → Pins) : (s.onPins f).setup = s.setup := rfl
@[simp] theorem State.onPins_ctr (s : State) (f : Pins → Pins) : (s.onPins f).ctr = s.ctr := rfl
@[simp] theorem State.onPins_wge (s : State) (f : Pins → Pins) : (s.onPins f).wge = s.wge := rfl
@[simp] theorem State.onPins_cck (s : State) (f : Pins → Pins) : (s.onPins f).cck = s.cck := rfl
@[simp] theorem State.onPins_drg (s : State) (f : Pins → Pins) : (s.onPins f).drg = s.drg := rfl
@[simp] theorem State.onPins_gtc (s : State) (f : Pins → Pins) : (s.onPins f).gtc = s.gtc := rfl
@[simp] theorem State.onPins_rcs (s : State) (f : Pins → Pins) : (s.onPins f).rcs = s.rcs := rfl
@[simp] theorem State.onPins_counters (s : State) (f : Pins → Pins) : (s.onPins f).counters = s.counters := rfl
@[simp] theorem State.onPins_freeCount (s : State) (f : Pins → Pins) : (s.onPins f).freeCount = s.freeCount := rfl

/-! ## `State.onSup` -/

@[simp] theorem State.onSup_pending (s : State) (f : Sup → Sup) : (s.onSup f).pending = s.pending := rfl
@[simp] theorem State.onSup_pins (s : State) (f : Sup → Sup) : (s.onSup f).pins = s.pins := rfl
@[simp] theorem State.onSup_sup (s : State) (f : Sup → Sup) : (s.onSup f).sup = f s.sup := rfl
@[simp] theorem State.onSup_lif (s : State) (f : Sup → Sup) : (s.onSup f).lif = s.lif := rfl
@[simp] theorem State.onSup_mga (s : State) (f : Sup → Sup) : (s.onSup f).mga = s.mga := rfl
@[simp] theorem State.onSup_setup (s : State) (f : Sup → Sup) : (s.onSup f).setup = s.setup := rfl
@[simp] theorem State.onSup_ctr (s : State) (f : Sup → Sup) : (s.onSup f).ctr = s.ctr := rfl
@[simp] theorem State.onSup_wge (s : State) (f : Sup → Sup) : (s.onSup f).wge = s.wge := rfl
@[simp] theorem State.onSup_cck (s : State) (f : Sup → Sup) : (s.onSup f).cck = s.cck := rfl
@[simp] theorem State.onSup_drg (s : State) (f : Sup → Sup) : (s.onSup f).drg = s.drg := rfl
@[simp] theorem State.onSup_gtc (s : State) (f : Sup → Sup) : (s.onSup f).gtc = s.gtc := rfl
@[simp] theorem State.onSup_rcs (s : State) (f : Sup → Sup) : (s.onSup f).rcs = s.rcs := rfl
@[simp] theorem State.onSup_counters (s : State) (f : Sup → Sup) : (s.onSup f).counters = s.counters := rfl
@[simp] theorem State.onSup_freeCount (s : State) (f : Sup → Sup) : (s.onSup f).freeCount = s.freeCount := rfl

/-! ## `State.onLif` -/

@[simp] theorem State.onLif_pending (s : State) (f : Lif → Lif) : (s.onLif f).pending = s.pending := rfl
@[simp] theorem State.onLif_pins (s : State) (f : Lif → Lif) : (s.onLif f).pins = s.pins := rfl
@[simp] theorem State.onLif_sup (s : State) (f : Lif → Lif) : (s.onLif f).sup = s.sup := rfl
@[simp] theorem State.onLif_lif (s : State) (f : Lif → Lif) : (s.onLif f).lif = f s.lif := rfl
@[simp] theorem State.onLif_mga (s : State) (f : Lif → Lif) : (s.onLif f).mga = s.mga := rfl
@[simp] theorem State.onLif_setup (s : State) (f : Lif → Lif) : (s.onLif f).setup = s.setup := rfl
@[simp] theorem State.onLif_ctr (s : State) (f : Lif → Lif) : (s.onLif f).ctr = s.ctr := rfl
@[simp] theorem State.onLif_wge (s : State) (f : Lif → Lif) : (s.onLif f).wge = s.wge := rfl
@[simp] theorem State.onLif_cck (s : State) (f : Lif → Lif) : (s.onLif f).cck = s.cck := rfl
@[simp] theorem State.onLif_drg (s : State) (f : Lif → Lif) : (s.onLif f).drg = s.drg := rfl
@[simp] theorem State.onLif_gtc (s : State) (f : Lif → Lif) : (s.onLif f).gtc = s.gtc := rfl
@[simp] theorem State.onLif_rcs (s : State) (f : Lif → Lif) : (s.onLif f).rcs = s.rcs := rfl
@[simp] theorem State.onLif_counters (s : State) (f : Lif → Lif) : (s.onLif f).counters = s.counters := rfl
@[simp] theorem State.onLif_freeCount (s : State) (f : Lif → Lif) : (s.onLif f).freeCount = s.freeCount := rfl

/-! ## `State.onMga` -/

@[simp] theorem State.onMga_pending (s : State) (f : Mga → Mga) : (s.onMga f).pending = s.pending := rfl
@[simp] theorem State.onMga_pins (s : State) (f : Mga → Mga) : (s.onMga f).pins = s.pins := rfl
@[simp] theorem State.onMga_sup (s : State) (f : Mga → Mga) : (s.onMga f).sup = s.sup := rfl
@[simp] theorem State.onMga_lif (s : State) (f : Mga → Mga) : (s.onMga f).lif = s.lif := rfl
@[simp] theorem State.onMga_mga (s : State) (f : Mga → Mga) : (s.onMga f).mga = f s.mga := rfl
@[simp] theorem State.onMga_setup (s : State) (f : Mga → Mga) : (s.onMga f).setup = s.setup := rfl
@[simp] theorem State.onMga_ctr (s : State) (f : Mga → Mga) : (s.onMga f).ctr = s.ctr := rfl
@[simp] theorem State.onMga_wge (s : State) (f : Mga → Mga) : (s.onMga f).wge = s.wge := rfl
@[simp] theorem State.onMga_cck (s : State) (f : Mga → Mga) : (s.onMga f).cck = s.cck := rfl
@[simp] theorem State.onMga_drg (s : State) (f : Mga → Mga) : (s.onMga f).drg = s.drg := rfl
@[simp] theorem State.onMga_gtc (s : State) (f : Mga → Mga) : (s.onMga f).gtc = s.gtc := rfl
@[simp] theorem State.onMga_rcs (s : State) (f : Mga → Mga) : (s.onMga f).rcs = s.rcs := rfl
@[simp] theorem State.onMga_counters (s : State) (f : Mga → Mga) : (s.onMga f).counters = s.counters := rfl
@[simp] theorem State.onMga_freeCount (s : State) (f : Mga → Mga) : (s.onMga f).freeCount = s.freeCount := rfl

/-! ## `State.onSetup` -/

@[simp] theorem State.onSetup_pending (s : State) (f : SetupImage → SetupImage) : (s.onSetup f).pending = s.pending := rfl
@[simp] theorem State.onSetup_pins (s : State) (f : SetupImage → SetupImage) : (s.onSetup f).pins = s.pins := rfl
@[simp] theorem State.onSetup_sup (s : State) (f : SetupImage → SetupImage) : (s.onSetup f).sup = s.sup := rfl
@[simp] theorem State.onSetup_lif (s : State) (f : SetupImage → SetupImage) : (s.onSetup f).lif = s.lif := rfl
@[simp] theorem State.onSetup_mga (s : State) (f : SetupImage → SetupImage) : (s.onSetup f).mga = s.mga := rfl
@[simp] theorem State.onSetup_setup (s : State) (f : SetupImage → SetupImage) : (s.onSetup f).setup = f s.setup := rfl
@[simp] theorem State.onSetup_ctr (s : State) (f : SetupImage → SetupImage) : (s.onSetup f).ctr = s.ctr := rfl
@[simp] theorem State.onSetup_wge (s : State) (f : SetupImage → SetupImage) : (s.onSetup f).wge = s.wge := rfl
@[simp] theorem State.onSetup_cck (s : State) (f : SetupImage → SetupImage) : (s.onSetup f).cck = s.cck := rfl
@[simp] theorem State.onSetup_drg (s : State) (f : SetupImage → SetupImage) : (s.onSetup f).drg = s.drg := rfl
@[simp] theorem State.onSetup_gtc (s : State) (f : SetupImage → SetupImage) : (s.onSetup f).gtc = s.gtc := rfl
@[simp] theorem State.onSetup_rcs (s : State) (f : SetupImage → SetupImage) : (s.onSetup f).rcs = s.rcs := rfl
@[simp] theorem State.onSetup_counters (s : State) (f : SetupImage → SetupImage) : (s.onSetup f).counters = s.counters := rfl
@[simp] theorem State.onSetup_freeCount (s : State) (f : SetupImage → SetupImage) : (s.onSetup f).freeCount = s.freeCount := rfl

/-! ## `State.onCtr` -/

@[simp] theorem State.onCtr_pending (s : State) (f : Ctr → Ctr) : (s.onCtr f).pending = s.pending := rfl
@[simp] theorem State.onCtr_pins (s : State) (f : Ctr → Ctr) : (s.onCtr f).pins = s.pins := rfl
@[simp] theorem State.onCtr_sup (s : State) (f : Ctr → Ctr) : (s.onCtr f).sup = s.sup := rfl
@[simp] theorem State.onCtr_lif (s : State) (f : Ctr → Ctr) : (s.onCtr f).lif = s.lif := rfl
@[simp] theorem State.onCtr_mga (s : State) (f : Ctr → Ctr) : (s.onCtr f).mga = s.mga := rfl
@[simp] theorem State.onCtr_setup (s : State) (f : Ctr → Ctr) : (s.onCtr f).setup = s.setup := rfl
@[simp] theorem State.onCtr_ctr (s : State) (f : Ctr → Ctr) : (s.onCtr f).ctr = f s.ctr := rfl
@[simp] theorem State.onCtr_wge (s : State) (f : Ctr → Ctr) : (s.onCtr f).wge = s.wge := rfl
@[simp] theorem State.onCtr_cck (s : State) (f : Ctr → Ctr) : (s.onCtr f).cck = s.cck := rfl
@[simp] theorem State.onCtr_drg (s : State) (f : Ctr → Ctr) : (s.onCtr f).drg = s.drg := rfl
@[simp] theorem State.onCtr_gtc (s : State) (f : Ctr → Ctr) : (s.onCtr f).gtc = s.gtc := rfl
@[simp] theorem State.onCtr_rcs (s : State) (f : Ctr → Ctr) : (s.onCtr f).rcs = s.rcs := rfl
@[simp] theorem State.onCtr_counters (s : State) (f : Ctr → Ctr) : (s.onCtr f).counters = s.counters := rfl
@[simp] theorem State.onCtr_freeCount (s : State) (f : Ctr → Ctr) : (s.onCtr f).freeCount = s.freeCount := rfl

/-! ## `State.onWge` -/

@[simp] theorem State.onWge_pending (s : State) (f : Wge → Wge) : (s.onWge f).pending = s.pending := rfl
@[simp] theorem State.onWge_pins (s : State) (f : Wge → Wge) : (s.onWge f).pins = s.pins := rfl
@[simp] theorem State.onWge_sup (s : State) (f : Wge → Wge) : (s.onWge f).sup = s.sup := rfl
@[simp] theorem State.onWge_lif (s : State) (f : Wge → Wge) : (s.onWge f).lif = s.lif := rfl
@[simp] theorem State.onWge_mga (s : State) (f : Wge → Wge) : (s.onWge f).mga = s.mga := rfl
@[simp] theorem State.onWge_setup (s : State) (f : Wge → Wge) : (s.onWge f).setup = s.setup := rfl
@[simp] theorem State.onWge_ctr (s : State) (f : Wge → Wge) : (s.onWge f).ctr = s.ctr := rfl
@[simp] theorem State.onWge_wge (s : State) (f : Wge → Wge) : (s.onWge f).wge = f s.wge := rfl
@[simp] theorem State.onWge_cck (s : State) (f : Wge → Wge) : (s.onWge f).cck = s.cck := rfl
@[simp] theorem State.onWge_drg (s : State) (f : Wge → Wge) : (s.onWge f).drg = s.drg := rfl
@[simp] theorem State.onWge_gtc (s : State) (f : Wge → Wge) : (s.onWge f).gtc = s.gtc := rfl
@[simp] theorem State.onWge_rcs (s : State) (f : Wge → Wge) : (s.onWge f).rcs = s.rcs := rfl
@[simp] theorem State.onWge_counters (s : State) (f : Wge → Wge) : (s.onWge f).counters = s.counters := rfl
@[simp] theorem State.onWge_freeCount (s : State) (f : Wge → Wge) : (s.onWge f).freeCount = s.freeCount := rfl

/-! ## `State.onCck` -/

@[simp] theorem State.onCck_pending (s : State) (f : Cck → Cck) : (s.onCck f).pending = s.pending := rfl
@[simp] theorem State.onCck_pins (s : State) (f : Cck → Cck) : (s.onCck f).pins = s.pins := rfl
@[simp] theorem State.onCck_sup (s : State) (f : Cck → Cck) : (s.onCck f).sup = s.sup := rfl
@[simp] theorem State.onCck_lif (s : State) (f : Cck → Cck) : (s.onCck f).lif = s.lif := rfl
@[simp] theorem State.onCck_mga (s : State) (f : Cck → Cck) : (s.onCck f).mga = s.mga := rfl
@[simp] theorem State.onCck_setup (s : State) (f : Cck → Cck) : (s.onCck f).setup = s.setup := rfl
@[simp] theorem State.onCck_ctr (s : State) (f : Cck → Cck) : (s.onCck f).ctr = s.ctr := rfl
@[simp] theorem State.onCck_wge (s : State) (f : Cck → Cck) : (s.onCck f).wge = s.wge := rfl
@[simp] theorem State.onCck_cck (s : State) (f : Cck → Cck) : (s.onCck f).cck = f s.cck := rfl
@[simp] theorem State.onCck_drg (s : State) (f : Cck → Cck) : (s.onCck f).drg = s.drg := rfl
@[simp] theorem State.onCck_gtc (s : State) (f : Cck → Cck) : (s.onCck f).gtc = s.gtc := rfl
@[simp] theorem State.onCck_rcs (s : State) (f : Cck → Cck) : (s.onCck f).rcs = s.rcs := rfl
@[simp] theorem State.onCck_counters (s : State) (f : Cck → Cck) : (s.onCck f).counters = s.counters := rfl
@[simp] theorem State.onCck_freeCount (s : State) (f : Cck → Cck) : (s.onCck f).freeCount = s.freeCount := rfl

/-! ## `State.onDrg` -/

@[simp] theorem State.onDrg_pending (s : State) (f : Drg → Drg) : (s.onDrg f).pending = s.pending := rfl
@[simp] theorem State.onDrg_pins (s : State) (f : Drg → Drg) : (s.onDrg f).pins = s.pins := rfl
@[simp] theorem State.onDrg_sup (s : State) (f : Drg → Drg) : (s.onDrg f).sup = s.sup := rfl
@[simp] theorem State.onDrg_lif (s : State) (f : Drg → Drg) : (s.onDrg f).lif = s.lif := rfl
@[simp] theorem State.onDrg_mga (s : State) (f : Drg → Drg) : (s.onDrg f).mga = s.mga := rfl
@[simp] theorem State.onDrg_setup (s : State) (f : Drg → Drg) : (s.onDrg f).setup = s.setup := rfl
@[simp] theorem State.onDrg_ctr (s : State) (f : Drg → Drg) : (s.onDrg f).ctr = s.ctr := rfl
@[simp] theorem State.onDrg_wge (s : State) (f : Drg → Drg) : (s.onDrg f).wge = s.wge := rfl
@[simp] theorem State.onDrg_cck (s : State) (f : Drg → Drg) : (s.onDrg f).cck = s.cck := rfl
@[simp] theorem State.onDrg_drg (s : State) (f : Drg → Drg) : (s.onDrg f).drg = f s.drg := rfl
@[simp] theorem State.onDrg_gtc (s : State) (f : Drg → Drg) : (s.onDrg f).gtc = s.gtc := rfl
@[simp] theorem State.onDrg_rcs (s : State) (f : Drg → Drg) : (s.onDrg f).rcs = s.rcs := rfl
@[simp] theorem State.onDrg_counters (s : State) (f : Drg → Drg) : (s.onDrg f).counters = s.counters := rfl
@[simp] theorem State.onDrg_freeCount (s : State) (f : Drg → Drg) : (s.onDrg f).freeCount = s.freeCount := rfl

/-! ## `State.onGtc` -/

@[simp] theorem State.onGtc_pending (s : State) (f : Gtc → Gtc) : (s.onGtc f).pending = s.pending := rfl
@[simp] theorem State.onGtc_pins (s : State) (f : Gtc → Gtc) : (s.onGtc f).pins = s.pins := rfl
@[simp] theorem State.onGtc_sup (s : State) (f : Gtc → Gtc) : (s.onGtc f).sup = s.sup := rfl
@[simp] theorem State.onGtc_lif (s : State) (f : Gtc → Gtc) : (s.onGtc f).lif = s.lif := rfl
@[simp] theorem State.onGtc_mga (s : State) (f : Gtc → Gtc) : (s.onGtc f).mga = s.mga := rfl
@[simp] theorem State.onGtc_setup (s : State) (f : Gtc → Gtc) : (s.onGtc f).setup = s.setup := rfl
@[simp] theorem State.onGtc_ctr (s : State) (f : Gtc → Gtc) : (s.onGtc f).ctr = s.ctr := rfl
@[simp] theorem State.onGtc_wge (s : State) (f : Gtc → Gtc) : (s.onGtc f).wge = s.wge := rfl
@[simp] theorem State.onGtc_cck (s : State) (f : Gtc → Gtc) : (s.onGtc f).cck = s.cck := rfl
@[simp] theorem State.onGtc_drg (s : State) (f : Gtc → Gtc) : (s.onGtc f).drg = s.drg := rfl
@[simp] theorem State.onGtc_gtc (s : State) (f : Gtc → Gtc) : (s.onGtc f).gtc = f s.gtc := rfl
@[simp] theorem State.onGtc_rcs (s : State) (f : Gtc → Gtc) : (s.onGtc f).rcs = s.rcs := rfl
@[simp] theorem State.onGtc_counters (s : State) (f : Gtc → Gtc) : (s.onGtc f).counters = s.counters := rfl
@[simp] theorem State.onGtc_freeCount (s : State) (f : Gtc → Gtc) : (s.onGtc f).freeCount = s.freeCount := rfl

/-! ## `State.onRcs` -/

@[simp] theorem State.onRcs_pending (s : State) (f : Rcs → Rcs) : (s.onRcs f).pending = s.pending := rfl
@[simp] theorem State.onRcs_pins (s : State) (f : Rcs → Rcs) : (s.onRcs f).pins = s.pins := rfl
@[simp] theorem State.onRcs_sup (s : State) (f : Rcs → Rcs) : (s.onRcs f).sup = s.sup := rfl
@[simp] theorem State.onRcs_lif (s : State) (f : Rcs → Rcs) : (s.onRcs f).lif = s.lif := rfl
@[simp] theorem State.onRcs_mga (s : State) (f : Rcs → Rcs) : (s.onRcs f).mga = s.mga := rfl
@[simp] theorem State.onRcs_setup (s : State) (f : Rcs → Rcs) : (s.onRcs f).setup = s.setup := rfl
@[simp] theorem State.onRcs_ctr (s : State) (f : Rcs → Rcs) : (s.onRcs f).ctr = s.ctr := rfl
@[simp] theorem State.onRcs_wge (s : State) (f : Rcs → Rcs) : (s.onRcs f).wge = s.wge := rfl
@[simp] theorem State.onRcs_cck (s : State) (f : Rcs → Rcs) : (s.onRcs f).cck = s.cck := rfl
@[simp] theorem State.onRcs_drg (s : State) (f : Rcs → Rcs) : (s.onRcs f).drg = s.drg := rfl
@[simp] theorem State.onRcs_gtc (s : State) (f : Rcs → Rcs) : (s.onRcs f).gtc = s.gtc := rfl
@[simp] theorem State.onRcs_rcs (s : State) (f : Rcs → Rcs) : (s.onRcs f).rcs = f s.rcs := rfl
@[simp] theorem State.onRcs_counters (s : State) (f : Rcs → Rcs) : (s.onRcs f).counters = s.counters := rfl
@[simp] theorem State.onRcs_freeCount (s : State) (f : Rcs → Rcs) : (s.onRcs f).freeCount = s.freeCount := rfl

/-! ## `State.onCounters` -/

@[simp] theorem State.onCounters_pending (s : State) (f : Vector Count 127 → Vector Count 127) : (s.onCounters f).pending = s.pending := rfl
@[simp] theorem State.onCounters_pins (s : State) (f : Vector Count 127 → Vector Count 127) : (s.onCounters f).pins = s.pins := rfl
@[simp] theorem State.onCounters_sup (s : State) (f : Vector Count 127 → Vector Count 127) : (s.onCounters f).sup = s.sup := rfl
@[simp] theorem State.onCounters_lif (s : State) (f : Vector Count 127 → Vector Count 127) : (s.onCounters f).lif = s.lif := rfl
@[simp] theorem State.onCounters_mga (s : State) (f : Vector Count 127 → Vector Count 127) : (s.onCounters f).mga = s.mga := rfl
@[simp] theorem State.onCounters_setup (s : State) (f : Vector Count 127 → Vector Count 127) : (s.onCounters f).setup = s.setup := rfl
@[simp] theorem State.onCounters_ctr (s : State) (f : Vector Count 127 → Vector Count 127) : (s.onCounters f).ctr = s.ctr := rfl
@[simp] theorem State.onCounters_wge (s : State) (f : Vector Count 127 → Vector Count 127) : (s.onCounters f).wge = s.wge := rfl
@[simp] theorem State.onCounters_cck (s : State) (f : Vector Count 127 → Vector Count 127) : (s.onCounters f).cck = s.cck := rfl
@[simp] theorem State.onCounters_drg (s : State) (f : Vector Count 127 → Vector Count 127) : (s.onCounters f).drg = s.drg := rfl
@[simp] theorem State.onCounters_gtc (s : State) (f : Vector Count 127 → Vector Count 127) : (s.onCounters f).gtc = s.gtc := rfl
@[simp] theorem State.onCounters_rcs (s : State) (f : Vector Count 127 → Vector Count 127) : (s.onCounters f).rcs = s.rcs := rfl
@[simp] theorem State.onCounters_counters (s : State) (f : Vector Count 127 → Vector Count 127) : (s.onCounters f).counters = f s.counters := rfl
@[simp] theorem State.onCounters_freeCount (s : State) (f : Vector Count 127 → Vector Count 127) : (s.onCounters f).freeCount = s.freeCount := rfl

/-! ## One increment of a counter -/

@[simp] theorem State.bump_pending (s : State) (c : Counter) : (s.bump c).pending = s.pending := rfl
@[simp] theorem State.bump_pins (s : State) (c : Counter) : (s.bump c).pins = s.pins := rfl
@[simp] theorem State.bump_sup (s : State) (c : Counter) : (s.bump c).sup = s.sup := rfl
@[simp] theorem State.bump_lif (s : State) (c : Counter) : (s.bump c).lif = s.lif := rfl
@[simp] theorem State.bump_mga (s : State) (c : Counter) : (s.bump c).mga = s.mga := rfl
@[simp] theorem State.bump_setup (s : State) (c : Counter) : (s.bump c).setup = s.setup := rfl
@[simp] theorem State.bump_ctr (s : State) (c : Counter) : (s.bump c).ctr = s.ctr := rfl
@[simp] theorem State.bump_wge (s : State) (c : Counter) : (s.bump c).wge = s.wge := rfl
@[simp] theorem State.bump_cck (s : State) (c : Counter) : (s.bump c).cck = s.cck := rfl
@[simp] theorem State.bump_drg (s : State) (c : Counter) : (s.bump c).drg = s.drg := rfl
@[simp] theorem State.bump_gtc (s : State) (c : Counter) : (s.bump c).gtc = s.gtc := rfl
@[simp] theorem State.bump_rcs (s : State) (c : Counter) : (s.bump c).rcs = s.rcs := rfl
@[simp] theorem State.bump_freeCount (s : State) (c : Counter) : (s.bump c).freeCount = s.freeCount := rfl

/-! ## Counters cleared -/

@[simp] theorem State.clearCounters_pending (s : State) (p : Nat → Bool) : (s.clearCounters p).pending = s.pending := rfl
@[simp] theorem State.clearCounters_pins (s : State) (p : Nat → Bool) : (s.clearCounters p).pins = s.pins := rfl
@[simp] theorem State.clearCounters_sup (s : State) (p : Nat → Bool) : (s.clearCounters p).sup = s.sup := rfl
@[simp] theorem State.clearCounters_lif (s : State) (p : Nat → Bool) : (s.clearCounters p).lif = s.lif := rfl
@[simp] theorem State.clearCounters_mga (s : State) (p : Nat → Bool) : (s.clearCounters p).mga = s.mga := rfl
@[simp] theorem State.clearCounters_setup (s : State) (p : Nat → Bool) : (s.clearCounters p).setup = s.setup := rfl
@[simp] theorem State.clearCounters_ctr (s : State) (p : Nat → Bool) : (s.clearCounters p).ctr = s.ctr := rfl
@[simp] theorem State.clearCounters_wge (s : State) (p : Nat → Bool) : (s.clearCounters p).wge = s.wge := rfl
@[simp] theorem State.clearCounters_cck (s : State) (p : Nat → Bool) : (s.clearCounters p).cck = s.cck := rfl
@[simp] theorem State.clearCounters_drg (s : State) (p : Nat → Bool) : (s.clearCounters p).drg = s.drg := rfl
@[simp] theorem State.clearCounters_gtc (s : State) (p : Nat → Bool) : (s.clearCounters p).gtc = s.gtc := rfl
@[simp] theorem State.clearCounters_rcs (s : State) (p : Nat → Bool) : (s.clearCounters p).rcs = s.rcs := rfl
@[simp] theorem State.clearCounters_freeCount (s : State) (p : Nat → Bool) : (s.clearCounters p).freeCount = s.freeCount := rfl

/-! ## A free value drawn -/

@[simp] theorem State.drawn_pending (s : State) : s.drawn.pending = s.pending := rfl
@[simp] theorem State.drawn_pins (s : State) : s.drawn.pins = s.pins := rfl
@[simp] theorem State.drawn_sup (s : State) : s.drawn.sup = s.sup := rfl
@[simp] theorem State.drawn_lif (s : State) : s.drawn.lif = s.lif := rfl
@[simp] theorem State.drawn_mga (s : State) : s.drawn.mga = s.mga := rfl
@[simp] theorem State.drawn_setup (s : State) : s.drawn.setup = s.setup := rfl
@[simp] theorem State.drawn_ctr (s : State) : s.drawn.ctr = s.ctr := rfl
@[simp] theorem State.drawn_wge (s : State) : s.drawn.wge = s.wge := rfl
@[simp] theorem State.drawn_cck (s : State) : s.drawn.cck = s.cck := rfl
@[simp] theorem State.drawn_drg (s : State) : s.drawn.drg = s.drg := rfl
@[simp] theorem State.drawn_gtc (s : State) : s.drawn.gtc = s.gtc := rfl
@[simp] theorem State.drawn_rcs (s : State) : s.drawn.rcs = s.rcs := rfl
@[simp] theorem State.drawn_counters (s : State) : s.drawn.counters = s.counters := rfl

end Sys2Proof.Machine
end

