-- ==== Sys2Proof/Laws/Ops.lean ====
section
/-!
SUPPORT. What the shared operations of Ops.lean leave unchanged, field by field, and what a counter holds
after an increment.
-/

namespace Sys2Proof.Machine

/-! ## Counters -/

theorem Counter.place_injective {c d : Counter} (h : c.place = d.place) : c = d := by
  have h' : c.ctorIdx = d.ctorIdx := congrArg Fin.val h
  rw [← Counter.ofNat_ctorIdx c, h', Counter.ofNat_ctorIdx]

/-- An increment of `c` raises `c`, saturating, and leaves every other counter. -/
theorem State.counter_bump (s : State) (c d : Counter) :
    (s.bump c).counter d = if d = c then satInc (s.counter c) else s.counter d := by
  unfold State.counter State.bump
  by_cases h : d = c
  · subst h; simp
  · have : (c.place : Nat) ≠ d.place := fun hp => h (Counter.place_injective (Fin.ext hp)).symm
    simp [h, Vector.getElem_set_ne _ _ this]

/-- The increment of two counters gives the same in either order. -/
theorem State.bump_comm (s : State) (c d : Counter) : (s.bump c).bump d = (s.bump d).bump c := by
  by_cases h : c = d
  · rw [h]
  · have hp : (c.place : Nat) ≠ d.place := fun hp => h (Counter.place_injective (Fin.ext hp))
    simp only [State.bump, State.onCounters, Fin.getElem_fin]
    rw [Vector.getElem_set_ne _ _ hp, Vector.getElem_set_ne _ _ hp.symm, Vector.set_comm _ _ hp]

/-! ## The transmit port -/

@[simp] theorem State.startSending_pending (s : State) (c : TxClass) : (s.startSending c).pending = s.pending := by
  unfold State.startSending
  split <;> [rfl; (dsimp only; split <;> rfl)]

@[simp] theorem State.startSending_pins (s : State) (c : TxClass) : (s.startSending c).pins = s.pins := by
  unfold State.startSending
  split <;> [rfl; (dsimp only; split <;> rfl)]

@[simp] theorem State.startSending_sup (s : State) (c : TxClass) : (s.startSending c).sup = s.sup := by
  unfold State.startSending
  split <;> [rfl; (dsimp only; split <;> rfl)]

@[simp] theorem State.startSending_mga (s : State) (c : TxClass) : (s.startSending c).mga = s.mga := by
  unfold State.startSending
  split <;> [rfl; (dsimp only; split <;> rfl)]

@[simp] theorem State.startSending_setup (s : State) (c : TxClass) : (s.startSending c).setup = s.setup := by
  unfold State.startSending
  split <;> [rfl; (dsimp only; split <;> rfl)]

@[simp] theorem State.startSending_ctr (s : State) (c : TxClass) : (s.startSending c).ctr = s.ctr := by
  unfold State.startSending
  split <;> [rfl; (dsimp only; split <;> rfl)]

@[simp] theorem State.startSending_wge (s : State) (c : TxClass) : (s.startSending c).wge = s.wge := by
  unfold State.startSending
  split <;> [rfl; (dsimp only; split <;> rfl)]

@[simp] theorem State.startSending_cck (s : State) (c : TxClass) : (s.startSending c).cck = s.cck := by
  unfold State.startSending
  split <;> [rfl; (dsimp only; split <;> rfl)]

@[simp] theorem State.startSending_drg (s : State) (c : TxClass) : (s.startSending c).drg = s.drg := by
  unfold State.startSending
  split <;> [rfl; (dsimp only; split <;> rfl)]

@[simp] theorem State.startSending_gtc (s : State) (c : TxClass) : (s.startSending c).gtc = s.gtc := by
  unfold State.startSending
  split <;> [rfl; (dsimp only; split <;> rfl)]

@[simp] theorem State.startSending_rcs (s : State) (c : TxClass) : (s.startSending c).rcs = s.rcs := by
  unfold State.startSending
  split <;> [rfl; (dsimp only; split <;> rfl)]

@[simp] theorem State.startSending_counters (s : State) (c : TxClass) : (s.startSending c).counters = s.counters := by
  unfold State.startSending
  split <;> [rfl; (dsimp only; split <;> rfl)]

@[simp] theorem State.startSending_freeCount (s : State) (c : TxClass) : (s.startSending c).freeCount = s.freeCount := by
  unfold State.startSending
  split <;> [rfl; (dsimp only; split <;> rfl)]

/-! ## The arbiter -/

@[simp] theorem State.arbitrate_pending (s : State) : s.arbitrate.pending = s.pending := by
  unfold State.arbitrate
  split <;> [rfl; (split <;> simp)]

@[simp] theorem State.arbitrate_pins (s : State) : s.arbitrate.pins = s.pins := by
  unfold State.arbitrate
  split <;> [rfl; (split <;> simp)]

@[simp] theorem State.arbitrate_sup (s : State) : s.arbitrate.sup = s.sup := by
  unfold State.arbitrate
  split <;> [rfl; (split <;> simp)]

@[simp] theorem State.arbitrate_mga (s : State) : s.arbitrate.mga = s.mga := by
  unfold State.arbitrate
  split <;> [rfl; (split <;> simp)]

@[simp] theorem State.arbitrate_setup (s : State) : s.arbitrate.setup = s.setup := by
  unfold State.arbitrate
  split <;> [rfl; (split <;> simp)]

@[simp] theorem State.arbitrate_ctr (s : State) : s.arbitrate.ctr = s.ctr := by
  unfold State.arbitrate
  split <;> [rfl; (split <;> simp)]

@[simp] theorem State.arbitrate_wge (s : State) : s.arbitrate.wge = s.wge := by
  unfold State.arbitrate
  split <;> [rfl; (split <;> simp)]

@[simp] theorem State.arbitrate_cck (s : State) : s.arbitrate.cck = s.cck := by
  unfold State.arbitrate
  split <;> [rfl; (split <;> simp)]

@[simp] theorem State.arbitrate_drg (s : State) : s.arbitrate.drg = s.drg := by
  unfold State.arbitrate
  split <;> [rfl; (split <;> simp)]

@[simp] theorem State.arbitrate_gtc (s : State) : s.arbitrate.gtc = s.gtc := by
  unfold State.arbitrate
  split <;> [rfl; (split <;> simp)]

@[simp] theorem State.arbitrate_rcs (s : State) : s.arbitrate.rcs = s.rcs := by
  unfold State.arbitrate
  split <;> [rfl; (split <;> simp)]

@[simp] theorem State.arbitrate_counters (s : State) : s.arbitrate.counters = s.counters := by
  unfold State.arbitrate
  split <;> [rfl; (split <;> simp)]

@[simp] theorem State.arbitrate_freeCount (s : State) : s.arbitrate.freeCount = s.freeCount := by
  unfold State.arbitrate
  split <;> [rfl; (split <;> simp)]

/-! ## Joining a queue -/

@[simp] theorem State.join_pending (s : State) (c : TxClass) (x : Queued) : (s.join c x).pending = s.pending := by
  simp [State.join]

@[simp] theorem State.join_pins (s : State) (c : TxClass) (x : Queued) : (s.join c x).pins = s.pins := by
  simp [State.join]

@[simp] theorem State.join_sup (s : State) (c : TxClass) (x : Queued) : (s.join c x).sup = s.sup := by
  simp [State.join]

@[simp] theorem State.join_mga (s : State) (c : TxClass) (x : Queued) : (s.join c x).mga = s.mga := by
  simp [State.join]

@[simp] theorem State.join_setup (s : State) (c : TxClass) (x : Queued) : (s.join c x).setup = s.setup := by
  simp [State.join]

@[simp] theorem State.join_ctr (s : State) (c : TxClass) (x : Queued) : (s.join c x).ctr = s.ctr := by
  simp [State.join]

@[simp] theorem State.join_wge (s : State) (c : TxClass) (x : Queued) : (s.join c x).wge = s.wge := by
  simp [State.join]

@[simp] theorem State.join_cck (s : State) (c : TxClass) (x : Queued) : (s.join c x).cck = s.cck := by
  simp [State.join]

@[simp] theorem State.join_drg (s : State) (c : TxClass) (x : Queued) : (s.join c x).drg = s.drg := by
  simp [State.join]

@[simp] theorem State.join_gtc (s : State) (c : TxClass) (x : Queued) : (s.join c x).gtc = s.gtc := by
  simp [State.join]

@[simp] theorem State.join_rcs (s : State) (c : TxClass) (x : Queued) : (s.join c x).rcs = s.rcs := by
  simp [State.join]

@[simp] theorem State.join_counters (s : State) (c : TxClass) (x : Queued) : (s.join c x).counters = s.counters := by
  simp [State.join]

@[simp] theorem State.join_freeCount (s : State) (c : TxClass) (x : Queued) : (s.join c x).freeCount = s.freeCount := by
  simp [State.join]

/-! ## Notices -/

@[simp] theorem State.placeNotice_pending (s : State) (d : Byte) (n : Notice) : (s.placeNotice d n).pending = s.pending := by
  unfold State.placeNotice
  split <;> [simp; (split <;> simp)]

@[simp] theorem State.placeNotice_pins (s : State) (d : Byte) (n : Notice) : (s.placeNotice d n).pins = s.pins := by
  unfold State.placeNotice
  split <;> [simp; (split <;> simp)]

@[simp] theorem State.placeNotice_sup (s : State) (d : Byte) (n : Notice) : (s.placeNotice d n).sup = s.sup := by
  unfold State.placeNotice
  split <;> [simp; (split <;> simp)]

@[simp] theorem State.placeNotice_setup (s : State) (d : Byte) (n : Notice) : (s.placeNotice d n).setup = s.setup := by
  unfold State.placeNotice
  split <;> [simp; (split <;> simp)]

@[simp] theorem State.placeNotice_ctr (s : State) (d : Byte) (n : Notice) : (s.placeNotice d n).ctr = s.ctr := by
  unfold State.placeNotice
  split <;> [simp; (split <;> simp)]

@[simp] theorem State.placeNotice_wge (s : State) (d : Byte) (n : Notice) : (s.placeNotice d n).wge = s.wge := by
  unfold State.placeNotice
  split <;> [simp; (split <;> simp)]

@[simp] theorem State.placeNotice_cck (s : State) (d : Byte) (n : Notice) : (s.placeNotice d n).cck = s.cck := by
  unfold State.placeNotice
  split <;> [simp; (split <;> simp)]

@[simp] theorem State.placeNotice_drg (s : State) (d : Byte) (n : Notice) : (s.placeNotice d n).drg = s.drg := by
  unfold State.placeNotice
  split <;> [simp; (split <;> simp)]

@[simp] theorem State.placeNotice_gtc (s : State) (d : Byte) (n : Notice) : (s.placeNotice d n).gtc = s.gtc := by
  unfold State.placeNotice
  split <;> [simp; (split <;> simp)]

@[simp] theorem State.placeNotice_rcs (s : State) (d : Byte) (n : Notice) : (s.placeNotice d n).rcs = s.rcs := by
  unfold State.placeNotice
  split <;> [simp; (split <;> simp)]

@[simp] theorem State.placeNotice_freeCount (s : State) (d : Byte) (n : Notice) : (s.placeNotice d n).freeCount = s.freeCount := by
  unfold State.placeNotice
  split <;> [simp; (split <;> simp)]

/-! ## Formed notices -/

@[simp] theorem State.notify_pending (s : State) (n : Notice) : (s.notify n).pending = s.pending := by
  simp [State.notify]

@[simp] theorem State.notify_pins (s : State) (n : Notice) : (s.notify n).pins = s.pins := by
  simp [State.notify]

@[simp] theorem State.notify_sup (s : State) (n : Notice) : (s.notify n).sup = s.sup := by
  simp [State.notify]

@[simp] theorem State.notify_setup (s : State) (n : Notice) : (s.notify n).setup = s.setup := by
  simp [State.notify]

@[simp] theorem State.notify_ctr (s : State) (n : Notice) : (s.notify n).ctr = s.ctr := by
  simp [State.notify]

@[simp] theorem State.notify_wge (s : State) (n : Notice) : (s.notify n).wge = s.wge := by
  simp [State.notify]

@[simp] theorem State.notify_cck (s : State) (n : Notice) : (s.notify n).cck = s.cck := by
  simp [State.notify]

@[simp] theorem State.notify_drg (s : State) (n : Notice) : (s.notify n).drg = s.drg := by
  simp [State.notify]

@[simp] theorem State.notify_gtc (s : State) (n : Notice) : (s.notify n).gtc = s.gtc := by
  simp [State.notify]

@[simp] theorem State.notify_rcs (s : State) (n : Notice) : (s.notify n).rcs = s.rcs := by
  simp [State.notify]

@[simp] theorem State.notify_freeCount (s : State) (n : Notice) : (s.notify n).freeCount = s.freeCount := by
  simp [State.notify]

/-! ## Line-stop causes -/

@[simp] theorem State.addCause_pending (s : State) (c : LineStopCause) : (s.addCause c).pending = s.pending := by
  unfold State.addCause
  split <;> simp

@[simp] theorem State.addCause_pins (s : State) (c : LineStopCause) : (s.addCause c).pins = s.pins := by
  unfold State.addCause
  split <;> simp

@[simp] theorem State.addCause_setup (s : State) (c : LineStopCause) : (s.addCause c).setup = s.setup := by
  unfold State.addCause
  split <;> simp

@[simp] theorem State.addCause_ctr (s : State) (c : LineStopCause) : (s.addCause c).ctr = s.ctr := by
  unfold State.addCause
  split <;> simp

@[simp] theorem State.addCause_wge (s : State) (c : LineStopCause) : (s.addCause c).wge = s.wge := by
  unfold State.addCause
  split <;> simp

@[simp] theorem State.addCause_cck (s : State) (c : LineStopCause) : (s.addCause c).cck = s.cck := by
  unfold State.addCause
  split <;> simp

@[simp] theorem State.addCause_drg (s : State) (c : LineStopCause) : (s.addCause c).drg = s.drg := by
  unfold State.addCause
  split <;> simp

@[simp] theorem State.addCause_gtc (s : State) (c : LineStopCause) : (s.addCause c).gtc = s.gtc := by
  unfold State.addCause
  split <;> simp

@[simp] theorem State.addCause_rcs (s : State) (c : LineStopCause) : (s.addCause c).rcs = s.rcs := by
  unfold State.addCause
  split <;> simp

@[simp] theorem State.addCause_freeCount (s : State) (c : LineStopCause) : (s.addCause c).freeCount = s.freeCount := by
  unfold State.addCause
  split <;> simp

/-! ## Entries -/

@[simp] theorem State.onEntry_pending (s : State) (tag : Tag) (f : Entry → Entry) : (s.onEntry tag f).pending = s.pending := by
  rfl

@[simp] theorem State.onEntry_pins (s : State) (tag : Tag) (f : Entry → Entry) : (s.onEntry tag f).pins = s.pins := by
  rfl

@[simp] theorem State.onEntry_sup (s : State) (tag : Tag) (f : Entry → Entry) : (s.onEntry tag f).sup = s.sup := by
  rfl

@[simp] theorem State.onEntry_lif (s : State) (tag : Tag) (f : Entry → Entry) : (s.onEntry tag f).lif = s.lif := by
  rfl

@[simp] theorem State.onEntry_mga (s : State) (tag : Tag) (f : Entry → Entry) : (s.onEntry tag f).mga = s.mga := by
  rfl

@[simp] theorem State.onEntry_setup (s : State) (tag : Tag) (f : Entry → Entry) : (s.onEntry tag f).setup = s.setup := by
  rfl

@[simp] theorem State.onEntry_wge (s : State) (tag : Tag) (f : Entry → Entry) : (s.onEntry tag f).wge = s.wge := by
  rfl

@[simp] theorem State.onEntry_cck (s : State) (tag : Tag) (f : Entry → Entry) : (s.onEntry tag f).cck = s.cck := by
  rfl

@[simp] theorem State.onEntry_drg (s : State) (tag : Tag) (f : Entry → Entry) : (s.onEntry tag f).drg = s.drg := by
  rfl

@[simp] theorem State.onEntry_gtc (s : State) (tag : Tag) (f : Entry → Entry) : (s.onEntry tag f).gtc = s.gtc := by
  rfl

@[simp] theorem State.onEntry_rcs (s : State) (tag : Tag) (f : Entry → Entry) : (s.onEntry tag f).rcs = s.rcs := by
  rfl

@[simp] theorem State.onEntry_counters (s : State) (tag : Tag) (f : Entry → Entry) : (s.onEntry tag f).counters = s.counters := by
  rfl

@[simp] theorem State.onEntry_freeCount (s : State) (tag : Tag) (f : Entry → Entry) : (s.onEntry tag f).freeCount = s.freeCount := by
  rfl

/-! ## New entries -/

@[simp] theorem State.addEntry_pending (s : State) (e : Entry) : (s.addEntry e).pending = s.pending := by
  unfold State.addEntry
  dsimp only
  split <;> rfl

@[simp] theorem State.addEntry_pins (s : State) (e : Entry) : (s.addEntry e).pins = s.pins := by
  unfold State.addEntry
  dsimp only
  split <;> rfl

@[simp] theorem State.addEntry_sup (s : State) (e : Entry) : (s.addEntry e).sup = s.sup := by
  unfold State.addEntry
  dsimp only
  split <;> rfl

@[simp] theorem State.addEntry_lif (s : State) (e : Entry) : (s.addEntry e).lif = s.lif := by
  unfold State.addEntry
  dsimp only
  split <;> rfl

@[simp] theorem State.addEntry_mga (s : State) (e : Entry) : (s.addEntry e).mga = s.mga := by
  unfold State.addEntry
  dsimp only
  split <;> rfl

@[simp] theorem State.addEntry_setup (s : State) (e : Entry) : (s.addEntry e).setup = s.setup := by
  unfold State.addEntry
  dsimp only
  split <;> rfl

@[simp] theorem State.addEntry_wge (s : State) (e : Entry) : (s.addEntry e).wge = s.wge := by
  unfold State.addEntry
  dsimp only
  split <;> rfl

@[simp] theorem State.addEntry_cck (s : State) (e : Entry) : (s.addEntry e).cck = s.cck := by
  unfold State.addEntry
  dsimp only
  split <;> rfl

@[simp] theorem State.addEntry_drg (s : State) (e : Entry) : (s.addEntry e).drg = s.drg := by
  unfold State.addEntry
  dsimp only
  split <;> rfl

@[simp] theorem State.addEntry_gtc (s : State) (e : Entry) : (s.addEntry e).gtc = s.gtc := by
  unfold State.addEntry
  dsimp only
  split <;> rfl

@[simp] theorem State.addEntry_counters (s : State) (e : Entry) : (s.addEntry e).counters = s.counters := by
  unfold State.addEntry
  dsimp only
  split <;> rfl

@[simp] theorem State.addEntry_freeCount (s : State) (e : Entry) : (s.addEntry e).freeCount = s.freeCount := by
  unfold State.addEntry
  dsimp only
  split <;> rfl

/-! ## The draining check -/

@[simp] theorem State.drainCheck_pending (s : State) (k : SlotId) (m : DrainMoment) : (s.drainCheck k m).pending = s.pending := by
  unfold State.drainCheck
  dsimp only
  split <;> simp

@[simp] theorem State.drainCheck_pins (s : State) (k : SlotId) (m : DrainMoment) : (s.drainCheck k m).pins = s.pins := by
  unfold State.drainCheck
  dsimp only
  split <;> simp

@[simp] theorem State.drainCheck_sup (s : State) (k : SlotId) (m : DrainMoment) : (s.drainCheck k m).sup = s.sup := by
  unfold State.drainCheck
  dsimp only
  split <;> simp

@[simp] theorem State.drainCheck_setup (s : State) (k : SlotId) (m : DrainMoment) : (s.drainCheck k m).setup = s.setup := by
  unfold State.drainCheck
  dsimp only
  split <;> simp

@[simp] theorem State.drainCheck_ctr (s : State) (k : SlotId) (m : DrainMoment) : (s.drainCheck k m).ctr = s.ctr := by
  unfold State.drainCheck
  dsimp only
  split <;> simp

@[simp] theorem State.drainCheck_wge (s : State) (k : SlotId) (m : DrainMoment) : (s.drainCheck k m).wge = s.wge := by
  unfold State.drainCheck
  dsimp only
  split <;> simp

@[simp] theorem State.drainCheck_cck (s : State) (k : SlotId) (m : DrainMoment) : (s.drainCheck k m).cck = s.cck := by
  unfold State.drainCheck
  dsimp only
  split <;> simp

@[simp] theorem State.drainCheck_drg (s : State) (k : SlotId) (m : DrainMoment) : (s.drainCheck k m).drg = s.drg := by
  unfold State.drainCheck
  dsimp only
  split <;> simp

@[simp] theorem State.drainCheck_gtc (s : State) (k : SlotId) (m : DrainMoment) : (s.drainCheck k m).gtc = s.gtc := by
  unfold State.drainCheck
  dsimp only
  split <;> simp

@[simp] theorem State.drainCheck_freeCount (s : State) (k : SlotId) (m : DrainMoment) : (s.drainCheck k m).freeCount = s.freeCount := by
  unfold State.drainCheck
  dsimp only
  split <;> simp

/-! ## Retirements told to the Recipe Store -/

@[simp] theorem State.releaseSlot_pending (s : State) (k : Option SlotId) (m : DrainMoment) : (s.releaseSlot k m).pending = s.pending := by
  unfold State.releaseSlot
  split <;> simp

@[simp] theorem State.releaseSlot_pins (s : State) (k : Option SlotId) (m : DrainMoment) : (s.releaseSlot k m).pins = s.pins := by
  unfold State.releaseSlot
  split <;> simp

@[simp] theorem State.releaseSlot_sup (s : State) (k : Option SlotId) (m : DrainMoment) : (s.releaseSlot k m).sup = s.sup := by
  unfold State.releaseSlot
  split <;> simp

@[simp] theorem State.releaseSlot_setup (s : State) (k : Option SlotId) (m : DrainMoment) : (s.releaseSlot k m).setup = s.setup := by
  unfold State.releaseSlot
  split <;> simp

@[simp] theorem State.releaseSlot_ctr (s : State) (k : Option SlotId) (m : DrainMoment) : (s.releaseSlot k m).ctr = s.ctr := by
  unfold State.releaseSlot
  split <;> simp

@[simp] theorem State.releaseSlot_wge (s : State) (k : Option SlotId) (m : DrainMoment) : (s.releaseSlot k m).wge = s.wge := by
  unfold State.releaseSlot
  split <;> simp

@[simp] theorem State.releaseSlot_cck (s : State) (k : Option SlotId) (m : DrainMoment) : (s.releaseSlot k m).cck = s.cck := by
  unfold State.releaseSlot
  split <;> simp

@[simp] theorem State.releaseSlot_drg (s : State) (k : Option SlotId) (m : DrainMoment) : (s.releaseSlot k m).drg = s.drg := by
  unfold State.releaseSlot
  split <;> simp

@[simp] theorem State.releaseSlot_gtc (s : State) (k : Option SlotId) (m : DrainMoment) : (s.releaseSlot k m).gtc = s.gtc := by
  unfold State.releaseSlot
  split <;> simp

@[simp] theorem State.releaseSlot_freeCount (s : State) (k : Option SlotId) (m : DrainMoment) : (s.releaseSlot k m).freeCount = s.freeCount := by
  unfold State.releaseSlot
  split <;> simp

/-! ## CAN_RESULT frames -/

@[simp] theorem State.sendCanResult_pending (s : State) (e : Entry) : (s.sendCanResult e).pending = s.pending := by
  unfold State.sendCanResult
  split <;> [rfl; (split <;> [simp; (dsimp only; split <;> simp)])]

@[simp] theorem State.sendCanResult_pins (s : State) (e : Entry) : (s.sendCanResult e).pins = s.pins := by
  unfold State.sendCanResult
  split <;> [rfl; (split <;> [simp; (dsimp only; split <;> simp)])]

@[simp] theorem State.sendCanResult_sup (s : State) (e : Entry) : (s.sendCanResult e).sup = s.sup := by
  unfold State.sendCanResult
  split <;> [rfl; (split <;> [simp; (dsimp only; split <;> simp)])]

@[simp] theorem State.sendCanResult_mga (s : State) (e : Entry) : (s.sendCanResult e).mga = s.mga := by
  unfold State.sendCanResult
  split <;> [rfl; (split <;> [simp; (dsimp only; split <;> simp)])]

@[simp] theorem State.sendCanResult_setup (s : State) (e : Entry) : (s.sendCanResult e).setup = s.setup := by
  unfold State.sendCanResult
  split <;> [rfl; (split <;> [simp; (dsimp only; split <;> simp)])]

@[simp] theorem State.sendCanResult_ctr (s : State) (e : Entry) : (s.sendCanResult e).ctr = s.ctr := by
  unfold State.sendCanResult
  split <;> [rfl; (split <;> [simp; (dsimp only; split <;> simp)])]

@[simp] theorem State.sendCanResult_wge (s : State) (e : Entry) : (s.sendCanResult e).wge = s.wge := by
  unfold State.sendCanResult
  split <;> [rfl; (split <;> [simp; (dsimp only; split <;> simp)])]

@[simp] theorem State.sendCanResult_cck (s : State) (e : Entry) : (s.sendCanResult e).cck = s.cck := by
  unfold State.sendCanResult
  split <;> [rfl; (split <;> [simp; (dsimp only; split <;> simp)])]

@[simp] theorem State.sendCanResult_drg (s : State) (e : Entry) : (s.sendCanResult e).drg = s.drg := by
  unfold State.sendCanResult
  split <;> [rfl; (split <;> [simp; (dsimp only; split <;> simp)])]

@[simp] theorem State.sendCanResult_rcs (s : State) (e : Entry) : (s.sendCanResult e).rcs = s.rcs := by
  unfold State.sendCanResult
  split <;> [rfl; (split <;> [simp; (dsimp only; split <;> simp)])]

@[simp] theorem State.sendCanResult_freeCount (s : State) (e : Entry) : (s.sendCanResult e).freeCount = s.freeCount := by
  unfold State.sendCanResult
  split <;> [rfl; (split <;> [simp; (dsimp only; split <;> simp)])]

/-! ## Retirement -/

@[simp] theorem State.retire_pending (s : State) (out : ExitOutcome) (tag : Tag) : (s.retire out tag).pending = s.pending := by
  unfold State.retire
  split <;> [rfl; (dsimp only; split <;> simp)]

@[simp] theorem State.retire_pins (s : State) (out : ExitOutcome) (tag : Tag) : (s.retire out tag).pins = s.pins := by
  unfold State.retire
  split <;> [rfl; (dsimp only; split <;> simp)]

@[simp] theorem State.retire_sup (s : State) (out : ExitOutcome) (tag : Tag) : (s.retire out tag).sup = s.sup := by
  unfold State.retire
  split <;> [rfl; (dsimp only; split <;> simp)]

@[simp] theorem State.retire_setup (s : State) (out : ExitOutcome) (tag : Tag) : (s.retire out tag).setup = s.setup := by
  unfold State.retire
  split <;> [rfl; (dsimp only; split <;> simp)]

@[simp] theorem State.retire_cck (s : State) (out : ExitOutcome) (tag : Tag) : (s.retire out tag).cck = s.cck := by
  unfold State.retire
  split <;> [rfl; (dsimp only; split <;> simp)]

@[simp] theorem State.retire_drg (s : State) (out : ExitOutcome) (tag : Tag) : (s.retire out tag).drg = s.drg := by
  unfold State.retire
  split <;> [rfl; (dsimp only; split <;> simp)]

@[simp] theorem State.retire_freeCount (s : State) (out : ExitOutcome) (tag : Tag) : (s.retire out tag).freeCount = s.freeCount := by
  unfold State.retire
  split <;> [rfl; (dsimp only; split <;> simp)]

/-! ## The slip run -/

@[simp] theorem State.raiseSlip_pending (s : State) : s.raiseSlip.pending = s.pending := by
  unfold State.raiseSlip
  split <;> simp

@[simp] theorem State.raiseSlip_pins (s : State) : s.raiseSlip.pins = s.pins := by
  unfold State.raiseSlip
  split <;> simp

@[simp] theorem State.raiseSlip_setup (s : State) : s.raiseSlip.setup = s.setup := by
  unfold State.raiseSlip
  split <;> simp

@[simp] theorem State.raiseSlip_wge (s : State) : s.raiseSlip.wge = s.wge := by
  unfold State.raiseSlip
  split <;> simp

@[simp] theorem State.raiseSlip_cck (s : State) : s.raiseSlip.cck = s.cck := by
  unfold State.raiseSlip
  split <;> simp

@[simp] theorem State.raiseSlip_drg (s : State) : s.raiseSlip.drg = s.drg := by
  unfold State.raiseSlip
  split <;> simp

@[simp] theorem State.raiseSlip_gtc (s : State) : s.raiseSlip.gtc = s.gtc := by
  unfold State.raiseSlip
  split <;> simp

@[simp] theorem State.raiseSlip_rcs (s : State) : s.raiseSlip.rcs = s.rcs := by
  unfold State.raiseSlip
  split <;> simp

@[simp] theorem State.raiseSlip_freeCount (s : State) : s.raiseSlip.freeCount = s.freeCount := by
  unfold State.raiseSlip
  split <;> simp

/-! ## A waiting request -/

@[simp] theorem State.noteWait_pending (s : State) : s.noteWait.pending = s.pending := by
  unfold State.noteWait
  split <;> simp

@[simp] theorem State.noteWait_pins (s : State) : s.noteWait.pins = s.pins := by
  unfold State.noteWait
  split <;> simp

@[simp] theorem State.noteWait_sup (s : State) : s.noteWait.sup = s.sup := by
  unfold State.noteWait
  split <;> simp

@[simp] theorem State.noteWait_lif (s : State) : s.noteWait.lif = s.lif := by
  unfold State.noteWait
  split <;> simp

@[simp] theorem State.noteWait_setup (s : State) : s.noteWait.setup = s.setup := by
  unfold State.noteWait
  split <;> simp

@[simp] theorem State.noteWait_ctr (s : State) : s.noteWait.ctr = s.ctr := by
  unfold State.noteWait
  split <;> simp

@[simp] theorem State.noteWait_wge (s : State) : s.noteWait.wge = s.wge := by
  unfold State.noteWait
  split <;> simp

@[simp] theorem State.noteWait_cck (s : State) : s.noteWait.cck = s.cck := by
  unfold State.noteWait
  split <;> simp

@[simp] theorem State.noteWait_drg (s : State) : s.noteWait.drg = s.drg := by
  unfold State.noteWait
  split <;> simp

@[simp] theorem State.noteWait_gtc (s : State) : s.noteWait.gtc = s.gtc := by
  unfold State.noteWait
  split <;> simp

@[simp] theorem State.noteWait_rcs (s : State) : s.noteWait.rcs = s.rcs := by
  unfold State.noteWait
  split <;> simp

@[simp] theorem State.noteWait_freeCount (s : State) : s.noteWait.freeCount = s.freeCount := by
  unfold State.noteWait
  split <;> simp

/-! ## Replies -/

@[simp] theorem replyTo_pending (r : Request) (a : Answer) (x : Bool) : (replyTo r a x).pending = a.state.pending := by
  simp [replyTo]

@[simp] theorem replyTo_pins (r : Request) (a : Answer) (x : Bool) : (replyTo r a x).pins = a.state.pins := by
  simp [replyTo]

@[simp] theorem replyTo_sup (r : Request) (a : Answer) (x : Bool) : (replyTo r a x).sup = a.state.sup := by
  simp [replyTo]

@[simp] theorem replyTo_setup (r : Request) (a : Answer) (x : Bool) : (replyTo r a x).setup = a.state.setup := by
  simp [replyTo]

@[simp] theorem replyTo_ctr (r : Request) (a : Answer) (x : Bool) : (replyTo r a x).ctr = a.state.ctr := by
  simp [replyTo]

@[simp] theorem replyTo_wge (r : Request) (a : Answer) (x : Bool) : (replyTo r a x).wge = a.state.wge := by
  simp [replyTo]

@[simp] theorem replyTo_cck (r : Request) (a : Answer) (x : Bool) : (replyTo r a x).cck = a.state.cck := by
  simp [replyTo]

@[simp] theorem replyTo_drg (r : Request) (a : Answer) (x : Bool) : (replyTo r a x).drg = a.state.drg := by
  simp [replyTo]

@[simp] theorem replyTo_gtc (r : Request) (a : Answer) (x : Bool) : (replyTo r a x).gtc = a.state.gtc := by
  simp [replyTo]

@[simp] theorem replyTo_rcs (r : Request) (a : Answer) (x : Bool) : (replyTo r a x).rcs = a.state.rcs := by
  simp [replyTo]

@[simp] theorem replyTo_freeCount (r : Request) (a : Answer) (x : Bool) : (replyTo r a x).freeCount = a.state.freeCount := by
  simp [replyTo]

end Sys2Proof.Machine
end

