-- ==== Sys2Proof/Laws/Events.lean ====
section
/-!
SUPPORT. When a command's event occurs: a request that begins, a point that is announced, a frame that is
admitted. Each lemma says once what the command then does, so that a proof need not unfold the guard.
-/

namespace Sys2Proof.Machine

variable {s : State} {r : Request} {rest : List Request}

theorem State.begins.serviceable (h : s.begins r rest) : s.serviceable = some r := by
  obtain ⟨hp, hs, hc, hl, hq⟩ := h
  have : ¬ 4 ≤ s.lif.reply.length := by omega
  simp [State.serviceable, State.taking, State.queueFull, TxClass.capacity, Lif.queue, hp, hs, hc, hq, this]

theorem State.begins.takeRequest (h : s.begins r rest) : s.takeRequest = s.took rest := by
  simp [State.takeRequest, State.took, State.onMga, h.2.2.2.2]

/-- A short request that begins is served and answered. -/
theorem State.begins.serve (h : s.begins r rest) {code : Byte} (hc : r.code = code)
    (act : State → List Byte → Answer) : s.serve code act = replyTo r (act (s.took rest) r.args) := by
  simp [State.serve, State.serveWhere, h.serviceable, h.takeRequest, hc]

/-- A request that may start an operation, when it begins. -/
theorem State.begins.serveLong (h : s.begins r rest) {code : Byte} (hc : r.code = code)
    (act : State → List Byte → Answer ⊕ (State × Operation)) :
    s.serveLong code act = match act (s.took rest) r.args with
      | .inl a => replyTo r a
      | .inr (t, op) => t.onMga fun m => { m with service := some { request := r, operation := op } } := by
  cases hx : act (s.took rest) r.args <;>
    simp [State.serveLong, h.serviceable, h.takeRequest, hc, hx]

@[simp] theorem took_pending : (s.took rest).pending = s.pending := rfl
@[simp] theorem took_pins : (s.took rest).pins = s.pins := rfl
@[simp] theorem took_sup : (s.took rest).sup = s.sup := rfl
@[simp] theorem took_lif : (s.took rest).lif = s.lif := rfl
@[simp] theorem took_setup : (s.took rest).setup = s.setup := rfl
@[simp] theorem took_ctr : (s.took rest).ctr = s.ctr := rfl
@[simp] theorem took_wge : (s.took rest).wge = s.wge := rfl
@[simp] theorem took_cck : (s.took rest).cck = s.cck := rfl
@[simp] theorem took_drg : (s.took rest).drg = s.drg := rfl
@[simp] theorem took_gtc : (s.took rest).gtc = s.gtc := rfl
@[simp] theorem took_rcs : (s.took rest).rcs = s.rcs := rfl
@[simp] theorem took_counters : (s.took rest).counters = s.counters := rfl
@[simp] theorem took_freeCount : (s.took rest).freeCount = s.freeCount := rfl
@[simp] theorem took_requests : (s.took rest).mga.requests = rest := rfl

/-- An announced point is taken by its block. -/
theorem State.announced.atPoint {e : Entry} {p : Point} (h : s.announced e p)
    (act : State → Tag → State) : s.atPoint e.tag p act = act (s.pointTaken e.tag p) e.tag := by
  obtain ⟨hp, _, hd⟩ := h
  simp [State.atPoint, State.taking, State.pointIsDue, hp, hd, State.pointTaken, State.onCtr]

/-- An announced point is of a live entry, which taking the point leaves alone. -/
theorem State.announced.entry_taken {e : Entry} {p : Point} (h : s.announced e p) :
    (s.pointTaken e.tag p).entry e.tag = some e := h.2.1

/-- There is no first thing to take exactly when nothing is outstanding (log 6). -/
theorem State.firstOutstanding_eq_none : s.firstOutstanding = none ↔ s.nothingOutstanding := by
  unfold State.firstOutstanding State.nothingOutstanding
  cases s.ctr.infeedDue <;> cases s.ctr.confirmDue <;> cases s.ctr.pointsDue <;> cases s.expired <;> simp

theorem natOfBytes_two (a b : Byte) : natOfBytes [a, b] = a.toNat * 256 + b.toNat := by
  simp [natOfBytes]

theorem bytesBE_two_append (w : Word16) :
    bytesBE 2 w.toNat = [(w >>> 8).setWidth 8, w.setWidth 8] := by
  simp only [bytesBE]
  congr 1
  · apply BitVec.eq_of_toNat_eq
    simp [Nat.shiftRight_eq_div_pow]
  · congr 1
    apply BitVec.eq_of_toNat_eq
    simp

/-- Two bytes put together again. -/
theorem halves_append (w : Word16) :
    ((w >>> 8).setWidth 8 : Byte) ++ (w.setWidth 8 : Byte) = w := by
  apply BitVec.eq_of_toNat_eq
  simp only [BitVec.toNat_append, BitVec.toNat_setWidth, BitVec.toNat_ushiftRight,
    Nat.shiftRight_eq_div_pow, Nat.shiftLeft_eq]
  have h : ∀ a b : Nat, b < 2 ^ 8 → a * 2 ^ 8 ||| b = a * 2 ^ 8 + b := fun a b hb => by
    rw [← Nat.shiftLeft_eq, Nat.shiftLeft_add_eq_or_of_lt hb]
  rw [h _ _ (Nat.mod_lt _ (by norm_num))]
  have := w.isLt
  omega

/-- A whole frame is read back from its bytes (07 R146). -/
theorem frameOf_bytes (f : Frame) (hl : f.len.toNat ≤ 240) (hp : f.payload.length = f.len.toNat) :
    frameOf f.bytes = some f := by
  have hseq := halves_append f.seq
  have hcrc : BitVec.ofNat 16 (natOfBytes [(f.crc >>> 8).setWidth 8, f.crc.setWidth 8]) = f.crc := by
    rw [natOfBytes_two]
    apply BitVec.eq_of_toNat_eq
    simp only [BitVec.toNat_ofNat, BitVec.toNat_setWidth, BitVec.toNat_ushiftRight,
      Nat.shiftRight_eq_div_pow]
    have := f.crc.isLt
    omega
  simp only [Frame.bytes, Frame.header, bytesBE_two_append, List.cons_append, List.nil_append, frameOf]
  rw [if_pos ⟨hl, by simp [hp]⟩]
  simp only [← hp, List.take_left', List.drop_left', hseq, hcrc]

/-- An admitted frame reaches its classification (07 R147, R148). -/
theorem State.admits.exec {f : Frame} (h : s.admits f) :
    execFrameCompletion f.bytes s = .next ((s.bump .rxFrames).classify f) := by
  obtain ⟨hb, hl, hp, hc, h0, h63, ho, hd, hh⟩ := h
  have hf : s.receiveFault f = none := by
    rw [State.receiveFault, if_neg (by simp [hc]), if_neg (by simp_all), if_neg ho, if_neg hd, if_neg hh]
  simp [execFrameCompletion, hb, State.receive, frameOf_bytes f hl hp, hf]

end Sys2Proof.Machine
end

