-- ==== Sys2Proof/Laws/Images.lean ====
section
/-!
SUPPORT. Reading back what was written: valve records, recipe slots, setup bytes and recipe words.
-/

namespace Sys2Proof.Machine

/-! ## Valve records -/

theorem State.valve_eq_getElem (s : State) (v : Nat) :
    s.valve v = (s.drg.valves[v]?).getD Valve.reset := by
  simp [State.valve]

/-- A changed valve record reads as changed; every other reads as before. -/
theorem State.onValve_valve (s : State) (v i : Nat) (f : Valve → Valve) :
    (s.onValve v f).valve i = if i = v ∧ v < 96 then f (s.valve v) else s.valve i := by
  simp only [State.valve_eq_getElem, State.onValve, State.onDrg, Vector.getElem?_setIfInBounds]
  by_cases hv : v = i
  · subst hv
    by_cases hb : v < 96
    · simp [hb]
    · simp [hb]
  · have : ¬ i = v := fun h => hv h.symm
    simp [hv, this]

/-- Every valve record changed by its number. -/
theorem State.onValves_valve (s : State) (f : Nat → Valve → Valve) {i : Nat} (hi : i < 96) :
    (s.onValves f).valve i = f i (s.valve i) := by
  simp [State.valve_eq_getElem, State.onValves, State.onDrg, hi]

/-- The filler's frames leave the valve table alone. -/
@[simp] theorem State.sendTrim_drg (s : State) (v : Nat) : (s.sendTrim v).drg = s.drg := by
  unfold State.sendTrim
  split
  · rfl
  · split
    · rfl
    · simp

@[simp] theorem State.sendTrimClear_drg (s : State) (id : Nat) : (s.sendTrimClear id).drg = s.drg := by
  unfold State.sendTrimClear
  split
  · rfl
  · split
    · rfl
    · simp

@[simp] theorem State.alertWith_pending (s : State) (n : Notice) : (s.alertWith n).pending = s.pending := by
  unfold State.alertWith; split <;> simp

@[simp] theorem State.alertWith_pins (s : State) (n : Notice) : (s.alertWith n).pins = s.pins := by
  unfold State.alertWith; split <;> simp

@[simp] theorem State.alertWith_sup (s : State) (n : Notice) : (s.alertWith n).sup = s.sup := by
  unfold State.alertWith; split <;> simp

@[simp] theorem State.alertWith_setup (s : State) (n : Notice) : (s.alertWith n).setup = s.setup := by
  unfold State.alertWith; split <;> simp

@[simp] theorem State.alertWith_ctr (s : State) (n : Notice) : (s.alertWith n).ctr = s.ctr := by
  unfold State.alertWith; split <;> simp

@[simp] theorem State.alertWith_wge (s : State) (n : Notice) : (s.alertWith n).wge = s.wge := by
  unfold State.alertWith; split <;> simp

@[simp] theorem State.alertWith_cck (s : State) (n : Notice) : (s.alertWith n).cck = s.cck := by
  unfold State.alertWith; split <;> simp

@[simp] theorem State.alertWith_drg (s : State) (n : Notice) : (s.alertWith n).drg = s.drg := by
  unfold State.alertWith; split <;> simp

@[simp] theorem State.alertWith_gtc (s : State) (n : Notice) : (s.alertWith n).gtc = s.gtc := by
  unfold State.alertWith; split <;> simp

@[simp] theorem State.alertWith_rcs (s : State) (n : Notice) : (s.alertWith n).rcs = s.rcs := by
  unfold State.alertWith; split <;> simp

@[simp] theorem State.alertWith_freeCount (s : State) (n : Notice) : (s.alertWith n).freeCount = s.freeCount := by
  unfold State.alertWith; split <;> simp

@[simp] theorem State.alert_drg (s : State) (v : Nat) (x : AlertReason) : (s.alert v x).drg = s.drg := by
  simp [State.alert]

/-! ## Recipe slots -/

@[simp] theorem Rcs.setSlot_slot (r : Rcs) (k : SlotId) (x : Slot) : (r.setSlot k x).slot k = x := by
  cases k <;> rfl

@[simp] theorem Rcs.setSlot_other (r : Rcs) (k : SlotId) (x : Slot) :
    (r.setSlot k x).slot k.other = r.slot k.other := by cases k <;> rfl

@[simp] theorem SlotId.other_other (k : SlotId) : k.other.other = k := by cases k <;> rfl

@[simp] theorem Rcs.setSlot_other_slot (r : Rcs) (k : SlotId) (x : Slot) :
    (r.setSlot k.other x).slot k = r.slot k := by cases k <;> rfl

/-- A replaced slot reads as replaced; the other reads as before. -/
theorem Rcs.setSlot_slot_eq (r : Rcs) (k j : SlotId) (x : Slot) :
    (r.setSlot k x).slot j = if j = k then x else r.slot j := by cases k <;> cases j <;> rfl

/-! ## Setup bytes and recipe words -/

/-- A run of bytes reads back where it was written; every other byte of the image reads as before. -/
theorem writeBytes_read (run : List Byte) :
    ∀ (img : SetupImage) (off i : Nat), i < 128 → setupByte (writeBytes img off run) i =
      if off ≤ i ∧ i < off + run.length then run.getD (i - off) 0 else setupByte img i := by
  induction run with
  | nil =>
    intro img off i _
    rw [if_neg (by simp)]
    rfl
  | cons b bs ih =>
    intro img off i hi
    rw [writeBytes, ih _ _ _ hi]
    by_cases h : i = off
    · subst h
      rw [if_neg (by omega), if_pos (by simp)]
      simp [setupByte, hi]
    · have key : setupByte (img.setIfInBounds off b) i = setupByte img i := by
        simp [setupByte, Ne.symm h]
      rw [key]
      by_cases hb : off ≤ i ∧ i < off + (b :: bs).length
      · obtain ⟨k, hk⟩ := Nat.exists_eq_add_of_lt (lt_of_le_of_ne hb.1 (Ne.symm h))
        have h2 := hb.2
        simp only [List.length_cons] at h2
        rw [if_pos hb, if_pos ⟨by omega, by omega⟩, show i - off = (i - (off + 1)) + 1 by omega,
          List.getD_cons_succ]
      · rw [if_neg hb, if_neg (by simp only [List.length_cons] at hb; omega)]

/-- A run of words reads back where it was written; every other word of the image reads as before. -/
theorem writeWords_read (ws : List Word16) :
    ∀ (img : Image) (off i : Nat), i < 256 → (writeWords img off ws).word i =
      if off ≤ i ∧ i < off + ws.length then (ws.getD (i - off) 0).toNat else img.word i := by
  induction ws with
  | nil =>
    intro img off i _
    rw [if_neg (by simp)]
    rfl
  | cons w ws ih =>
    intro img off i hi
    rw [writeWords, ih _ _ _ hi]
    by_cases h : i = off
    · subst h
      rw [if_neg (by omega), if_pos (by simp)]
      simp [Image.word, hi]
    · have key : Image.word (img.setIfInBounds off w) i = img.word i := by
        simp [Image.word, Ne.symm h]
      rw [key]
      by_cases hb : off ≤ i ∧ i < off + (w :: ws).length
      · have h2 := hb.2
        simp only [List.length_cons] at h2
        rw [if_pos hb, if_pos ⟨by omega, by omega⟩, show i - off = (i - (off + 1)) + 1 by omega,
          List.getD_cons_succ]
      · rw [if_neg hb, if_neg (by simp only [List.length_cons] at hb; omega)]

end Sys2Proof.Machine
end

