-- ==== Sys2Proof/Laws/Sends.lean ====
section
/-!
SUPPORT. The model's sending operations in the terms of Safety.lean: what each can do, said once.
-/

namespace Sys2Proof.Machine

/-- A transmit queue is full when it holds its capacity (07 R156). -/
theorem State.queueFull_iff (s : State) (c : TxClass) :
    s.queueFull c = true ↔ c.capacity ≤ (s.lif.queue c).length := by simp [State.queueFull]

/-- At a BUSY port, or in bypass, a frame only joins the tail of its class's queue (07 R156, R158, R161). -/
theorem State.join_waits {s : State} (h : s.lif.port ≠ .free ∨ s.bypassed = true) (c : TxClass) (x : Queued) :
    s.join c x = s.onLif fun l => l.setQueue c (l.queue c ++ [x]) := by
  have idle : ∀ u : State, u.lif.port = s.lif.port → u.bypassed = s.bypassed → u.arbitrate = u := by
    intro u hp hb
    rcases h with h | h
    · simp [State.arbitrate, hp, h]
    · simp [State.arbitrate, hb, h]
  exact idle _ (by cases c <;> rfl) rfl

/-- A DOSE_TRIM goes to the filler (04 R89). -/
theorem State.sendTrim_eq (s : State) (v : Nat) : s.sendTrim v =
    s.toFiller .trimsQueued (.own s.fillerStation 0x53
      ([BitVec.ofNat 8 v, (s.valve v).epoch] ++ signedBE 4 (s.valve v).trim) false) := by
  simp only [State.sendTrim, State.toFiller, State.queueFull_iff, TxClass.capacity, Lif.queue, doseTrimPayload,
    bytesBE, Nat.pow_zero, Nat.div_one, List.cons_append, List.nil_append]

/-- A TRIM_CLEAR goes to the filler (04 R100). -/
theorem State.sendTrimClear_eq (s : State) (id : Nat) : s.sendTrimClear id =
    s.toFiller .trimClears (.own s.fillerStation 0x54
      (trimClearPayload id ((s.drg.valves.toList.take s.valveCount).map (·.epoch))) false) := by
  simp only [State.sendTrimClear, State.toFiller, State.queueFull_iff, TxClass.capacity, Lif.queue]

/-- A VALVE_ALERT is counted when it is queued (04 R106). -/
theorem State.alertWith_eq (s : State) (n : Notice) : s.alertWith n = s.alerted n := by
  have full : s.queueFull .notice = false ↔ s.lif.notice.length < 16 := by
    rw [← Bool.not_eq_true, State.queueFull_iff]
    exact Nat.not_le
  simp only [State.alertWith, State.alerted, State.noticeFits, Bool.and_eq_true, bne_iff_ne, Bool.not_eq_true',
    full]

/-- The draining check (06 R142): a DRAINING slot that no entry names becomes VERIFIED and is reported. -/
theorem State.drainCheck_eq (s : State) (k : SlotId) (m : DrainMoment) : s.drainCheck k m =
    if (s.rcs.slot k).state = .draining ∧ (s.rcs.slot k).refs = 0 then
      ((s.onRcs fun r => r.setSlot k { r.slot k with state := .verified }).notify
        (.slotRetired k (s.image k).recipeId m)).bump .slotRetirements
    else s := rfl

end Sys2Proof.Machine
end

