-- ==== Sys2Proof/WellFormed.lean ====
section
/-!
DEFINITION. Which commands can arrive. Widths are in the operands' types; what is left is that a
frame is a run of bytes bounded by idle line (07, Receiving a frame), so it holds at least one.
`exec` gives every command a meaning, ill-formed ones too.
-/

namespace Sys2Proof

/-- A command that can arrive. -/
def Instr.wellFormed : Instr → Bool
  | .frameCompletion bytes => !bytes.isEmpty
  | _ => true

end Sys2Proof
end

