-- ==== Sys2Proof/Tests/Slice0.lean ====
section
/-!
SUPPORT. The model's own tests, each on one step or one operation. Expected results are spec/'s worked
examples (named at each test); the second half shows, for each statement with hypotheses, concrete
states that meet them.
-/

namespace Sys2Proof.Tests

set_option Elab.async false

open Sys2Proof.Machine

/-! ## Well-formedness -/

theorem test_frame_of_no_byte_is_ill_formed : Instr.wellFormed (.frameCompletion []) = false := by decide
theorem test_frame_of_a_byte_is_well_formed : Instr.wellFormed (.frameCompletion [0]) = true := by decide
theorem test_no_word_spells_a_command : decodeTableWord 16 0x0101 = none := by decide
theorem test_with_fetch_word_keeps_the_state :
    State.reset.withFetchWord 16 0x0101 = State.reset := by rfl

/-! ## The line of 11_worked_line_sequences.md -/

/-- The state a command answers (`s` itself where it answers none). -/
def after (c : Instr) (s : State) : State :=
  match exec c s with
  | .next t => t
  | _ => s

/-- Fields of the setup image written over the defaults: offset, size, value. -/
def setupOf (fields : List (Nat × Nat × Nat)) : SetupImage :=
  fields.foldl (fun img f => writeBytes img f.1 (bytesBE f.2.1 f.2.2)) SetupImage.defaults

/-- The settings of 11's table; no line controller is set and the zero band is 300. -/
def lineSetup : SetupImage :=
  setupOf [(1, 1, 3), (2, 1, 5), (3, 1, 1), (4, 4, 40000), (8, 2, 300), (10, 2, 20), (14, 2, 300),
    (16, 2, 900), (18, 2, 1500), (20, 2, 100), (22, 1, 1), (23, 2, 1800), (25, 2, 150), (31, 2, 300),
    (41, 1, 20), (44, 1, 1), (47, 1, 24)]

/-- Words 0 to 254 of the recipe of 11's slot 0, with the pattern of the example of 03. -/
def recipeWords : List Word16 :=
  [210] ++ List.replicate 8 0x2020#16 ++
  [0, 17400, 5, 27320, 5, 21320, 5, 24320, 5, 32320, 5, 37320, 0, 0, 400, 520, 700, 820, 0, 200, 8, 4] ++
  [0, 200, 10, 0, 800, 5000, 3, 0, 4000, 1, 2, 0x75D, 3, 0x4B, 0x37, 0x51] ++ List.replicate 9 0 ++
  [8, 0x142, 0x300, 0x200, 0x200, 0x120, 0x500, 0x120, 0x600] ++ List.replicate 190 0

/-- The recipe with its check word (06 R131). -/
def recipe : Image :=
  ⟨(recipeWords ++ [BitVec.ofNat 16 (recipeWords.map (·.toNat)).sum]).toArray, by decide +kernel⟩

/-- The part as station 12, started up, with the calibration of 02's worked case. -/
def base : State :=
  { State.reset with
    sup := { State.reset.sup with
      phase := .running, address := 12, calwe := true, storeValid := true,
      store := { record := { span := 6250, capacity := 5000000, zero := 12400, locked := false },
                 checkAgrees := true, audit := 1 } }
    wge := { State.reset.wge with
      span := 6250, capacity := 5000000, calZero := 12400, zero := 12400, sampleState := .samplesOk,
      gapTimer := some 5 }
    cck := { current := some [0x31, 0x35, 0x2E, 0x30, 0x33, 0x2E, 0x32, 0x37],
             previous := some [0x31, 0x34, 0x2E, 0x30, 0x33, 0x2E, 0x32, 0x37], generation := 12,
             faultRun := 2 }
    setup := lineSetup }

/-- `base` with the recipe in slot 0 under a state. -/
def withRecipe (x : SlotState) : State :=
  { base with rcs := { slot0 := { state := x, image := recipe, refs := 0, fault := none },
                       slot1 := Slot.reset } }

/-- The line running under slot 0. -/
def line : State :=
  { withRecipe .active with ctr := { Ctr.reset with run := .running } }

/-- A can of valve 5 whose infeed position is 41,010, in a stage. -/
def can (stage : Stage) : Entry :=
  { newEntry .filled stage (some .s0) 12 with
    tag := 0x0100, valve := some 5, serial := some 9, epoch := some 0, dischargePos := some 1000,
    expectedPos := some 41000, infeedPos := if stage = .enRoute then none else some 41010 }

/-- The line with these entries tracked, at a position. -/
def tracking (es : List Entry) (x : Pos) : State :=
  { line with
    ctr := { line.ctr with queue := es, position := x }
    rcs := { line.rcs with slot0 := { line.rcs.slot0 with
      refs := es.countP fun (e : Entry) => e.slot == some .s0 } } }

/-- The line with one can at a point that is due. -/
def atDue (e : Entry) (p : Point) (x : Pos) : State :=
  { tracking [e] x with ctr := { (tracking [e] x).ctr with pointsDue := [{ tag := e.tag, point := p }] } }

/-- The occupancy record of the can. -/
def onList (platform : PlatformState) (window : WindowState) : Occupancy :=
  { tag := 0x0100, platform := platform, window := window, acc := Accumulator.empty }

/-- `s` with a request at the head of the request queue. -/
def asking (s : State) (code : Byte) (args : List Byte) : State :=
  { s with mga := { s.mga with requests := [{ source := 1, code := code, tag := 7, args := args }] } }

/-- The status byte and the data of the reply being sent. -/
def replyOf (s : State) : List Byte :=
  match s.lif.port with
  | .sending .reply f _ _ => f.payload.drop 2
  | _ => []

/-- A whole frame to station 12 with hop count 60. -/
def frameTo (dest source kind : Byte) (payload : List Byte) : Frame :=
  Frame.withCrc { dest := dest, source := source, kind := kind, hop := 60, seq := 300,
                  len := BitVec.ofNat 8 payload.length, payload := payload, crc := 0 }

/-- The pass table of 07's example of classifying frames; DISCHARGE is kind 50h and CODE 51h. -/
def station12 (s : State) : State :=
  { s with lif := { s.lif with pass := ((s.lif.pass.set 0 (some ⟨3, 0x50, .discharge, true⟩)).set 1
      (some ⟨5, 0x51, .code, false⟩)).set 2 (some ⟨0, 0x50, .nothing, false⟩) } }

/-! ## Worked examples -/

/-- The check value 29B1h of the digits 1 to 9 under this polynomial and start (PRESUMED: not of spec/). -/
theorem test_crc_check_value :
    crc16 [0x31, 0x32, 0x33, 0x34, 0x35, 0x36, 0x37, 0x38, 0x39] = 0x29B1 := by decide +kernel

/-- 02, Example: decimation and moving average. -/
theorem test_rounding_half_away_from_zero :
    roundDiv 4006 4 = 1002 ∧ roundDiv 3998 4 = 1000 ∧ roundDiv 4018 4 = 1005 ∧
      roundDiv (-4006) 4 = -1002 := by decide

/-- 02, the same example: the ninth join. -/
theorem test_ninth_join_gives_1003 :
    (after (.sampleArrival 1006 false) { line with wge := { line.wge with
      decSum := 3018, decCount := 3,
      history := [1002, 1000, 1005, 1001, 1003, 999, 1004, 1002].map fun (v : Int) =>
        ({ value := v, overrange := false } : FlaggedValue) } }).wge.output =
      some { value := 1003, overrange := false, exc := .normal } := by decide +kernel

/-- The accumulator of 02's worked case, with a maximum. -/
def workedWindow (maximum : Int) : Accumulator :=
  { Accumulator.empty with
    sum := 47070531, count := 12, minimum := some 3922510, maximum := some maximum }

/-- 02, Worked case: one can. -/
theorem test_worked_case_is_good :
    line.weighResult (can .weighing) (workedWindow 3922580) =
      { status := .ok, reason := none, gross := some 372900, net := some 355500, zone := some .good } := by
  decide +kernel

/-- 02, Worked case, with a spread of 274. -/
theorem test_worked_case_unstable :
    line.weighResult (can .weighing) (workedWindow 3922784) =
      { status := .notWeighed, reason := some .unstable, gross := some 372900, net := none,
        zone := none } := by decide +kernel

/-- 02, Example: three cans: C's entry marks B's open window DOUBLE. -/
theorem test_entry_marks_open_window_double :
    ((after (.platformEntryPoint 0x0100) { atDue (can .weighing) .platformEntry 41410 with
      wge := { line.wge with records := [{ onList .onPlatform .opened with tag := 7 },
        onList .approaching .waiting] } }).wge.records.map fun (r : Occupancy) => (r.platform, r.acc.double)) =
      [(.onPlatform, true), (.onPlatform, false)] := by decide +kernel

/-- The two cans of 01's example of a tie, at position 41,301 with the arrival of 41,281 recognised. -/
def tied : State :=
  { tracking [{ can .enRoute with tag := 1 },
      { can .enRoute with tag := 2, expectedPos := some 41250 }] 41301 with
    ctr := { (tracking [{ can .enRoute with tag := 1 },
      { can .enRoute with tag := 2, expectedPos := some 41250 }] 41301).ctr with infeedDue := [41281] } }

/-- 01, Example: a tie at the window edge, arrival first. -/
theorem test_tie_arrival_first :
    let t := after .missingExpiry (after .infeedArrival tied)
    t.ctr.queue.map (fun (e : Entry) => (e.tag, e.stage, e.infeedPos)) =
      [(1, .weighing, some 41281), (2, .enRoute, none)] ∧ t.ctr.slipRun = 0 := by decide +kernel

/-- 01, Example: a tie at the window edge, expiry first. -/
theorem test_tie_expiry_first :
    let t := after .infeedArrival (after .missingExpiry tied)
    t.ctr.queue.map (fun (e : Entry) => (e.tag, e.stage, e.infeedPos)) =
      [(2, .weighing, some 41281)] ∧ t.counter .missing = 1 ∧ t.counter .paired = 1 := by decide +kernel

/-- 01, R23: with block distance 0 an eye blocked at 41,301, the expiry position of the first can of the example, finds
that expiry taken. -/
theorem test_blocking_at_the_expiry_position_finds_the_expiry_taken :
    let s := { tied with setup := writeBytes lineSetup 10 [0, 0], ctr := { tied.ctr with infeedDue := [] } }
    let t := after .infeedArrival (after (.infeedEyeChange true) s)
    t.ctr.queue.map (fun (e : Entry) => (e.tag, e.stage, e.infeedPos)) =
      [(2, .weighing, some 41301)] ∧ t.counter .missing = 1 ∧ t.counter .paired = 1 := by decide +kernel

/-- 11, A missing can followed by a stray: S is inserted before C and raises the slip run. -/
theorem test_stray_stands_before_the_first_en_route :
    let s := tracking [{ can .weighing with tag := 1 },
      { can .enRoute with tag := 2, expectedPos := some 501200 }] 500870
    let t := after .infeedArrival { s with ctr := { s.ctr with infeedDue := [500850] } }
    t.ctr.queue.map (fun (e : Entry) => (e.tag, e.origin, e.slot)) =
      [(1, .filled, some .s0), (0, .stray, some .s0), (2, .filled, some .s0)] ∧ t.ctr.slipRun = 1 := by
  decide +kernel

/-- 01 R2; 11: after index 0 is free again its generation is 1, so the next tag is 0100h. -/
theorem test_freed_index_is_taken_in_its_next_generation :
    (tracking [{ can .weighing with tag := 1 }] 0 |>.onCtr fun c =>
      { c with generations := c.generations.set 0 1 }).tagOf
      ((tracking [{ can .weighing with tag := 1 }] 0).freeIndex) = 0x0100 := by decide +kernel

/-- 03, Example: one pattern against several replies; the texts by row. -/
def codeRow (gen : Byte) (text : String) : Option MismatchDetail :=
  patternFailure base.cck recipe gen (text.toList.map fun c => BitVec.ofNat 8 c.toNat)

theorem test_code_texts_of_the_example :
    codeRow 11 "BN04 K7Q 14.03.27" = none ∧ codeRow 12 "BN04 K7Q 14.03.27" = some (.index 10) ∧
      codeRow 10 "BN04 K7Q 14.03.27" = some .staleDate ∧ codeRow 12 "BN4 K7Q 15.03.27" = some (.index 3) ∧
      codeRow 12 "bN04 K7Q 15.03.27" = some (.index 0) ∧
      codeRow 12 "BN04 K7Q 15.03.27X" = some (.index 17) := by decide +kernel

/-- 03, Example: a run reaching its limit, the last row, under the limit 5 of the defaults after four. -/
theorem test_reader_fault_run_reaches_its_limit :
    let t := ({ line with cck := { line.cck with faultRun := 4 } }).writeCode 9 (bareCode .noRead)
    t.cck.faultRun = 0 ∧ t.counter .readerFaults = 1 := by decide +kernel

/-- Valve 5 before 04's worked evaluation (there valve 17), at its fourth offer. -/
def beforeEvaluation : State :=
  line.onValve 5 fun x => { x with
    trim := 150, epoch := 7, sum := 3270, n := 3,
    recent := [355610, 356050, 355200, 355900, 356120, 355840, 356310] }

/-- 04, Worked evaluation. -/
theorem test_worked_evaluation :
    let x := (beforeEvaluation.takeNet 0x0100 5 recipe 355970).valve 5
    x.trim = -513 ∧ x.epoch = 8 ∧ x.state = .awaitingConfirm ∧ x.sends = 1 ∧ x.sum = 0 ∧ x.n = 0 ∧
      x.recent.length = 8 ∧ x.satRun = 0 := by decide +kernel

/-- 04, Worked evaluation, from an old trim of −4,600 under gain 10: the new trim lands on the limit. -/
theorem test_trim_lands_on_its_limit :
    nextTrim recipe (-4600) 1060 = -5000 ∧ nextTrim recipe 150 1060 = -513 := by decide +kernel

/-- 04, Worked confirmation: two stale discharges, then the echo of the epoch. -/
theorem test_worked_confirmation :
    let s := line.onValve 5 fun x => { x with epoch := 8, state := .awaitingConfirm, sends := 1 }
    let t := (s.takeEpoch 5 7).takeEpoch 5 7
    (t.valve 5).mismatchRun = 2 ∧ (t.valve 5).state = .awaitingConfirm ∧
      ((t.takeEpoch 5 8).valve 5).state = .collecting ∧ ((t.takeEpoch 5 8).valve 5).sends = 0 := by
  decide +kernel

/-- A result of 05's example of four decisions. -/
def resultOf (status : WeighStatus) (zone : Option Zone) : Option WeighResult :=
  some { status := status, reason := none, gross := none, net := none, zone := zone }

/-- 05, Example: four decisions: the cause sets of A, B, C and D. -/
theorem test_four_cause_sets :
    ({ can .awaitingDecision with
        weigh := resultOf .ok (some .good), code := some (bareCode .isMatch) } : Entry).causeSet = 0 ∧
      ({ can .awaitingDecision with
        weigh := resultOf .suspect (some .over), code := some (bareCode .isMatch) } : Entry).causeSet =
        causeMask [.suspect, .over] ∧
      ({ can .awaitingDecision with
        weigh := resultOf .ok (some .under), code := some (bareCode .lowGrade) } : Entry).causeSet =
        causeMask [.under, .codeLowGrade] ∧
      ({ can .awaitingDecision with
        weigh := resultOf .notWeighed none, code := some (bareCode .notChecked), slot := none,
        origin := .stray } : Entry).causeSet = causeMask [.notWeighed, .stray, .noRecipe] := by decide

/-- 11, A missing can followed by a stray: the decision of B: REJECT, fire position Q + 1,400. -/
theorem test_reject_is_queued_with_its_fire_position :
    let t := after (.decisionPoint 0x0100) (atDue { can .awaitingDecision with
      weigh := resultOf .notWeighed none, code := some (bareCode .isMatch), codeState := .result }
      .decision 41910)
    t.gtc.rejects = [{ tag := 0x0100, fire := 42410 }] ∧ (t.valve 5).rejected = 1 ∧
      t.ctr.queue.map (·.decision) = [some .reject] := by decide +kernel

/-- 11, The same sequence: S's gate point fires into B's pulse. -/
theorem test_gate_restarts_a_running_pulse :
    let s := atDue { can .decided with decision := some .reject } .gate 42410
    let t := after (.gatePoint 0x0100) { s with
      gtc := { s.gtc with rejects := [{ tag := 0x0100, fire := 42410 }], gateTimer := some 20 } }
    t.gtc.gateTimer = some 20 ∧ t.counter .gateExtensions = 1 ∧ t.gtc.rejects = [] ∧
      t.ctr.queue.map (·.stage) = [.awaitingConfirm] := by decide +kernel

/-- 11, the first can: the confirm arrival at Y 42,810 retires it and one CAN_RESULT goes. -/
theorem test_first_can_is_confirmed :
    let s := tracking [{ can .awaitingConfirm with decision := some .accept }] 42830
    let t := after .confirmArrival { s with ctr := { s.ctr with confirmDue := [42810] } }
    t.ctr.queue = [] ∧ t.counter .confirmedAccept = 1 ∧ t.gtc.resultNumber = 1 ∧
      t.rcs.slot0.refs = 0 := by decide +kernel

/-- 07, Example: frames 4, 5, 6 and 7 at station 12. -/
theorem test_classified_frames :
    let go := fun (f : Frame) => after (.frameCompletion f.bytes) (station12 line)
    (go (frameTo 1 3 0x60 [1])).counter .forwarded = 1 ∧
      (go (frameTo 63 12 0x42 [1])).counter .rxOwnReturned = 1 ∧
      (go (frameTo 63 7 0x50 [1, 0, 0, 0, 0, 210])).counter .notForwarded = 1 ∧
      (go (frameTo 12 1 0x55 [1])).counter .unclaimed = 1 := by decide +kernel

/-- 07, the same example, frame 1 sent to the part: a can of valve 5 discharged at the present position. -/
theorem test_discharge_makes_an_entry :
    let t := after (.frameCompletion (frameTo 12 3 0x50 [5, 0, 9, 0, 0, 210]).bytes) (station12 line)
    t.ctr.queue.map (fun (e : Entry) => (e.tag, e.valve, e.slot, e.expectedPos, e.stale)) =
      [(0, some 5, some .s0, some 40000, false)] ∧ t.rcs.slot0.refs = 1 := by decide +kernel

/-- 07, Example: the arbiter at one moment: with elevation RESULT the result goes first. -/
theorem test_elevated_class_goes_first :
    let x := Queued.own 1 0x43 [] false
    let s := { line with
      setup := writeBytes line.setup 50 [6],
      lif := { line.lif with port := .idleGap .trigger, trigger := [x], forward := [x], trim := [x, x],
                             notice := [x], result := [x, x] } }
    ((after .portFree s).lif.port.cls, (after .portFree s).lif.result.length) = (some .result, 1) := by
  decide +kernel

/-- 08, Example: notices through a full queue. -/
theorem test_notice_after_drops_carries_their_number :
    let x := Queued.own 1 0x42 [] false
    let s := { line with
      lif := { line.lif with port := .idleGap .forward, notice := List.replicate 16 x },
      mga := { line.mga with noticeNumber := 40 } }
    let t := ((s.notify (.sampleState .samplesOk)).notify (.trackSlip 0)).notify (.trackSlip 0)
    let u := ({ t with lif := { t.lif with notice := t.lif.notice.tail } }).notify (.zeroState .lost 0)
    t.mga.dropCount = 3 ∧ t.mga.noticeNumber = 40 ∧ u.mga.dropCount = 0 ∧ u.mga.noticeNumber = 41 ∧
      u.lif.notice.getLast? = some (.own 1 0x42 [0x04, 40, 3, 1, 0, 0, 0, 0] false) := by decide +kernel

/-- 04 R106: a VALVE_ALERT is counted as VALVE_ALERTS when it is queued, not when the NOTICE queue is full. -/
theorem test_alert_is_counted_when_queued :
    let full := { line with lif := { line.lif with notice := List.replicate 16 (.own 1 0x42 [] false) } }
    (line.alert 5 .erratic).counter .valveAlerts = 1 ∧ (full.alert 5 .erratic).counter .valveAlerts = 0 ∧
      (full.alert 5 .erratic).counter .noticesDropped = 1 := by decide +kernel

/-- 06, Example: verifying an image: the recipe passes all seven tests; with a word moved it fails
CHECK_WORD at index 255. -/
theorem test_verifying_an_image :
    line.verify recipe = none ∧
      line.verify (writeWords recipe 128 [1]) = some { reason := .checkWord, index := 255 } := by
  decide +kernel

/-- 06, Example: slot states across a changeover. -/
theorem test_changeover_drains_the_old_slot :
    let s := tracking [can .weighing] 41030
    let s := { s with rcs := { s.rcs with slot1 := { line.rcs.slot0 with state := .verified } } }
    let t := after .changeover (asking s 0x24 [1])
    (t.rcs.slot0.state, t.rcs.slot1.state, (t.valve 5).epoch, (t.valve 24).epoch) =
      (.draining, .active, 1, 0) := by decide +kernel

/-- 06, the same example: the last entry's retirement retires the slot. -/
theorem test_last_entry_retires_the_draining_slot :
    let s := tracking [{ can .awaitingConfirm with decision := some .accept }] 42961
    let s := { s with
      rcs := { s.rcs with slot0 := { s.rcs.slot0 with state := .draining } },
      ctr := { s.ctr with pointsDue := [{ tag := 0x0100, point := .confirmClose }] } }
    let t := after (.confirmWindowClose 0x0100) s
    t.rcs.slot0.state = .verified ∧ t.counter .lostAfterDecision = 1 ∧ t.counter .slotRetirements = 1 := by
  decide +kernel

/-- 09 R190: 5 counts of hysteresis above each code of the defaults (470 and 430). -/
theorem test_excitation_hysteresis :
    nextExc 470 430 .normal 469 = .warn ∧ nextExc 470 430 .warn 474 = .warn ∧
      nextExc 470 430 .warn 475 = .normal ∧ nextExc 470 430 .halt 435 = .warn := by decide

/-- 01 R13: with the settings of 11 tracking starts; with a lead as large as the gate position condition 1
fails. -/
theorem test_start_conditions :
    replyOf (after .startTracking (asking (withRecipe .active) 0x30 [])) = [0] ∧
      replyOf (after .startTracking (asking { withRecipe .active with
        setup := writeBytes lineSetup 20 [5, 220] } 0x30 [])) = [7, 1] := by decide +kernel

/-- 08 R170: a run that begins inside a field is refused with the field's offset; a live field may be written
while RUNNING. -/
theorem test_setup_writes :
    replyOf (after .writeSetup (asking line 0x10 [9, 1, 0])) = [2, 8] ∧
      replyOf (after .writeSetup (asking line 0x10 [8, 2, 0, 1])) = [3, 8] ∧
      replyOf (after .writeSetup (asking line 0x10 [3, 1, 63])) = [0] := by decide +kernel

/-! ## Witnesses: states that meet the hypotheses of the statements -/

/-- A running part with one can on the conveyor and one command waiting. -/
def busy : State := { tracking [can .weighing] 41030 with pending := [.portFree] }

theorem busy_steps : step busy = .next { busy with pending := [] } := by rfl

theorem witness_CapacitiesKept : busy.withinCapacity ∧ ∃ t, step busy = .next t :=
  ⟨by unfold State.withinCapacity; decide +kernel, _, busy_steps⟩

/-- `State.hasTaken` as a test. -/
theorem hasTaken_test (s : State) (e : Entry) (p : Point) : s.hasTaken e p ↔
    ((s.pointOffset e p).any fun o => decide (o.toNat ≤ (s.ctr.position - e.q).toNat)) = true ∧
      ({ tag := e.tag, point := p } : PointDue) ∉ s.ctr.pointsDue := by
  unfold State.hasTaken
  cases s.pointOffset e p <;> simp

/-- A rejected can past its decision point, before a can on its way, and one command waiting. -/
def ordered : State :=
  let s := tracking [{ can .decided with decision := some .reject },
    { can .enRoute with tag := 0x0101, expectedPos := some 42500 }] 42000
  { s with
    ctr := { s.ctr with generations := Vector.replicate 256 2 }
    gtc := { s.gtc with rejects := [{ tag := 0x0100, fire := 42410 }] }
    pending := [.portFree] }

theorem ordered_cans : ordered.cansInOrder := by
  unfold State.cansInOrder State.positionsFit State.stageFits
  simp only [hasTaken_test]
  refine ⟨fun _ => ⟨by decide +kernel, by decide +kernel, by decide +kernel, fun _ => by decide +kernel, ?_⟩,
    ?_, ?_, by decide +kernel, by decide +kernel, by decide +kernel, by decide +kernel, by decide +kernel, ?_,
    by decide +kernel, by decide +kernel⟩
  · intro k; cases k <;> decide +kernel
  · intro k; cases k <;> decide +kernel
  · intro q h; exact nomatch (show q ∈ [] from h)
  · intro r h; exact nomatch (show r ∈ [] from h)

theorem ordered_books : ordered.booksAgree := by
  refine ⟨by decide, by decide +kernel, fun k => by cases k <;> decide +kernel,
    fun k => by cases k <;> decide +kernel, by decide, by decide, fun v k h _ => ?_⟩
  exact nomatch (show (none : Option Service) = some v from h)

theorem witness_StoppedStaysEmpty :
    (({ base with pending := [.portFree] } : State).stoppedIsEmpty ∧ base.ctr.run = .stopped ∧
      ∃ t, step { base with pending := [.portFree] } = .next t) ∧
    (ordered.stoppedIsEmpty ∧ ordered.booksAgree ∧ ordered.recipesSound ∧ ordered.cansInOrder ∧
      ordered.tagsSpent ∧ ordered.arrivalsFresh ∧ ∃ t, step ordered = .next t) ∧
    (let s := { ordered with ctr := { ordered.ctr with infeedDue := [41990, 42000, 42000] } };
      s.arrivalsFresh ∧ ∃ t, step s = .next t) ∧
    ∃ t, exec .portFree ordered = .next t ∧ ∃ x ∈ ordered.ctr.queue, ∃ y ∈ t.ctr.queue,
      y.tag = x.tag ∧ x.stage = .decided :=
  ⟨⟨by unfold State.stoppedIsEmpty; decide +kernel, rfl, _, rfl⟩,
    ⟨fun h => (nomatch (show RunState.running = .stopped from h)), ordered_books,
      fun k => by cases k <;> decide +kernel, ordered_cans, by unfold State.tagsSpent; decide +kernel,
      by unfold State.arrivalsFresh; decide +kernel, _, rfl⟩,
    ⟨by unfold State.arrivalsFresh; decide +kernel, _, rfl⟩, _, rfl, _, List.mem_cons_self, _, List.mem_cons_self, rfl, rfl⟩

theorem books_of_one_can : (tracking [can .weighing] 41030).booksAgree := by
  refine ⟨by decide, by decide +kernel, fun k => by cases k <;> decide +kernel,
    fun k => by cases k <;> decide +kernel, by decide, by decide, fun v k h _ => ?_⟩
  have h' : (none : Option Service) = some v := h
  cases h'

theorem witness_RecipeBooksKept : (busy.booksAgree ∧ ∃ t, step busy = .next t) ∧
    ordered.tagsSpent ∧ ordered.ctr.queue.length = 2 ∧ ∃ t, step ordered = .next t :=
  ⟨⟨books_of_one_can, _, busy_steps⟩, by unfold State.tagsSpent; decide +kernel, rfl, _, rfl⟩

theorem witness_OnlySoundRecipesRun : busy.recipesSound ∧ ∃ t, step busy = .next t :=
  ⟨fun k => by cases k <;> decide +kernel, _, busy_steps⟩

theorem witness_SetupStaysInRange : busy.setup.sound ∧ ∃ t, step busy = .next t :=
  ⟨by unfold SetupImage.sound; decide +kernel, _, busy_steps⟩

theorem witness_TrimsStayWithinLimit : busy.trimsWithin ∧ busy.activeSlot = some .s0 ∧
    ∃ t, step busy = .next t :=
  ⟨⟨by decide, fun k => by cases k <;> decide +kernel, by decide +kernel, by decide⟩, by decide, _,
    busy_steps⟩

theorem witness_OwnedStateChangesOnlyByItsCommands :
    (∃ t, exec .portFree busy = .next t) ∧ Instr.portFree ∉ [Instr.powerOnReset, .pinReset, .transmissionEnd] :=
  ⟨⟨_, rfl⟩, by decide⟩

/-- A part whose store is being read, with an address. -/
def reading (address : BitVec 6) : State :=
  { State.reset with sup := { State.reset.sup with phase := .readingStore, address := address } }

theorem witness_AssertedResetLeavesResetValues :
    (Instr.powerOnReset = .powerOnReset ∧ ResetCause.powerOn = .powerOn) ∧
    busy.mga.service = none ∧
    (let v : Service :=
      { request := { source := 1, code := 0x22, tag := 7, args := [0] }, operation := .verify .s0 };
      ({ busy with mga := { busy.mga with service := some v } } : State).mga.service = some v ∧
        v.operation = .verify .s0) := by decide

theorem witness_ReleaseLatchesStraps :
    (State.reset.sup.phase = .asserted ∧ State.reset.sup.resetCause = .powerOn) ∧
      ((after .pinReset busy).sup.phase = .asserted ∧ (after .pinReset busy).sup.resetCause = .pin) := by
  decide

theorem witness_CalibrationReadTakesCopies :
    ∀ n ∈ [0, 1, 62, 63], let a := BitVec.ofNat 6 n
      (reading a).sup.phase = .readingStore ∧
      (reading a).wge.zeroState = .tracking ∧ (reading a).sup.address = a := by decide

theorem witness_StartUpEndsWithHello :
    ∀ n ∈ [1, 62], let s := after .calibrationRead (reading (BitVec.ofNat 6 n))
      s.sup.phase = .endingBypass ∧ 1 ≤ s.sup.address.toNat ∧ s.sup.address.toNat ≤ 62 ∧
      s.lif = Lif.reset ∧ s.mga = Mga.reset ∧ s.setup = SetupImage.defaults := by decide +kernel

/-- The line with a reverse debt. -/
def owing (debt : Nat) : State := { line with ctr := { line.ctr with debt := debt } }

theorem witness_EncoderStepsKeepReverseDebt :
    (∀ d ∈ [0, 1, 4094, 4095], (owing d).sup.phase = .running ∧ (owing d).nothingOutstanding) ∧
      (line.pins.encA, line.pins.encB, true, false) ∈ forwardChanges ∧
      (false, true, line.pins.encA, line.pins.encB) ∈ forwardChanges ∧
      line.ctr.run = .running ∧ base.ctr.run = .stopped := by
  unfold State.nothingOutstanding; decide +kernel

/-- A rejected can whose gate point is due. -/
def gateDue : State :=
  let s := atDue { can .decided with decision := some .reject } .gate 42410
  { s with gtc := { s.gtc with rejects := [{ tag := 0x0100, fire := 42410 }] } }

theorem witness_EncoderStepsKeepReverseDebt_first :
    (tied.sup.phase = .running ∧ tied.expired ≠ none ∧ tied.firstOutstanding = some .infeedArrival ∧
      true ≠ tied.pins.encA) ∧
    gateDue.booksAgree ∧ gateDue.cansInOrder ∧ gateDue.firstOutstanding = some (.gatePoint 0x0100) := by
  refine ⟨by decide +kernel, ⟨by decide, by decide +kernel, fun k => by cases k <;> decide +kernel,
    fun k => by cases k <;> decide +kernel, by decide +kernel, by decide +kernel, fun v k h _ =>
      (nomatch (show (none : Option Service) = some v from h))⟩, ?_, by decide +kernel⟩
  unfold State.cansInOrder State.positionsFit State.stageFits
  simp only [hasTaken_test]
  refine ⟨fun _ => ⟨by decide +kernel, by decide +kernel, by decide +kernel, fun _ => by decide +kernel, ?_⟩,
    ?_, ?_, by decide +kernel, by decide +kernel, by decide +kernel, by decide +kernel, by decide +kernel, ?_,
    by decide +kernel, by decide +kernel⟩
  · intro k; cases k <;> decide +kernel
  · intro k; cases k <;> decide +kernel
  · intro q h; exact nomatch (show q ∈ [] from h)
  · intro r h; exact nomatch (show r ∈ [] from h)

theorem witness_ForwardStepReachesPosition :
    busy.sup.phase = .running ∧ busy.nothingOutstanding ∧ busy.ctr.debt = 0 ∧
      (busy.pins.encA, busy.pins.encB, true, false) ∈ forwardChanges ∧
      (ordered.ctr.queue.map (·.tag)).Nodup := by
  unfold State.nothingOutstanding; decide +kernel

theorem witness_PointsLieWhereTheTableSays :
    (can .weighing).slot = some .s0 ∧ ({ can .weighing with slot := none } : Entry).slot = none := by decide

theorem witness_EyeChangesMoveTheMonitor :
    let p := { line with pins := { line.pins with eyeIn := true, eyeConf := true } }
    true ≠ line.pins.eyeIn ∧ p.infeedBlocked = true ∧ true ≠ line.pins.eyeConf ∧
      p.confirmBlocked = true ∧ false ≠ p.pins.eyeIn ∧ false ≠ p.pins.eyeConf ∧
      line.infeedBlocked = false ∧ line.confirmBlocked = false ∧ 0 < line.minBlock ∧
    (let s := { tied with setup := writeBytes lineSetup 10 [0, 0], ctr := { tied.ctr with infeedDue := [] } };
      s.sup.phase = .running ∧ s.minBlock = 0 ∧ s.ctr.infeed.state = .clear ∧ s.ctr.confirm.state = .clear ∧
      true ≠ s.pins.eyeIn ∧ true ≠ s.pins.eyeConf ∧
      ({ s with pins := { s.pins with eyeIn := true } } : State).infeedBlocked = true ∧
      ({ s with pins := { s.pins with eyeConf := true } } : State).confirmBlocked = true ∧
      s.ctr.infeedDue = [] ∧ s.ctr.confirmDue = [] ∧ s.expired ≠ none) := by decide +kernel

/-- The ordered line with a minimum block distance of 0. -/
def orderedAtOnce : State := { ordered with setup := writeBytes ordered.setup 10 [0, 0] }

theorem witness_EyeChangesMoveTheMonitor_in_order :
    orderedAtOnce.minBlock = 0 ∧ orderedAtOnce.booksAgree ∧ orderedAtOnce.cansInOrder := by
  refine ⟨by decide +kernel, ⟨by decide, by decide +kernel, fun k => by cases k <;> decide +kernel,
    fun k => by cases k <;> decide +kernel, by decide +kernel, by decide +kernel, fun v k h _ =>
      (nomatch (show (none : Option Service) = some v from h))⟩, ?_⟩
  unfold State.cansInOrder State.positionsFit State.stageFits
  simp only [hasTaken_test]
  refine ⟨fun _ => ⟨by decide +kernel, by decide +kernel, by decide +kernel, fun _ => by decide +kernel, ?_⟩,
    ?_, ?_, by decide +kernel, by decide +kernel, by decide +kernel, by decide +kernel, by decide +kernel, ?_,
    by decide +kernel, by decide +kernel⟩
  · intro k; cases k <;> decide +kernel
  · intro k; cases k <;> decide +kernel
  · intro q h; exact nomatch (show q ∈ [] from h)
  · intro r h; exact nomatch (show r ∈ [] from h)

/-- `s` with an infeed arrival recognised. -/
def arriving (s : State) (q : Pos) : State := { s with ctr := { s.ctr with infeedDue := [q] } }

theorem witness_ArrivalPairsOldestEnRoute :
    ∀ n ∈ [40700, 41281], let q : Pos := BitVec.ofNat 32 n
      let s := arriving (tracking [can .enRoute] 41301) q
      s.sup.phase = .running ∧ s.ctr.run = .running ∧ s.ctr.infeedDue = [q] ∧
      s.ctr.queue.find? (fun y => y.stage == .enRoute) = some (can .enRoute) ∧
      (can .enRoute).expectedPos = some 41000 ∧
      atOrAfter q (41000 - BitVec.ofNat 32 s.arrivalTolerance) = true := by decide +kernel

theorem witness_ArrivalMakesStray :
    (let s := arriving (tracking [can .enRoute] 41301) 40699;
      s.ctr.run = .running ∧ s.ctr.queue.length < 256 ∧
      (∀ e x, s.ctr.queue.find? (fun y => y.stage == .enRoute) = some e → e.expectedPos = some x →
        atOrAfter 40699 (x - BitVec.ofNat 32 s.arrivalTolerance) = false) ∧
      (∀ e, s.ctr.queue.find? (fun y => y.stage == .enRoute) = some e → e.expectedPos ≠ none)) ∧
    (let s := arriving (tracking (List.replicate 256 (can .weighing)) 41301) 41281;
      s.ctr.run = .running ∧ s.ctr.queue.length = 256 ∧
      s.ctr.queue.find? (fun y => y.stage == .enRoute) = none) := by
  refine ⟨⟨rfl, by decide, fun e x h hx => ?_, fun e h => ?_⟩, by decide +kernel⟩
  · have h' : some (can .enRoute) = some e := h
    cases h'
    have hx' : some (41000 : Pos) = some x := hx
    cases hx'
    decide +kernel
  · have h' : some (can .enRoute) = some e := h
    cases h'
    decide

theorem witness_ArrivalsWhileStoppedAreOnlyCounted :
    let s := { base with ctr := { base.ctr with infeedDue := [5], confirmDue := [6] } }
    s.sup.phase = .running ∧ s.ctr.run = .stopped ∧ s.ctr.infeedDue = [5] ∧ s.ctr.confirmDue = [6] := by
  decide

theorem witness_NewEntryTakesLowestFreeIndex :
    (tracking (List.replicate 255 (can .weighing)) 0).ctr.queue.length < 256 := by decide +kernel

theorem witness_GoneByPointsComeInOrder :
    (tracking [can .weighing] 41310).entry (can .weighing).tag = some (can .weighing) ∧
      Point.readTrigger ∈ (tracking [can .weighing] 41310).pointsGoneBy (can .weighing) ∧
      (atDue (can .weighing) .readTrigger 41310).announced (can .weighing) .readTrigger := by
  unfold State.announced; decide +kernel

theorem witness_SlipRunActsAtItsLimit :
    line.ctr.slipRun + 1 < line.slipLimit ∧
      ({ line with ctr := { line.ctr with slipRun := 2 } } : State).ctr.slipRun + 1 = line.slipLimit := by
  decide +kernel

theorem witness_ExpiryRetiresMissing :
    (let s := tracking [can .enRoute] 41301;
      s.sup.phase = .running ∧ s.ctr.queue.find? (fun y => y.stage == .enRoute) = some (can .enRoute) ∧
      (can .enRoute).expectedPos = some 41000 ∧ (can .enRoute).valve = some 5 ∧ 5 < s.valveCount ∧
      atOrAfter s.ctr.position (41000 + BitVec.ofNat 32 s.arrivalTolerance + 1) = true) ∧
    (let e := { can .enRoute with valve := none };
      (tracking [e] 41301).ctr.queue.find? (fun y => y.stage == .enRoute) = some e ∧ e.valve = none) := by
  decide +kernel

/-- One can tracked under a slot that drains. -/
def draining : State :=
  let s := tracking [can .weighing] 41030
  { s with rcs := { s.rcs with slot0 := { s.rcs.slot0 with state := .draining } } }

theorem witness_RetirementFreesTheEntry :
    busy.entry (can .weighing).tag = some (can .weighing) ∧
      draining.entry (can .weighing).tag = some (can .weighing) ∧
      (draining.rcs.slot .s0).state = .draining ∧ (draining.rcs.slot .s0).refs ≤ 1 ∧
      busy.resultEnable = true ∧ base.noticeStation ≠ 0 ∧
      ({ busy with setup := writeBytes lineSetup 3 [0] } : State).noticeStation = 0 := by decide +kernel

theorem witness_RetirementReportsTheCan :
    (∀ s ∈ [busy, draining], s.entry (can .weighing).tag = some (can .weighing) ∧ s.resultEnable = true ∧
      s.noticeStation ≠ 0 ∧ (s.slotReported .s0 .lastEntry).lif.result.length < 32) ∧
    (let s := { busy with lif := { busy.lif with result := List.replicate 32 (.own 1 0x43 [] false) } };
      32 ≤ s.lif.result.length) := by decide +kernel

theorem draining_books : draining.booksAgree := by
  refine ⟨by decide, by decide +kernel, fun k => by cases k <;> decide +kernel,
    fun k => by cases k <;> decide +kernel, by decide, by decide, fun v k h _ => ?_⟩
  exact nomatch (show (none : Option Service) = some v from h)

theorem witness_FlushEmptiesTracking :
    ∀ code : Byte, (let s := asking (tracking [can .weighing] 41030) code []
      s.begins { source := 1, code := code, tag := 7, args := [] } [] ∧ s.booksAgree ∧
        (s.rcs.slot .s0).state ≠ .draining ∧ (s.rcs.slot .s1).state ≠ .draining) ∧
      (let s := asking draining code [];
      s.begins { source := 1, code := code, tag := 7, args := [] } [] ∧ s.booksAgree ∧
        (s.rcs.slot .s0).state = .draining ∧ 0 < (s.rcs.slot .s0).refs) := by
  have busyIdle : (busy.rcs.slot .s0).state ≠ .draining ∧ (busy.rcs.slot .s1).state ≠ .draining := by decide
  have drains : (draining.rcs.slot .s0).state = .draining ∧ 0 < (draining.rcs.slot .s0).refs := by decide
  exact fun _ => ⟨⟨⟨rfl, rfl, rfl, Nat.succ_pos 3, rfl⟩, books_of_one_can, busyIdle⟩,
    ⟨rfl, rfl, rfl, Nat.succ_pos 3, rfl⟩, draining_books, drains⟩

theorem witness_SampleFlowsThroughTheFilter :
    (∀ x ∈ [SampleState.samplesOk, .sampleLoss], let s := { line with wge := { line.wge with
        records := [onList .onPlatform .opened], sampleState := x } }
      s.sup.phase = .running ∧ s.sup.holdWge = false ∧ s.wge.sampleState = x ∧
      ∃ r ∈ s.wge.records, r.platform = .onPlatform) ∧ State.reset.sup.phase ≠ .running ∧
    (let s := { line with wge := { line.wge with
        decCount := 3, history := List.replicate 7 { value := 12400, overrange := false } } };
      s.sup.phase = .running ∧ s.sup.holdWge = false ∧ s.decimation ≤ s.wge.decCount + 1 ∧
        s.wge.history.length + 1 = s.averageLength ∧ s.wge.records = []) := by
  decide +kernel

theorem witness_SampleLossEmptiesTheFilter :
    line.sup.phase = .running ∧ line.wge.gapTimer = some 5 := by decide

theorem witness_EmptyPlatformMovesTheZero :
    line.wge.emptyCount + 1 < line.emptyWindow ∧
    (∀ z ∈ [ZeroState.tracking, .lost],
      let s := { line with wge := { line.wge with emptyCount := 15, driftRun := 2, zeroState := z } };
      s.wge.emptyCount + 1 = s.emptyWindow ∧ 0 < s.zeroBand ∧ s.driftLimit ≤ s.wge.driftRun + 1 ∧
      ((12700 : Int) - s.wge.zero).natAbs ≤ s.zeroBand ∧ s.zeroBand < ((12701 : Int) - s.wge.zero).natAbs ∧
      s.wge.captureArmed = false ∧ s.wge.zeroState = z ∧
      ({ s with wge := { s.wge with captureArmed := true } } : State).wge.captureArmed = true) ∧
    line.wge.driftRun + 1 < line.driftLimit ∧
    ({ line with setup := writeBytes lineSetup 31 [0, 0] } : State).zeroBand = 0 := by decide +kernel

theorem witness_HandOffFollowsItsCases :
    (let s := { line with sup := { line.sup with holdWge := true } };
      s.sup.holdWge = true) ∧
    line.sup.holdWge = false ∧ line.wge.records.length < 4 ∧
    (let s := { line with wge := { line.wge with
        records := List.replicate 4 (onList .onPlatform .opened) } };
      s.wge.records.length = 4) := by decide

theorem witness_PlatformPointsMoveTheRecord :
    ∀ p ∈ [Point.platformEntry, .settle, .exit],
      (atDue (can .weighing) p 41410).announced (can .weighing) p ∧
      (∀ r ∈ (atDue (can .weighing) p 41410).wge.records, r.tag ≠ (can .weighing).tag) ∧
      (∃ r ∈ ({ atDue (can .weighing) p 41410 with wge := { line.wge with
        records := [onList .approaching .waiting] } } : State).wge.records, r.tag = (can .weighing).tag) := by
  unfold State.announced; decide +kernel

theorem witness_EndPointWritesAndOffersTheResult :
    let s := { atDue (can .weighing) .endOfWindow 41710 with wge := { line.wge with
      records := [onList .onPlatform .opened] } }
    s.announced (can .weighing) .endOfWindow ∧
      s.wge.records.find? (fun x => x.tag == (can .weighing).tag) = some (onList .onPlatform .opened) := by
  unfold State.announced; decide +kernel

theorem witness_WeighResultFollowsTheOrder :
    line.sup.holdWge = false ∧ line.wge.span ≠ 0 ∧ (can .weighing).slot = some .s0 ∧
    (workedWindow 3922580).noSamples = false ∧ (workedWindow 3922580).halt = false ∧
    (workedWindow 3922580).double = false ∧ (workedWindow 3922580).overrange = false ∧
    (line.image .s0).minOutputs = 8 ∧
    (workedWindow 3922710).maximum.getD 0 - (workedWindow 3922710).minimum.getD 0 =
      (line.image .s0).stabilityLimit := by decide +kernel

theorem witness_ReadTriggerAsksTheReader :
    (let s := atDue (can .weighing) .readTrigger 41310;
      s.announced (can .weighing) .readTrigger ∧ s.sup.holdCck = false ∧
      (can .weighing).slot = some .s0 ∧ (s.image .s0).word 40 = 1 ∧ s.readerStation ≠ 0 ∧
      s.lif.trigger.length < 4 ∧ s.cck.faultRun + 1 < s.readerFaultLimit) ∧
    (let s := { atDue (can .weighing) .readTrigger 41310 with
        cck := { line.cck with faultRun := 4 }, setup := writeBytes lineSetup 2 [0] };
      s.announced (can .weighing) .readTrigger ∧ s.readerStation = 0 ∧
      s.readerFaultLimit ≤ s.cck.faultRun + 1) ∧
    (let e := { can .weighing with slot := none };
      (atDue e .readTrigger 41310).announced e .readTrigger ∧ e.slot = none) := by
  unfold State.announced; decide +kernel

/-- A CODE reply frame for the can: flag, grade, text. -/
def codeFrame (flag grade : Byte) (text : List Byte) : Frame :=
  frameTo 12 5 0x51 ([1, 0, flag, grade, BitVec.ofNat 8 text.length] ++ text)

theorem witness_CodeReplyTakesEffect :
    let f := codeFrame 0 3 [0x42]
    let s := station12 (tracking [{ can .weighing with codeState := .requested }] 41600)
    s.admits f ∧ f.dest = s.ownStation ∧ f.kind ≠ 0x40 ∧ s.passMatch f = some ⟨5, 0x51, .code, false⟩ ∧
      s.sup.holdCck = false ∧
      codeReplyOf f.payload = some { tag := 0x0100, read := true, grade := some 3, text := [0x42] } ∧
      codeReplyOf (codeFrame 1 0xFF []).payload =
        some { tag := 0x0100, read := false, grade := none, text := [] } ∧
      s.cck.faultRun + 1 < s.readerFaultLimit ∧
      ({ s with cck := { s.cck with faultRun := 4 } } : State).readerFaultLimit ≤ 4 + 1 ∧
      codeReplyOf (codeFrame 2 3 []).payload = none ∧ codeReplyOf (codeFrame 0 5 []).payload = none ∧
      s.entry 0x0100 = some { can .weighing with codeState := .requested } ∧ s.entry 9 = none := by
  unfold State.admits; decide +kernel

theorem witness_CodeTextIsJudgedByThePattern :
    (∃ w ∈ recipe.elements, w.toNat / 256 = 6) ∧ (∃ d, base.cck.resolveDate 12 = .ok d) ∧
      (10 : Byte) ≠ base.cck.generation ∧ (10 : Byte) + 1 ≠ base.cck.generation ∧
      (∀ w ∈ Image.elements (Vector.replicate 256 0), w.toNat / 256 ≠ 6) :=
  ⟨⟨0x600, by decide +kernel, by decide⟩, ⟨_, rfl⟩, by decide, by decide, fun w hw => by
    rw [show Image.elements (Vector.replicate 256 0) = [] by decide +kernel] at hw
    cases hw⟩

theorem witness_DecisionFollowsThePolicy :
    (atDue (can .awaitingDecision) .decision 41910).announced (can .awaitingDecision) .decision ∧
    ∀ n < 16, let e := { can .awaitingDecision with codeState := .requested }
      let s := { atDue e .decision 41910 with
        cck := { line.cck with faultRun := n }
        gtc := { line.gtc with rejects := List.replicate 32 { tag := 0x0200, fire := 42000 } } }
      s.announced e .decision ∧ s.readerFaultLimit = 5 ∧ 32 ≤ s.gtc.rejects.length := by
  unfold State.announced; decide +kernel

theorem witness_GateFiresAtTheGatePoint :
    ∀ d ∈ [Decision.accept, .reject], let e := { can .decided with decision := some d }
      (atDue e .gate 42410).announced e .gate ∧ (atDue e .gate 42410).confirmEnable = true ∧
      ({ atDue e .gate 42410 with setup := writeBytes lineSetup 22 [0] } : State).confirmEnable = false ∧
      ({ atDue e .gate 42410 with gtc := { line.gtc with gateTimer := some 20 } } : State).gtc.gateTimer =
        some 20 := by
  unfold State.announced; decide +kernel

theorem witness_ConfirmationClosesTheCan :
    (∀ n ∈ [42660, 42960], ∀ d ∈ [Decision.accept, .reject],
      let y : Pos := BitVec.ofNat 32 n
      let e := { can .awaitingConfirm with decision := some d }
      let s := { tracking [e] 42980 with ctr := { (tracking [e] 42980).ctr with confirmDue := [y] } }
      s.sup.phase = .running ∧ s.ctr.run = .running ∧ s.confirmEnable = true ∧
      s.ctr.queue.find? (fun (x : Entry) => x.stage == .awaitingConfirm && decide
        ((y - (x.q + BitVec.ofNat 32 s.confirmOffset - BitVec.ofNat 32 s.confirmTolerance)).toNat ≤
          2 * s.confirmTolerance)) = some e) ∧
    (∀ d ∈ [Decision.accept, .reject], let e := { can .awaitingConfirm with decision := some d }
      (atDue e .confirmClose 42961).announced e .confirmClose) := by
  unfold State.announced; decide +kernel

theorem witness_EpochsConfirmTheTrim :
    (95 < 96 ∧ line.sup.holdDrg = false ∧ (0 : Byte) = (line.valve 95).epoch ∧ (1 : Byte) ≠ (line.valve 95).epoch ∧
      (line.valve 95).mismatchRun + 1 < line.resendCount) ∧
    (∀ n ∈ [2, 3], ∀ x ∈ [ValveState.awaitingConfirm, .unconfirmed],
      let s := line.onValve 0 fun v => { v with mismatchRun := 3, sends := n, state := x };
      s.resendCount ≤ (s.valve 0).mismatchRun + 1 ∧ (s.valve 0).state = x ∧ (s.valve 0).sends = n) := by
  decide +kernel

theorem witness_OffersPassTheTests :
    (can .awaitingDecision).origin = .filled ∧ (can .awaitingDecision).valve = some 5 ∧
      5 < line.valveCount ∧ line.sup.holdDrg = false ∧ (can .awaitingDecision).slot = some .s0 ∧
      line.activeSlot = some .s0 ∧ (line.valve 5).mode = .included ∧ (can .awaitingDecision).stale = false ∧
      (can .awaitingDecision).epoch = some (line.valve 5).epoch ∧
      (line.valve 5).n + 1 < (line.image .s0).batch ∧
    (let s := line.onValve 5 fun x => { x with recent := List.replicate 8 330000, n := 3 };
      (s.valve 5).recent.length ≤ 8 ∧ (s.image .s0).batch ≤ (s.valve 5).n + 1 ∧
        (s.valve 5).mode = .included ∧ (can .awaitingDecision).epoch = some (s.valve 5).epoch) := by decide +kernel

theorem witness_EvaluationMovesTheTrim :
    (let s := line.onValve 95 fun x => { x with sum := 800, n := 4 };
      (s.valve 95).erratic = false ∧
        (roundDiv (s.valve 95).sum recipe.batch).natAbs = recipe.deadBand) ∧
    (let s := line.onValve 0 fun x => { x with sum := 4240, n := 4 };
      recipe.deadBand < (roundDiv (s.valve 0).sum recipe.batch).natAbs) ∧
    (let s := line.onValve 0 fun x => { x with trim := -4500, sum := 42400, n := 4, satRun := 2 };
      (s.valve 0).erratic = false ∧ recipe.deadBand < (roundDiv (s.valve 0).sum recipe.batch).natAbs ∧
      (nextTrim recipe (s.valve 0).trim (roundDiv (s.valve 0).sum recipe.batch)).natAbs = recipe.trimLimit ∧
      recipe.satCount ≤ min 15 ((s.valve 0).satRun + 1)) := by decide +kernel

theorem witness_SupervisedInputsMoveTheirStates :
    line.sup.phase = .running ∧ line.warnCode = 470 ∧ line.haltCode = 430 ∧
      line.sup.exc = .normal ∧ (429#10).toNat < line.haltCode ∧ line.excLineStop = true ∧
      (∀ x ∈ [true, false], ({ line with sup := { line.sup with
        binFull := { active := x, timing := true } } } : State).sup.binFull =
          { active := x, timing := true }) := by decide +kernel

theorem witness_NoticesAndCausesArePlaced :
    line.lif.notice.length < 16 ∧ (1 : Byte) ≠ 0 ∧ line.hasCause .binFull = false ∧
      setupByte line.setup 3 ≠ 0 ∧ (line.addCause .binFull).hasCause .binFull = true := by decide +kernel

theorem witness_ReceiveChecksDiscardFrames :
    State.reset.bypassed = true ∧ line.bypassed = false ∧
    ¬ (([1, 2, 3, 4, 5, 6, 0, 8] : List Byte).length =
      9 + (([1, 2, 3, 4, 5, 6, 0, 8] : List Byte).getD 6 0).toNat) ∧
    (∀ f ∈ [frameTo 12 0 1 [], frameTo 12 63 1 [], frameTo 12 12 1 [], frameTo 0 1 1 [],
        Frame.withCrc { frameTo 12 1 1 [] with hop := 0 }],
      f.len.toNat ≤ 240 ∧ f.payload.length = f.len.toNat ∧ f.crc = f.computedCrc) := by decide +kernel

theorem witness_FramesAreClassified :
    (station12 line).admits (frameTo 1 3 0x60 [1]) ∧
      (station12 line).passMatch (frameTo 1 3 0x60 [1]) = none ∧
    (station12 line).admits (frameTo 12 1 0x55 [1]) ∧
    (station12 line).admits (frameTo 63 7 0x50 [1]) ∧
      (station12 line).passMatch (frameTo 63 7 0x50 [1]) = some ⟨0, 0x50, .nothing, false⟩ ∧
    (station12 line).passMatch (frameTo 63 3 0x50 [1]) = some ⟨3, 0x50, .discharge, true⟩ ∧
    (station12 line).admits (frameTo 63 5 0x51 [1]) ∧
      (station12 line).passMatch (frameTo 63 5 0x51 [1]) = some ⟨5, 0x51, .code, false⟩ ∧
    (frameTo 63 3 0x50 [5, 0, 9, 0, 0, 210]).payload = [5, 0, 9, 0, 0, 210] := by
  unfold State.admits; decide +kernel

theorem witness_DischargeMakesAnEntry :
    let f := frameTo 12 3 0x50 [5, 0, 9, 0, 0, 210]
    (station12 line).admits f ∧ f.dest = (station12 line).ownStation ∧ f.kind ≠ 0x40 ∧
      (station12 line).passMatch f = some ⟨3, 0x50, .discharge, true⟩ ∧
      f.payload = [5, 0, 9, 0, 0, 210] ∧ line.ctr.run = .running ∧ line.ctr.queue.length < 256 := by
  unfold State.admits; decide +kernel

theorem witness_PortSendsInTheArbitersOrder :
    (line.lif.port = .free ∧ line.bypassed = false ∧ State.reset.bypassed = true) ∧
    (let f := frameTo 1 12 0x41 [];
      let s := { line with lif := { line.lif with port := .sending .reply f true true } };
      s.lif.port = .sending .reply f true true ∧ s.mga.service = none) ∧
    (let x := Queued.own 1 0x43 [] false;
      let s := { line with lif := { line.lif with port := .idleGap .reply, result := [x] } };
      s.lif.port = .idleGap .reply ∧ s.bypassed = false ∧ s.lif.queue .result = [x] ∧ s.elevation = none ∧
      ∀ e ∈ txClasses, e.ctorIdx < TxClass.result.ctorIdx → s.lif.queue e = []) := by decide +kernel

theorem witness_RequestsQueueAndRepliesGoBack :
    let f := frameTo 12 1 0x40 [1, 7]
    line.admits f ∧ f.dest = line.ownStation ∧ f.kind = 0x40 ∧ f.payload = 1 :: 7 :: [] ∧
      line.lineController = 0 ∧ line.mga.requests.length < 4 := by
  unfold State.admits; decide +kernel

/-- A request that `asking` puts at the head begins: the hypothesis of every request's statement. -/
theorem witness_requests_begin (s : State) (hp : s.sup.phase = .running) (hs : s.mga.service = none)
    (hc : s.mga.closed = false) (hl : s.lif.reply.length < 4) (code : Byte) (args : List Byte) :
    (asking s code args).begins { source := 1, code := code, tag := 7, args := args } [] :=
  ⟨hp, hs, hc, hl, rfl⟩

/-- The line meets them. -/
theorem witness_line_begins (code : Byte) (args : List Byte) :
    (asking line code args).begins { source := 1, code := code, tag := 7, args := args } [] :=
  witness_requests_begin line rfl rfl rfl (by decide) code args

theorem witness_ReadsReportTheState :
    (asking line 0x05 [95]).begins { source := 1, code := 0x05, tag := 7, args := [95] } [] ∧
      (95 : Byte).toNat ≤ 95 ∧ line.gtc.gateTimer = none ∧
      ({ line with gtc := { line.gtc with gateTimer := some 20 } } : State).gtc.gateTimer = some 20 ∧ (0 : Byte).toNat + (128 : Byte).toNat ≤ 128 ∧
      (192 : Byte).toNat + (64 : Byte).toNat ≤ 256 :=
  ⟨witness_line_begins _ _, by decide⟩

theorem witness_CountersAreClearedByGroup :
    (asking line 0x02 [8, 1]).begins { source := 1, code := 0x02, tag := 7, args := [8, 1] } [] ∧
      (8 : Byte).toNat = Block.sup.ctorIdx := ⟨witness_line_begins _ _, by decide⟩

/-- The image a run of bytes at `off` would leave, as the hypothesis of the statement says it. -/
def writes (s : State) (off : Nat) (run : List Nat) : Bool :=
  let img := writeBytes s.setup off (run.map (BitVec.ofNat 8))
  (List.range 128).all fun i => setupByte img i == if off ≤ i ∧ i < off + run.length
    then (run.map (BitVec.ofNat 8)).getD (i - off) 0 else setupByte s.setup i

/-- A run that is written while RUNNING, runs that R170's tests refuse, and runs that change an eye's polarity, a
readiness input's polarity or the minimum block distance while STOPPED. -/
theorem witness_SetupWritesPassTheTests :
    (∀ args : List Byte, (asking line 0x10 args).begins { source := 1, code := 0x10, tag := 7, args := args } [] ∧
      (asking base 0x10 args).begins { source := 1, code := 0x10, tag := 7, args := args } []) ∧
    ((∀ x ∈ [(3, [63]), (9, [0]), (8, [0, 1]), (3, [64]), (38, [1, 214])], writes line x.1 x.2 = true) ∧
      (∀ x ∈ [(12, [1]), (42, [1]), (10, [0, 0]), (51, [1])], writes base x.1 x.2 = true)) ∧
    (let touched := fun (lo hi : Nat) (f : SetupField) => decide (f.offset < hi) && decide (lo < f.offset + f.size);
      let cut := fun (i : Nat) (f : SetupField) => decide (f.offset < i) && decide (i < f.offset + f.size);
      setupFields.find? (fun f => cut 3 f || cut 4 f) = none ∧
      setupFields.find? (fun f => touched 3 4 f && !f.live) = none ∧
      setupFields.find? (fun f => touched 3 4 f && !f.admits (setupNum (writeBytes line.setup 3 [63]) f.offset f.size)) =
        none ∧
      (setupFields.find? (fun f => cut 9 f || cut 10 f)).map (·.offset) = some 8 ∧
      (setupFields.find? fun f => touched 8 10 f && !f.live).map (·.offset) = some 8 ∧
      (setupFields.find? fun f => touched 3 4 f &&
        !f.admits (setupNum (writeBytes line.setup 3 [64]) f.offset f.size)).map (·.offset) = some 3 ∧
      setupNum (writeBytes line.setup 38 [1, 214]) 38 2 = setupNum line.setup 36 2 ∧
      setupFields.find? (fun f => cut 12 f || cut 13 f) = none ∧ base.ctr.run = .stopped) :=
  ⟨fun _ => ⟨witness_line_begins _ _, witness_requests_begin base rfl rfl rfl (by decide) _ _⟩, by decide +kernel,
    by decide +kernel⟩

theorem witness_RecipeRequestsMoveTheSlot :
    (asking (withRecipe .loading) 0x22 [0]).begins
        { source := 1, code := 0x22, tag := 7, args := [0] } [] ∧
      ((withRecipe .loading).rcs.slot .s0).state = .loading ∧
      ((withRecipe .active).rcs.slot .s0).state = .active ∧
      (let s := withRecipe .verifying;
      (imageFault (s.image .s0)).or (s.conflict (s.image .s0)) = none) ∧
      (let v : Service := { request := { source := 1, code := 0x22, tag := 7, args := [0] },
                            operation := .verify .s0 };
      ({ withRecipe .verifying with mga := { base.mga with service := some v } } : State).mga.service =
        some v) :=
  ⟨witness_requests_begin _ rfl rfl rfl (by decide) _ _, by decide +kernel⟩

theorem witness_ChangeoverMovesBothSlots :
    (asking (withRecipe .verified) 0x24 [0]).begins
        { source := 1, code := 0x24, tag := 7, args := [0] } [] ∧
      (let s := withRecipe .verified;
      (s.rcs.slot .s0).state = .verified ∧ s.rcs.slot0.state ≠ .draining ∧ s.rcs.slot1.state ≠ .draining ∧
      (s.image .s0).endOffset < s.decisionOffset ∧
      (s.image .s0).h2 + (s.image .s0).tare ≤ s.wge.capacity) ∧
      line.activeSlot = some .s0 ∧
      (let s := { line with rcs := { line.rcs with slot1 := { line.rcs.slot0 with state := .verified } } };
      (s.rcs.slot .s1).state = .verified ∧ (s.rcs.slot .s0).state = .active ∧ (s.rcs.slot .s0).refs = 0 ∧
      (s.image .s1).endOffset < s.decisionOffset) :=
  ⟨witness_requests_begin _ rfl rfl rfl (by decide) _ _, by decide +kernel⟩

theorem witness_OperatingRequestsTakeEffect :
    (asking (withRecipe .active) 0x30 []).begins { source := 1, code := 0x30, tag := 7, args := [] } [] ∧
      (let s := withRecipe .active;
      s.ctr.run = .stopped ∧ s.actuatorLead < s.gatePosition ∧ s.readOffset < s.decisionOffset ∧
      s.decisionOffset + s.actuatorLead < s.gatePosition ∧
      s.gatePosition + s.confirmTolerance < s.confirmOffset ∧
      (s.image .s0).endOffset < s.decisionOffset) ∧
      (23 : Byte).toNat < line.valveCount ∧ line.valveCount ≤ (24 : Byte).toNat :=
  ⟨witness_requests_begin _ rfl rfl rfl (by decide) _ _, by decide +kernel⟩

theorem witness_SystemRequestsTakeEffect :
    (asking line 0x00 []).begins { source := 1, code := 0x00, tag := 7, args := [] } [] ∧
      (0x00 : Byte) ∉ requestCodes ∧
      (1 : Byte).toNat * 256 + (255 : Byte).toNat < 512 ∧ (62 : Byte).toNat ≤ 62 ∧
      (Instr.readValve, (0x05 : Byte), 1, false) ∈ requestForms ∧
      (asking line 0x05 [96]).begins { source := 1, code := 0x05, tag := 7, args := [96] } [] ∧
      outOfRange .readValve [96] ∧ ([] : List Byte).length < 1 ∧
    (let s := asking { line with sup := { line.sup with
        lineStop := 0x0A0, binFull := { active := true, timing := false } } } 0x40 [0, 0xFF];
      s.begins { source := 1, code := 0x40, tag := 7, args := [0, 0xFF] } [] ∧
        s.hasCause .binFull = true ∧ s.levelHolds .binFull = true ∧
        s.hasCause .readerFault = true ∧ s.levelHolds .readerFault = false) :=
  ⟨witness_line_begins _ _, by decide, by decide, by decide, by decide, witness_line_begins _ _,
    by unfold outOfRange; decide, by decide, witness_requests_begin _ rfl rfl rfl (by decide) _ _,
    by decide +kernel⟩

theorem witness_HoldsAndReleasesTakeEffect :
    (asking line 0x41 [5]).begins { source := 1, code := 0x41, tag := 7, args := [5] } [] ∧
      line.sup.holdWge = false ∧ line.sup.holdCck = false ∧ line.sup.holdDrg = false ∧
    (let s := { line with sup := { line.sup with holdDrg := true } };
      (asking s 0x42 [5]).begins { source := 1, code := 0x42, tag := 7, args := [5] } [] ∧
        (asking s 0x42 [5]).sup.holdDrg = true) ∧
    ∀ b : Byte, let s := { tracking [{ can .weighing with codeState := .requested }] 41030 with
        wge := { line.wge with records := [onList .onPlatform .opened] } };
      (asking s 0x41 [b]).begins { source := 1, code := 0x41, tag := 7, args := [b] } [] ∧
        s.sup.holdWge = false ∧ s.sup.holdCck = false ∧
        (s.wge.records.filter fun (o : Occupancy) => o.window != .closed).length = 1 ∧
        (s.ctr.queue.filter fun (e : Entry) => e.codeState == .requested).length = 1 :=
  ⟨witness_line_begins _ _, rfl, rfl, rfl, ⟨witness_requests_begin _ rfl rfl rfl (by decide) _ _, rfl⟩,
    fun _ => ⟨witness_requests_begin _ rfl rfl rfl (by decide) _ _, rfl, rfl, by decide +kernel,
      by decide +kernel⟩⟩

theorem witness_StoreWritesGoThroughTheAudit :
    (∀ (code : Byte) (args : List Byte),
      (asking base code args).begins { source := 1, code := code, tag := 7, args := args } []) ∧
    base.sup.calwe = true ∧ base.calState ≠ .locked ∧ base.ctr.run = .stopped ∧
    (16777215 < 16777216 ∧ 16777216 < 2 ^ 32) ∧
    (∀ z ∈ [ZeroState.tracking, .lost], ∀ i < 3,
      let c : CalRecord := { span := 1, capacity := 1000, zero := 0, locked := i = 1 }
      let v : Service := { request := { source := 1, code := 0x48, tag := 7, args := [] },
                           operation := [Operation.calWrite c, .calLock c, .calClear c].getD i (.calWrite c) }
      let s := { base with mga := { base.mga with service := some v }, wge := { base.wge with zeroState := z } }
      s.mga.service = some v ∧ s.wge.zeroState = z) :=
  ⟨fun _ _ => witness_requests_begin _ rfl rfl rfl (by decide) _ _, by decide +kernel⟩

end Sys2Proof.Tests
end

section
/-!
What most operations leave alone. `SameCans s t`: between `s` and `t` only things differ that no can, point, record or
slot depends on: frames, counters, timers, results written into entries. Every operation on the side of the cans'
way is shown to be of this kind once.
-/

namespace Sys2Proof.Machine

/-- An entry without the results written into it: what places it, what it was made with, and its decision. -/
def Entry.core (e : Entry) : Entry :=
  { e with weigh := none, codeState := .notRequested, code := none, unfired := false, offered := false, exit := none }

/-- An occupancy record without its sums: its tag and its window. -/
def Occupancy.core (r : Occupancy) : Tag × WindowState := (r.tag, r.window)

/-- From `s` to `t` the cans, their records, their points and the slots stay as they are, and no queue or list
outgrows its capacity. -/
structure SameCans (s t : State) : Prop where
  pending : t.pending = s.pending
  pins : t.pins = s.pins
  setup : t.setup = s.setup
  freeCount : t.freeCount = s.freeCount
  rcs : t.rcs = s.rcs
  ctr : t.ctr = { s.ctr with queue := t.ctr.queue, slipRun := t.ctr.slipRun }
  queue : t.ctr.queue.map Entry.core = s.ctr.queue.map Entry.core
  phase : t.sup.phase = s.sup.phase
  requests : t.mga.requests = s.mga.requests
  service : t.mga.service = s.mga.service
  records : t.wge.records.map Occupancy.core = s.wge.records.map Occupancy.core
  rejects : t.gtc.rejects = s.gtc.rejects
  history : t.wge.history.length ≤ max s.wge.history.length s.averageLength
  queues : ∀ c, (t.lif.queue c).length ≤ max (s.lif.queue c).length c.capacity
  reply : t.lif.reply.length ≤ s.lif.reply.length
  recent : ∀ v < 96, (s.valve v).recent.length ≤ 8 → (t.valve v).recent.length ≤ 8

theorem SameCans.refl (s : State) : SameCans s s :=
  ⟨rfl, rfl, rfl, rfl, rfl, rfl, rfl, rfl, rfl, rfl, rfl, rfl, le_max_left _ _, fun _ => le_max_left _ _, le_rfl,
    fun _ _ h => h⟩

theorem SameCans.averageLength {s t : State} (h : SameCans s t) : t.averageLength = s.averageLength := by
  rw [State.averageLength, h.setup, State.averageLength]

theorem SameCans.trans {s t u : State} (h : SameCans s t) (g : SameCans t u) : SameCans s u where
  pending := g.pending.trans h.pending
  pins := g.pins.trans h.pins
  setup := g.setup.trans h.setup
  freeCount := g.freeCount.trans h.freeCount
  rcs := g.rcs.trans h.rcs
  ctr := by rw [g.ctr, h.ctr]
  queue := g.queue.trans h.queue
  phase := g.phase.trans h.phase
  requests := g.requests.trans h.requests
  service := g.service.trans h.service
  records := g.records.trans h.records
  rejects := g.rejects.trans h.rejects
  history := by
    have := g.history
    rw [h.averageLength] at this
    exact this.trans (max_le h.history (le_max_right _ _))
  queues c := (g.queues c).trans (max_le (h.queues c) (le_max_right _ _))
  reply := g.reply.trans h.reply
  recent v hv hs := g.recent v hv (h.recent v hv hs)

theorem joinRecent_length {recent : List Int} (net : Int) (hl : recent.length ≤ 8) :
    (joinRecent recent net).length ≤ 8 := by
  unfold joinRecent
  split <;> simp <;> omega

namespace SameCans

variable {s t : State} (h : SameCans s t)
include h

/-! ## One block changed -/

theorem onSup (f : Sup → Sup) (hf : (f t.sup).phase = t.sup.phase) : SameCans s (t.onSup f) :=
  h.trans { SameCans.refl t with phase := hf }

theorem onCck (f : Cck → Cck) : SameCans s (t.onCck f) := h.trans { SameCans.refl t with }

theorem onCounters (f : Vector Count 127 → Vector Count 127) : SameCans s (t.onCounters f) :=
  h.trans { SameCans.refl t with }

theorem bump (c : Counter) : SameCans s (t.bump c) := h.onCounters _

theorem onMga (f : Mga → Mga) (hr : (f t.mga).requests = t.mga.requests) (hs : (f t.mga).service = t.mga.service) :
    SameCans s (t.onMga f) :=
  h.trans { SameCans.refl t with requests := hr, service := hs }

theorem onGtc (f : Gtc → Gtc) (hf : (f t.gtc).rejects = t.gtc.rejects) : SameCans s (t.onGtc f) :=
  h.trans { SameCans.refl t with rejects := hf }

theorem onWge (f : Wge → Wge) (hr : (f t.wge).records.map Occupancy.core = t.wge.records.map Occupancy.core)
    (hh : (f t.wge).history.length ≤ max t.wge.history.length t.averageLength) : SameCans s (t.onWge f) :=
  h.trans { SameCans.refl t with records := hr, history := hh }

/-- The occupancy list and the history stay: the rest of the Weigh Engine is no can's. -/
theorem onWge_rest (f : Wge → Wge) (hr : (f t.wge).records = t.wge.records)
    (hh : (f t.wge).history = t.wge.history) : SameCans s (t.onWge f) :=
  h.onWge f (by rw [hr]) (by rw [hh]; exact le_max_left _ _)

theorem onLif (f : Lif → Lif) (hq : ∀ c, ((f t.lif).queue c).length ≤ (t.lif.queue c).length) :
    SameCans s (t.onLif f) :=
  h.trans { SameCans.refl t with queues := fun c => (hq c).trans (le_max_left _ _), reply := hq .reply }

theorem onDrg (f : Drg → Drg)
    (hf : ∀ v < 96, (t.valve v).recent.length ≤ 8 → ((t.onDrg f).valve v).recent.length ≤ 8) :
    SameCans s (t.onDrg f) :=
  h.trans { SameCans.refl t with recent := hf }

theorem onValve (v : Nat) (f : Valve → Valve)
    (hf : (t.valve v).recent.length ≤ 8 → (f (t.valve v)).recent.length ≤ 8) : SameCans s (t.onValve v f) := by
  refine h.onDrg _ fun i hi hr => ?_
  change ((t.onValve v f).valve i).recent.length ≤ 8
  rw [State.onValve_valve]
  split
  · rename_i hiv
    rw [hiv.1] at hr
    exact hf hr
  · exact hr

/-- A valve record changed but for its recent nets. -/
theorem onValve_rest (v : Nat) (f : Valve → Valve) (hf : (f (t.valve v)).recent = (t.valve v).recent) :
    SameCans s (t.onValve v f) :=
  h.onValve v f fun hr => by rwa [hf]

theorem onValves (f : Nat → Valve → Valve)
    (hf : ∀ i x, x.recent.length ≤ 8 → (f i x).recent.length ≤ 8) : SameCans s (t.onValves f) := by
  refine h.onDrg _ fun i hi hr => ?_
  change ((t.onValves f).valve i).recent.length ≤ 8
  rw [State.onValves_valve _ _ hi]
  exact hf i _ hr

theorem slipRun (n : Nat) : SameCans s (t.onCtr fun c => { c with slipRun := n }) :=
  h.trans { SameCans.refl t with ctr := rfl }

/-- Results are written into an entry. -/
theorem onEntry (tag : Tag) (f : Entry → Entry) (hf : ∀ e, (f e).core = e.core) : SameCans s (t.onEntry tag f) :=
  h.trans { SameCans.refl t with
    ctr := rfl
    queue := by
      simp only [State.onEntry, State.onCtr, List.map_map]
      refine List.map_congr_left fun e _ => ?_
      simp only [Function.comp]
      split
      · exact hf e
      · rfl }

/-! ## The transmit port, notices and causes -/

theorem startSending (c : TxClass) : SameCans s (t.startSending c) := by
  unfold State.startSending
  split
  · exact h
  · rename_i x rest hq
    dsimp only
    have short : ∀ (l' : Lif → Lif), (∀ d, ((l' t.lif).queue d) = if d = c then rest else t.lif.queue d) →
        SameCans s (t.onLif l') := by
      intro l' hl
      refine h.onLif l' fun d => ?_
      rw [hl]
      split
      · rename_i hd
        rw [hd, hq, List.length_cons]
        exact Nat.le_succ _
      · exact le_rfl
    split <;> refine short _ fun d => ?_ <;> cases c <;> cases d <;> rfl

theorem arbitrate : SameCans s t.arbitrate := by
  unfold State.arbitrate
  split
  · exact h
  · split
    · exact h
    · exact h.startSending _

theorem join {c : TxClass} (hc : c ≠ .reply) (x : Queued) (hroom : t.queueFull c = false) :
    SameCans s (t.join c x) := by
  have hlt : (t.lif.queue c).length < c.capacity := by simpa [State.queueFull] using hroom
  have hq : ∀ d, ((t.lif.setQueue c (t.lif.queue c ++ [x])).queue d).length =
      if d = c then (t.lif.queue c).length + 1 else (t.lif.queue d).length := by
    intro d
    cases c <;> cases d <;> simp [Lif.setQueue, Lif.queue]
  have hjoin : SameCans t (t.onLif fun l => l.setQueue c (l.queue c ++ [x])) :=
    { SameCans.refl t with queues := fun d => ?_, reply := ?_ }
  · exact (h.trans hjoin).arbitrate
  · rw [State.onLif_lif, hq]
    split
    · rename_i hd
      subst hd
      omega
    · exact le_max_left _ _
  · have := hq .reply
    rw [if_neg hc.symm] at this
    exact this.le

theorem placeNotice (d : Byte) (n : Notice) : SameCans s (t.placeNotice d n) := by
  unfold State.placeNotice
  split
  · exact h.bump _
  · split
    · exact (h.onMga _ rfl rfl).bump _
    · rename_i hroom
      exact ((h.onMga _ rfl rfl).join (by decide) _
        (show t.queueFull .notice = false by simpa using hroom)).bump _

theorem notify (n : Notice) : SameCans s (t.notify n) := h.placeNotice _ n

theorem addCause (c : LineStopCause) : SameCans s (t.addCause c) := by
  unfold State.addCause
  split
  · exact h
  · exact ((h.onSup _ rfl).notify _).bump _

theorem raiseSlip : SameCans s t.raiseSlip := by
  unfold State.raiseSlip
  split
  · exact (((h.slipRun 0).notify _).addCause _).bump _
  · exact h.slipRun _

theorem sendCanResult (e : Entry) : SameCans s (t.sendCanResult e) := by
  unfold State.sendCanResult
  split
  · exact h
  · split
    · exact h.bump _
    · dsimp only
      split
      · exact (h.onGtc _ rfl).bump _
      · rename_i hroom
        exact ((h.onGtc _ rfl).join (by decide) _
          (show t.queueFull .result = false from Bool.eq_false_iff.mpr hroom)).bump _

theorem noteWait : SameCans s t.noteWait := by
  unfold State.noteWait
  split
  · exact (h.onMga _ rfl rfl).bump _
  · exact h

/-! ## The Dose Regulator -/

theorem toTrim (c : Counter) (x : Queued) :
    SameCans s (if t.queueFull .trim then t.bump .trimOverflow
      else if t.fillerStation = 0 then t.bump .trimNoStation else (t.join .trim x).bump c) := by
  split
  · exact h.bump _
  · rename_i hroom
    split
    · exact h.bump _
    · exact (h.join (by decide) _ (by simpa using hroom)).bump _

theorem sendTrim (v : Nat) : SameCans s (t.sendTrim v) := h.toTrim _ _

theorem sendTrimClear (id : Nat) : SameCans s (t.sendTrimClear id) := h.toTrim _ _

theorem alertWith (n : Notice) : SameCans s (t.alertWith n) := by
  unfold State.alertWith
  split
  · exact (h.notify n).bump _
  · exact h.notify n

theorem alert (v : Nat) (x : AlertReason) : SameCans s (t.alert v x) := h.alertWith _

theorem epochMatch (v : Nat) : SameCans s (t.epochMatch v) :=
  (h.onValve_rest v _ (by split <;> rfl)).bump _

theorem mismatchLimit (v : Nat) : SameCans s (t.mismatchLimit v) := by
  unfold State.mismatchLimit
  dsimp only
  split
  · exact h
  · split
    · exact ((h.sendTrim v).onValve_rest v _ rfl).bump _
    · exact (h.onValve_rest v _ rfl).alert v _

theorem epochMismatch (v : Nat) : SameCans s (t.epochMismatch v) := by
  unfold State.epochMismatch
  dsimp only
  have hrun := (h.onValve_rest v (fun x => { x with mismatchRun := (t.valve v).mismatchRun + 1 }) rfl).bump
    .epochMismatches
  split
  · exact (hrun.mismatchLimit v).onValve_rest v _ rfl
  · exact hrun

theorem takeEpoch (v : Nat) (epoch : Byte) : SameCans s (t.takeEpoch v epoch) := by
  unfold State.takeEpoch
  split
  · exact h
  · split
    · exact h.epochMatch v
    · exact h.epochMismatch v

theorem applyTrim (v : Nat) (trim : Int) : SameCans s (t.applyTrim v trim) := by
  unfold State.applyTrim
  split
  · exact h.bump _
  · exact (((h.onValve_rest v _ rfl).sendTrim v).onValve_rest v _ rfl).bump _

theorem saturation (v : Nat) (img : Image) (trim : Int) : SameCans s (t.saturation v img trim) := by
  unfold State.saturation
  split
  · dsimp only
    split
    · exact (h.onValve_rest v _ rfl).alert v _
    · exact h.onValve_rest v _ rfl
  · exact h.onValve_rest v _ rfl

theorem evaluate (v : Nat) (img : Image) : SameCans s (t.evaluate v img) := by
  unfold State.evaluate
  dsimp only
  refine SameCans.bump (SameCans.onValve_rest ?_ v _ rfl) _
  split
  · exact h.bump _
  · split
    · exact (h.onValve_rest v _ rfl).bump _
    · exact (h.applyTrim v _).saturation v img _

theorem erraticCheck (v : Nat) (img : Image) : SameCans s (t.erraticCheck v img) := by
  unfold State.erraticCheck
  dsimp only
  split
  · exact h
  · split
    · split
      · exact h
      · exact (h.onValve_rest v _ rfl).alert v _
    · exact h.onValve_rest v _ rfl

theorem takeNet (tag : Tag) (v : Nat) (img : Image) (net : Int) : SameCans s (t.takeNet tag v img net) := by
  unfold State.takeNet
  dsimp only
  have hnet := ((((h.onValve v (fun x => { x with recent := joinRecent x.recent net })
    (joinRecent_length net)).erraticCheck v img).onValve_rest v
      (fun x => { x with sum := x.sum + (net - img.target), n := x.n + 1 }) rfl).onEntry tag
        (fun e => { e with offered := true }) fun _ => rfl).bump .offersTaken
  split
  · exact hnet.evaluate v img
  · exact hnet

theorem testOffer (e : Entry) (v : Nat) (w : WeighResult) : SameCans s (t.testOffer e v w) := by
  unfold State.testOffer
  split
  · exact h.bump _
  · split
    · exact h.bump _
    · split
      · exact h.bump _
      · split
        · exact h.bump _
        · split
          · exact h.bump _
          · split
            · exact (h.onValve_rest v _ rfl).bump _
            · split
              · exact (h.onValve_rest v _ rfl).bump _
              · exact h.takeNet _ v _ _

theorem offer (e : Entry) (w : WeighResult) : SameCans s (t.offer e w) := by
  unfold State.offer
  split
  · split
    · exact h
    · refine SameCans.testOffer ?_ _ _ _
      split
      · exact h.onValve_rest _ _ rfl
      · exact h
  · exact h

theorem clearTable (id : Nat) : SameCans s (t.clearTable id) :=
  (h.onValves _ fun i x hx => by split <;> simp [Valve.cleared, hx]).sendTrimClear id

theorem holdDrgBlock : SameCans s t.holdDrgBlock := h.onValves _ fun _ _ _ => by simp [Valve.heldReset, Valve.reset]

theorem valveCountChanged (old new : Nat) : SameCans s (t.valveCountChanged old new) :=
  h.onValves _ fun i x hx => by split <;> simp [Valve.reset, hx]

theorem clearValveCounters : SameCans s t.clearValveCounters := h.onValves _ fun _ _ hx => hx

theorem countValve (v : Option Nat) (f : Valve → Valve) (hf : ∀ x, (f x).recent = x.recent) :
    SameCans s (t.countValve v f) := by
  unfold State.countValve
  split
  · exact h
  · split
    · exact h
    · exact h.onValve_rest _ _ (hf _)

/-! ## The Code Checker -/

theorem storeCode (tag : Tag) (c : CodeResult) : SameCans s (t.storeCode tag c) :=
  (h.onEntry tag (fun e => { e with codeState := .result, code := some c }) fun _ => rfl).bump _

theorem readerRun (tag : Tag) (cls : CodeClass) : SameCans s (t.readerRun tag cls) := by
  have fault : SameCans s (if t.readerFaultLimit ≤ t.cck.faultRun + 1 then
      let u := (t.onCck fun c => { c with faultRun := 0 }).notify (.readerFault tag cls)
      (if t.readerLineStop then u.addCause .readerFault else u).bump .readerFaults
    else t.onCck fun c => { c with faultRun := c.faultRun + 1 }) := by
    split
    · dsimp only
      refine SameCans.bump ?_ _
      split
      · exact ((h.onCck _).notify _).addCause _
      · exact (h.onCck _).notify _
    · exact h.onCck _
  cases cls
  case noRead => exact fault
  case noResult => exact fault
  all_goals exact h.onCck fun c => { c with faultRun := 0 }

theorem writeCode (tag : Tag) (c : CodeResult) : SameCans s (t.writeCode tag c) :=
  (h.storeCode tag c).readerRun tag _

theorem readTrigger (tag : Tag) : SameCans s (t.readTrigger tag) := by
  unfold State.readTrigger
  split
  · exact h
  · split
    · exact h.writeCode tag _
    · split
      · exact (h.writeCode tag _).bump _
      · split
        · exact (h.writeCode tag _).bump _
        · rename_i hroom
          exact ((h.join (c := .trigger) (by decide) _ (by simpa using hroom)).onEntry tag
            (fun e => { e with codeState := .requested }) fun _ => rfl).bump _

theorem closeCode (tag : Tag) : SameCans s (t.closeCode tag) := by
  unfold State.closeCode
  split
  · exact h
  · split
    · exact (h.writeCode tag _).bump _
    · exact h

theorem matchReply (r : CodeReply) : SameCans s (t.matchReply r) := by
  unfold State.matchReply
  split
  · exact h.bump _
  · split
    · split
      · exact h.writeCode _ _
      · exact h.writeCode _ _
    · exact h.bump _

theorem codeIntake (payload : List Byte) : SameCans s (t.codeIntake payload) := by
  unfold State.codeIntake
  split
  · exact h.bump _
  · split
    · exact h.bump _
    · exact (h.bump _).matchReply _

/-! ## The gate -/

theorem fireGate : SameCans s t.fireGate := by
  unfold State.fireGate
  dsimp only
  refine SameCans.onGtc ?_ _ rfl
  split
  · exact (h.bump _).bump _
  · exact h.bump _

/-! ## The Weigh Engine -/

/-- Sums of records change, and neither their tags nor their windows. -/
theorem mapRecords (f : Occupancy → Occupancy) (hf : ∀ r, (f r).core = r.core) :
    SameCans s (t.onWge fun w => { w with records := w.records.map f }) :=
  h.onWge _ (by simp only [List.map_map]; exact List.map_congr_left fun r _ => hf r) (le_max_left _ _)

theorem clearEmpty : SameCans s t.clearEmpty := h.onWge_rest _ rfl rfl

theorem discardEmpty : SameCans s t.discardEmpty := by
  unfold State.discardEmpty
  split
  · exact h.clearEmpty
  · exact h.clearEmpty.bump _

theorem notifyZero : SameCans s t.notifyZero := h.notify _

theorem captureZero (ze : Int) : SameCans s (t.captureZero ze) := by
  unfold State.captureZero
  dsimp only
  refine SameCans.bump ?_ _
  split
  · exact (h.onWge_rest _ rfl rfl).notifyZero
  · exact h.onWge_rest _ rfl rfl

theorem trackZero (diff : Int) : SameCans s (t.trackZero diff) := by
  unfold State.trackZero
  dsimp only
  refine SameCans.bump ?_ _
  split
  · exact (h.onWge_rest _ rfl rfl).notifyZero
  · exact h.onWge_rest _ rfl rfl

theorem zeroOutOfBand : SameCans s t.zeroOutOfBand := by
  unfold State.zeroOutOfBand
  dsimp only
  refine SameCans.bump ?_ _
  split
  · split
    · exact (h.onWge_rest _ rfl rfl).notifyZero
    · exact h.onWge_rest _ rfl rfl
  · exact h.onWge_rest _ rfl rfl

theorem evaluateEmpty (ze : Int) : SameCans s (t.evaluateEmpty ze) := by
  unfold State.evaluateEmpty
  dsimp only
  split
  · exact h.captureZero ze
  · split
    · exact h
    · split
      · exact h.trackZero _
      · exact h.zeroOutOfBand

theorem emptyTakes (o : Output) : SameCans s (t.emptyTakes o) := by
  unfold State.emptyTakes
  split
  · exact h.discardEmpty
  · dsimp only
    split
    · exact (h.evaluateEmpty _).clearEmpty
    · exact h.onWge_rest _ rfl rfl

theorem produce (o : Output) : SameCans s (t.produce o) := by
  have htake : SameCans s (t.onWge fun w => { w with output := some o, records := w.records.map (·.take o) }) := by
    refine h.onWge _ ?_ (le_max_left _ _)
    simp only [List.map_map]
    refine List.map_congr_left fun r _ => ?_
    simp only [Function.comp, Occupancy.take]
    split <;> rfl
  unfold State.produce
  dsimp only
  split
  · exact htake.emptyTakes o
  · exact htake

theorem joinHistory (v : FlaggedValue) : SameCans s (t.joinHistory v) := by
  unfold State.joinHistory
  dsimp only
  have hh : SameCans s (t.onWge fun w => { w with
      history := (t.wge.history ++ [v]).drop ((t.wge.history ++ [v]).length - t.averageLength) }) :=
    h.onWge _ rfl (by simp only [List.length_drop]; omega)
  split
  · exact hh.produce _
  · exact hh

theorem decimate (x : FlaggedValue) : SameCans s (t.decimate x) := by
  unfold State.decimate
  dsimp only
  split
  · exact (h.onWge_rest _ rfl rfl).joinHistory _
  · exact h.onWge_rest _ rfl rfl

theorem emptyFilter : SameCans s t.emptyFilter := h.onWge _ rfl (Nat.zero_le _)

theorem takeSample (x : FlaggedValue) : SameCans s (t.takeSample x) := by
  unfold State.takeSample
  dsimp only
  refine SameCans.decimate ?_ x
  split
  · exact ((h.onWge_rest _ rfl rfl).onWge_rest _ rfl rfl).notify _
  · exact h.onWge_rest _ rfl rfl

theorem loseSamples : SameCans s t.loseSamples := by
  unfold State.loseSamples
  dsimp only
  refine SameCans.bump (SameCans.notify (SameCans.emptyFilter (SameCans.discardEmpty ?_)) _) _
  refine h.onWge _ ?_ (le_max_left _ _)
  simp only [List.map_map]
  refine List.map_congr_left fun r _ => ?_
  simp only [Function.comp]
  split <;> rfl

theorem platformEntry (tag : Tag) : SameCans s (t.platformEntry tag) := by
  unfold State.platformEntry
  split
  · exact h
  · refine (h.mapRecords _ fun r => ?_).discardEmpty
    split
    · rfl
    · split <;> rfl

theorem takeCopies (c : CalRecord) : SameCans s (t.takeCopies c) := by
  unfold State.takeCopies
  dsimp only
  split
  · exact ((h.onWge_rest _ rfl rfl).clearEmpty).notifyZero
  · exact (h.onWge_rest _ rfl rfl).clearEmpty

/-! ## The Supervisor and the Loop Interface -/

theorem startStoreWrite : SameCans s t.startStoreWrite := (h.onSup _ rfl).bump _

theorem storeWritten (r : CalRecord) : SameCans s (t.storeWritten r) := h.onSup _ rfl

theorem notifyCal : SameCans s t.notifyCal := h.notify _

theorem sayHello : SameCans s t.sayHello := by
  unfold State.sayHello
  dsimp only
  split
  · exact h.placeNotice _ _
  · exact (h.placeNotice _ _).notify _

theorem convert (code : BitVec 10) : SameCans s (t.convert code) := by
  unfold State.convert
  dsimp only
  have hn := h.onSup (fun u => { u with
    exc := nextExc t.warnCode t.haltCode t.sup.exc code.toNat, excCode := some code }) rfl
  split
  · exact hn
  · split
    · exact ((hn.notify _).bump _).addCause _
    · exact (hn.notify _).bump _

theorem readinessChanged (i : ReadinessInput) : SameCans s (t.readinessChanged i) := by
  cases i
  · exact h.onSup (fun u => { u with binFull := _ }) rfl
  · exact h.onSup (fun u => { u with airOk := _ }) rfl

theorem conditioned (i : ReadinessInput) : SameCans s (t.conditioned i) := by
  cases i <;> (unfold State.conditioned; dsimp only; split)
  · exact h.onSup _ rfl
  · exact ((h.onSup _ rfl).addCause _).bump _
  · exact ((h.onSup _ rfl).addCause _).bump _
  · exact h.onSup _ rfl

theorem clearCause (mask : Nat) (c : LineStopCause) : SameCans s (t.clearCause mask c) := by
  unfold State.clearCause
  split
  · exact h
  · split
    · exact h.bump _
    · exact (h.onSup _ rfl).bump _

theorem setHold (b : Block) (x : Bool) : SameCans s (t.setHold b x) := by
  unfold State.setHold
  split
  · exact h.onSup _ rfl
  · exact h.onSup _ rfl
  · exact h.onSup _ rfl
  · exact h

theorem forward (f : Frame) : SameCans s (t.forward f) := by
  unfold State.forward
  split
  · exact h.bump _
  · split
    · exact h.bump _
    · rename_i hroom
      exact (h.join (by decide) _ (by simpa using hroom)).bump _

theorem clearGroup (b : Block) : SameCans s (t.clearGroup b) := by
  unfold State.clearGroup
  dsimp only
  split
  · exact SameCans.clearValveCounters (h.onCounters _)
  · exact h.onCounters _

/-- A fold of operations of this kind is of this kind. -/
theorem foldl {α : Type} (l : List α) (f : State → α → State) (hf : ∀ u a, SameCans s u → SameCans s (f u a)) :
    SameCans s (l.foldl f t) := by
  induction l generalizing t with
  | nil => exact h
  | cons a l ih => exact ih (hf t a h)

end SameCans

end Sys2Proof.Machine
end

section
/-!
What happens to a can. `Act` is one elementary change on a can's way past its points: a stage is set, a record or a
reject item comes or goes, the can leaves. What no such change touches is said once (`SameCourse`).
-/

namespace Sys2Proof.Machine

/-! ## Retirement (R7, R127, R142) -/

/-- `s` once the entry of a tag, its points and its record are gone. -/
def State.dropped (s : State) (tag : Tag) : State :=
  { s with
    ctr := { s.ctr with queue := s.ctr.queue.filter fun x => x.tag != tag,
                        pointsDue := s.ctr.pointsDue.filter fun d => d.tag != tag }
    wge := { s.wge with records := s.wge.records.filter fun r => r.tag != tag } }

/-- A slot's record once an entry that named it has gone: a DRAINING slot left without entries is VERIFIED. -/
def Slot.released (x : Slot) : Slot :=
  { x with refs := x.refs - 1, state := if x.state = .draining ∧ x.refs - 1 = 0 then .verified else x.state }

/-- `s` once the slot a retired entry names is released. -/
def State.unslot (s : State) : Option SlotId → State
  | none => s
  | some k => s.onRcs fun r => r.setSlot k (r.slot k).released

theorem State.unslot_slot (s : State) (slot : Option SlotId) (k : SlotId) :
    (s.unslot slot).rcs.slot k = if slot = some k then (s.rcs.slot k).released else s.rcs.slot k := by
  cases slot with
  | none => rfl
  | some j =>
    simp only [State.unslot, State.onRcs_rcs, Rcs.setSlot_slot_eq, Option.some.injEq]
    by_cases h : k = j
    · subst h; simp
    · have : ¬ j = k := fun g => h g.symm
      simp [h, this]

/-- A slot that goes on draining, or does not drain, only counts one entry less. -/
theorem Slot.released_counts {x : Slot} (h : ¬ (x.state = .draining ∧ x.refs - 1 = 0)) :
    x.released = { x with refs := x.refs - 1 } := by
  unfold Slot.released
  rw [if_neg h]

/-- A DRAINING slot that the last entry leaves becomes VERIFIED. -/
theorem Slot.released_retires {x : Slot} (h : x.state = .draining ∧ x.refs - 1 = 0) :
    x.released = { x with refs := x.refs - 1, state := .verified } := by
  unfold Slot.released
  rw [if_pos h]

/-- The Recipe Store's part of a retirement, but for the notice it may send. -/
theorem State.releaseSlot_sameCans (s : State) (slot : Option SlotId) (m : DrainMoment) :
    SameCans (s.unslot slot) (s.releaseSlot slot m) := by
  cases slot with
  | none => exact SameCans.refl s
  | some k =>
    simp only [State.releaseSlot, State.drainCheck, State.onRcs_rcs, Rcs.setSlot_slot]
    split <;> rename_i hd
    · have h : (s.onRcs fun r => r.setSlot k { r.slot k with refs := (r.slot k).refs - 1 }).onRcs
          (fun r => r.setSlot k { r.slot k with state := .verified }) = s.unslot (some k) := by
        simp only [State.unslot, State.onRcs, Slot.released_retires hd, Rcs.setSlot_slot]
        cases k <;> rfl
      rw [h]
      exact ((SameCans.refl _).notify _).bump _
    · have h : (s.onRcs fun r => r.setSlot k { r.slot k with refs := (r.slot k).refs - 1 }) = s.unslot (some k) := by
        simp only [State.unslot, State.onRcs, Slot.released_counts hd]
      rw [h]
      exact SameCans.refl _

theorem State.retire_absent {s : State} {tag : Tag} (h : s.entry tag = none) (out : ExitOutcome) :
    s.retire out tag = s := by
  unfold State.retire
  rw [h]

/-- A retirement: the entry is dropped, its slot released, and frames are formed. -/
theorem State.retire_sameCans {s : State} {tag : Tag} {e : Entry} (h : s.entry tag = some e) (out : ExitOutcome) :
    SameCans ((s.dropped tag).unslot e.slot) (s.retire out tag) := by
  unfold State.retire
  rw [h]
  dsimp only
  split
  · exact State.releaseSlot_sameCans (s.dropped tag) _ _
  · exact (State.releaseSlot_sameCans (s.dropped tag) _ _).sendCanResult _

theorem State.entry_some {s : State} {tag : Tag} {e : Entry} (h : s.entry tag = some e) :
    e ∈ s.ctr.queue ∧ e.tag = tag :=
  ⟨List.mem_of_find?_eq_some h, by simpa using List.find?_some h⟩

/-! ## Elementary changes -/

/-- One elementary change on the way of the cans that `T` names. -/
inductive Act (T : Tag → Prop) : State → State → Prop
  | same {s t : State} (h : SameCans s t) : Act T s t
  /-- An entry is marked; its tag and its slot stay, and it is past EN_ROUTE. -/
  | mark (s : State) (tag : Tag) (hT : T tag) (f : Entry → Entry)
      (hf : ∀ e, (f e).tag = e.tag ∧ (f e).slot = e.slot ∧ (f e).stage ≠ .enRoute) : Act T s (s.onEntry tag f)
  /-- Records go or change their windows. -/
  | records (s : State) (f : Wge → Wge) (hr : (f s.wge).records.length ≤ s.wge.records.length)
      (hh : (f s.wge).history.length ≤ s.wge.history.length) : Act T s (s.onWge f)
  /-- A can is handed to the Weigh Engine. -/
  | handed (s : State) (r : Occupancy) (hq : s.ctr.queue ≠ []) (hroom : s.wge.records.length < 4) :
      Act T s (s.onWge fun w => { w with records := w.records ++ [r] })
  /-- The reject queue changes while cans are tracked. -/
  | rejects (s : State) (xs : List RejectItem) (hx : xs.length ≤ max s.gtc.rejects.length 32)
      (hq : s.ctr.queue = [] → xs.length ≤ s.gtc.rejects.length) : Act T s (s.onGtc fun g => { g with rejects := xs })
  /-- A can leaves. -/
  | leave (s : State) (e : Entry) (he : e ∈ s.ctr.queue) (hT : T e.tag) : Act T s ((s.dropped e.tag).unslot e.slot)
  /-- Every point that is due is forgotten. -/
  | noPoints (s : State) : Act T s (s.onCtr fun c => { c with pointsDue := [] })

/-- Elementary changes one after another. -/
def Acts (T : Tag → Prop) : State → State → Prop := Relation.ReflTransGen (Act T)

/-- Every can. -/
def AnyCan (_ : Tag) : Prop := True

theorem anyCan (tag : Tag) : AnyCan tag := trivial

theorem Act.any {T : Tag → Prop} {s t : State} (h : Act T s t) : Act AnyCan s t := by
  cases h with
  | same h => exact .same h
  | mark tag hT f hf => exact .mark s tag trivial f hf
  | records f hr hh => exact .records s f hr hh
  | handed r hq hroom => exact .handed s r hq hroom
  | rejects xs hx hq => exact .rejects s xs hx hq
  | leave e he hT => exact .leave s e he trivial
  | noPoints => exact .noPoints s

/-! ## What no can touches -/

/-- From `s` to `t` the setup, the position, the eyes, what they have recognised, the run state and the requests stay;
points that are due may go, and none come; a slot may end its draining. -/
structure SameCourse (s t : State) : Prop where
  pending : t.pending = s.pending
  pins : t.pins = s.pins
  setup : t.setup = s.setup
  freeCount : t.freeCount = s.freeCount
  phase : t.sup.phase = s.sup.phase
  requests : t.mga.requests = s.mga.requests
  service : t.mga.service = s.mga.service
  reply : t.lif.reply.length ≤ s.lif.reply.length
  ctr : t.ctr = { s.ctr with
    queue := t.ctr.queue, generations := t.ctr.generations, slipRun := t.ctr.slipRun, pointsDue := t.ctr.pointsDue }
  points : ∃ stays : Tag → Bool, t.ctr.pointsDue = s.ctr.pointsDue.filter fun d => stays d.tag
  slots : ∀ k, (t.rcs.slot k).image = (s.rcs.slot k).image ∧ ((t.rcs.slot k).state = (s.rcs.slot k).state ∨
    (s.rcs.slot k).state = .draining ∧ (t.rcs.slot k).state = .verified)

theorem SameCourse.refl (s : State) : SameCourse s s :=
  ⟨rfl, rfl, rfl, rfl, rfl, rfl, rfl, le_rfl, rfl, ⟨fun _ => true, by simp⟩,
    fun _ => ⟨rfl, .inl rfl⟩⟩

theorem SameCourse.trans {s t u : State} (h : SameCourse s t) (g : SameCourse t u) : SameCourse s u where
  pending := g.pending.trans h.pending
  pins := g.pins.trans h.pins
  setup := g.setup.trans h.setup
  freeCount := g.freeCount.trans h.freeCount
  phase := g.phase.trans h.phase
  requests := g.requests.trans h.requests
  service := g.service.trans h.service
  reply := g.reply.trans h.reply
  ctr := by rw [g.ctr, h.ctr]
  points := by
    obtain ⟨p, hp⟩ := h.points
    obtain ⟨q, hq⟩ := g.points
    exact ⟨fun tag => p tag && q tag, by
      rw [hq, hp, List.filter_filter]
      exact List.filter_congr fun d _ => Bool.and_comm _ _⟩
  slots k := by
    obtain ⟨hi, hs⟩ := h.slots k
    obtain ⟨gi, gs⟩ := g.slots k
    refine ⟨gi.trans hi, ?_⟩
    rcases hs with hs | ⟨hs, hv⟩
    · rwa [hs] at gs
    · rcases gs with gs | ⟨gs, _⟩
      · exact .inr ⟨hs, gs.trans hv⟩
      · rw [hv] at gs
        cases gs

theorem Entry.core_tag {l m : List Entry} (h : l.map Entry.core = m.map Entry.core) :
    l.map (·.tag) = m.map (·.tag) := by
  have := congrArg (List.map Entry.tag) h
  rwa [List.map_map, List.map_map] at this

theorem Entry.core_slot {l m : List Entry} (h : l.map Entry.core = m.map Entry.core) :
    l.map (·.slot) = m.map (·.slot) := by
  have := congrArg (List.map Entry.slot) h
  rwa [List.map_map, List.map_map] at this

theorem SameCans.course {s t : State} (h : SameCans s t) : SameCourse s t where
  pending := h.pending
  pins := h.pins
  setup := h.setup
  freeCount := h.freeCount
  phase := h.phase
  requests := h.requests
  service := h.service
  reply := h.reply
  ctr := by rw [h.ctr]
  points := ⟨fun _ => true, by rw [h.ctr]; simp⟩
  slots k := by rw [h.rcs]; exact ⟨rfl, .inl rfl⟩

/-- Marking an entry changes no list of values that the mark leaves alone. -/
theorem State.onEntry_map {β : Type} (s : State) (tag : Tag) (f : Entry → Entry) (g : Entry → β)
    (hf : ∀ e, g (f e) = g e) : (s.onEntry tag f).ctr.queue.map g = s.ctr.queue.map g := by
  simp only [State.onEntry, State.onCtr, List.map_map]
  refine List.map_congr_left fun e _ => ?_
  simp only [Function.comp]
  split
  · exact hf e
  · rfl

theorem Slot.released_image (x : Slot) : x.released.image = x.image := rfl

theorem Slot.released_state (x : Slot) :
    x.released.state = x.state ∨ x.state = .draining ∧ x.released.state = .verified := by
  unfold Slot.released
  dsimp only
  split <;> rename_i h
  · exact .inr ⟨h.1, rfl⟩
  · exact .inl rfl

section
variable (s : State) (slot : Option SlotId)

@[simp] theorem State.unslot_pending : (s.unslot slot).pending = s.pending := by cases slot <;> rfl
@[simp] theorem State.unslot_pins : (s.unslot slot).pins = s.pins := by cases slot <;> rfl
@[simp] theorem State.unslot_setup : (s.unslot slot).setup = s.setup := by cases slot <;> rfl
@[simp] theorem State.unslot_freeCount : (s.unslot slot).freeCount = s.freeCount := by cases slot <;> rfl
@[simp] theorem State.unslot_sup : (s.unslot slot).sup = s.sup := by cases slot <;> rfl
@[simp] theorem State.unslot_mga : (s.unslot slot).mga = s.mga := by cases slot <;> rfl
@[simp] theorem State.unslot_lif : (s.unslot slot).lif = s.lif := by cases slot <;> rfl
@[simp] theorem State.unslot_ctr : (s.unslot slot).ctr = s.ctr := by cases slot <;> rfl
@[simp] theorem State.unslot_wge : (s.unslot slot).wge = s.wge := by cases slot <;> rfl
@[simp] theorem State.unslot_gtc : (s.unslot slot).gtc = s.gtc := by cases slot <;> rfl
@[simp] theorem State.unslot_drg : (s.unslot slot).drg = s.drg := by cases slot <;> rfl

end

theorem Act.course {T : Tag → Prop} {s t : State} (h : Act T s t) : SameCourse s t := by
  cases h with
  | same h => exact h.course
  | mark tag hT f hf =>
    exact { SameCourse.refl s with
      ctr := rfl
      points := ⟨fun _ => true, by simp [State.onEntry]⟩ }
  | records f hr hh => exact { SameCourse.refl s with }
  | handed r hq hroom => exact { SameCourse.refl s with }
  | rejects xs hx hq => exact { SameCourse.refl s with }
  | leave e he hT =>
    exact {
      pending := by simp [State.dropped], pins := by simp [State.dropped], setup := by simp [State.dropped]
      freeCount := by simp [State.dropped], phase := by simp [State.dropped], requests := by simp [State.dropped]
      service := by simp [State.dropped], reply := by simp [State.dropped], ctr := by simp [State.dropped]
      points := ⟨fun tag => tag != e.tag, by rw [State.unslot_ctr]; rfl⟩
      slots := fun k => by
        rw [State.unslot_slot]
        split
        · exact ⟨Slot.released_image _, Slot.released_state _⟩
        · exact ⟨rfl, .inl rfl⟩ }
  | noPoints => exact { SameCourse.refl s with ctr := rfl, points := ⟨fun _ => false, by simp⟩ }

theorem Acts.course {T : Tag → Prop} {s t : State} (h : Acts T s t) : SameCourse s t := by
  induction h with
  | refl => exact SameCourse.refl s
  | tail _ h ih => exact ih.trans h.course

/-- On a can's way tags only go, and no generation advances. -/
theorem Act.tags {T : Tag → Prop} {s t : State} (h : Act T s t) :
    (t.ctr.queue.map (·.tag)).Sublist (s.ctr.queue.map (·.tag)) ∧ t.ctr.generations = s.ctr.generations := by
  cases h with
  | same h => exact ⟨by rw [Entry.core_tag h.queue], by rw [h.ctr]⟩
  | mark tag hT f hf => exact ⟨by rw [State.onEntry_map s tag f _ fun e => (hf e).1], rfl⟩
  | leave e he hT =>
    rw [State.unslot_ctr]
    exact ⟨List.filter_sublist.map _, rfl⟩
  | _ => exact ⟨List.Sublist.refl _, rfl⟩

/-! ## Invariants under elementary changes -/

/-- The entries that name a slot, counted on the list of slots. -/
theorem State.naming_eq (s : State) (k : SlotId) :
    s.naming k = (s.ctr.queue.map (·.slot)).countP fun x => x == some k := by
  simp only [State.naming, List.countP_map]
  rfl

theorem withinCapacity_of {s t : State} (h : s.withinCapacity) (hq : t.ctr.queue.length ≤ s.ctr.queue.length)
    (hd : t.ctr.debt = s.ctr.debt) (hrec : t.wge.records.length ≤ s.wge.records.length ∨ t.wge.records.length ≤ 4)
    (hrej : t.gtc.rejects.length ≤ max s.gtc.rejects.length 32)
    (hlif : ∀ c, (t.lif.queue c).length ≤ max (s.lif.queue c).length c.capacity)
    (hreply : t.lif.reply.length ≤ s.lif.reply.length) (hreq : t.mga.requests = s.mga.requests)
    (hsv : t.mga.service = s.mga.service) (hav : t.setup = s.setup)
    (hh : t.wge.history.length ≤ max s.wge.history.length s.averageLength)
    (hv : ∀ v < 96, (s.valve v).recent.length ≤ 8 → (t.valve v).recent.length ≤ 8) : t.withinCapacity := by
  obtain ⟨h1, h2, h3, h4, h5, h6, h7, h8, h9, h10, h11, h12, h13, h14⟩ := h
  have h1' := hlif .trigger
  have h2' := hlif .forward
  have h3' := hlif .trim
  have h4' := hlif .notice
  have h5' := hlif .result
  simp only [Lif.queue, TxClass.capacity] at h1' h2' h3' h4' h5'
  refine ⟨by omega, by omega, by omega, by omega, by omega, by omega, by omega, by omega, by omega, by omega,
    by rw [hreq]; exact h11, fun hs => ?_, ?_, fun v hv96 => hv v hv96 (h14 v hv96)⟩
  · rw [hsv] at hs
    exact lt_of_le_of_lt hreply (h12 hs)
  · rw [State.averageLength, hav]
    exact hh.trans (max_le h13 le_rfl)

theorem Act.withinCapacity {T : Tag → Prop} {s t : State} (h : Act T s t) (hs : s.withinCapacity) : t.withinCapacity := by
  cases h with
  | same h =>
    refine withinCapacity_of hs ?_ (by rw [h.ctr]) (.inl ?_) (by rw [h.rejects]; exact le_max_left _ _) h.queues h.reply h.requests
      h.service h.setup h.history h.recent
    · simpa using (congrArg List.length h.queue).le
    · simpa using (congrArg List.length h.records).le
  | mark tag hT f hf =>
    have : (s.onEntry tag f).ctr.queue.length = s.ctr.queue.length := by simp [State.onEntry]
    exact withinCapacity_of hs this.le rfl (.inl le_rfl) (le_max_left _ _) (fun _ => le_max_left _ _) le_rfl rfl rfl
      rfl (le_max_left _ _) (fun _ _ h => h)
  | records f hr hh =>
    exact withinCapacity_of hs le_rfl rfl (.inl hr) (le_max_left _ _) (fun _ => le_max_left _ _) le_rfl rfl rfl rfl
      (hh.trans (le_max_left _ _)) (fun _ _ h => h)
  | handed r hq hroom =>
    exact withinCapacity_of hs le_rfl rfl (.inr (by simpa using hroom)) (le_max_left _ _) (fun _ => le_max_left _ _)
      le_rfl rfl rfl rfl (le_max_left _ _) (fun _ _ h => h)
  | rejects xs hx hq =>
    exact withinCapacity_of hs le_rfl rfl (.inl le_rfl) hx (fun _ => le_max_left _ _)
      le_rfl rfl rfl rfl (le_max_left _ _) (fun _ _ h => h)
  | leave e he hT =>
    refine withinCapacity_of hs ?_ (by simp [State.dropped]) (.inl ?_) (by simp [State.dropped])
      (fun _ => by simp [State.dropped]) (by simp [State.dropped]) (by simp [State.dropped])
      (by simp [State.dropped]) (by simp [State.dropped]) (by simp [State.dropped])
      (fun v _ h => by simpa [State.valve, State.dropped] using h)
    · simpa [State.dropped] using List.length_filter_le _ s.ctr.queue
    · simpa [State.dropped] using List.length_filter_le _ s.wge.records
  | noPoints => exact hs

theorem Act.stoppedIsEmpty {T : Tag → Prop} {s t : State} (h : Act T s t) (hs : s.stoppedIsEmpty) : t.stoppedIsEmpty := by
  intro hrun
  rw [h.course.ctr] at hrun
  obtain ⟨hq, hrej, hrec⟩ := hs hrun
  cases h with
  | same h =>
    have h1 := h.queue
    have h2 := h.records
    rw [hq, List.map_nil, List.map_eq_nil_iff] at h1
    rw [hrec, List.map_nil, List.map_eq_nil_iff] at h2
    exact ⟨h1, h.rejects.trans hrej, h2⟩
  | mark tag hT f hf => exact ⟨by simp [State.onEntry, hq], hrej, hrec⟩
  | records f hr hh =>
    rw [hrec] at hr
    exact ⟨hq, hrej, List.eq_nil_of_length_eq_zero (Nat.le_zero.mp hr)⟩
  | handed r hne hroom => exact absurd hq hne
  | rejects xs hx hne =>
    have := hne hq
    rw [hrej] at this
    exact ⟨hq, List.eq_nil_of_length_eq_zero (Nat.le_zero.mp this), hrec⟩
  | leave e he hT => rw [hq] at he; cases he
  | noPoints => exact ⟨hq, hrej, hrec⟩

theorem Act.arrivalsFresh {T : Tag → Prop} {s t : State} (h : Act T s t) (hs : s.arrivalsFresh) : t.arrivalsFresh := by
  unfold State.arrivalsFresh
  rw [h.course.ctr]
  exact hs

theorem Act.tagsSpent {T : Tag → Prop} {s t : State} (h : Act T s t) (hs : s.tagsSpent) : t.tagsSpent := by
  intro e he
  obtain ⟨htags, hgen⟩ := h.tags
  obtain ⟨x, hx, hxt⟩ := List.mem_map.mp (htags.subset (List.mem_map_of_mem he))
  rw [hgen, ← hxt]
  exact hs x hx

/-- The slots an unmarked or re-marked queue names. -/
theorem booksAgree_of {s t : State} (h : s.booksAgree) (ht : t.ctr.queue.map (·.tag) = s.ctr.queue.map (·.tag))
    (hs : t.ctr.queue.map (·.slot) = s.ctr.queue.map (·.slot)) (hr : t.rcs = s.rcs)
    (hm : t.mga.service = s.mga.service) : t.booksAgree := by
  obtain ⟨h1, h2, h3, h4, h5, h6, h7⟩ := h
  have hlen := congrArg List.length ht
  simp only [List.length_map] at hlen
  have hidx := congrArg (List.map tagIndex) ht
  simp only [List.map_map] at hidx
  refine ⟨by omega, by rwa [show (t.ctr.queue.map fun e => tagIndex e.tag) = _ from hidx], fun k => ?_, ?_, ?_, ?_, ?_⟩
  · rw [hr, State.naming_eq, hs, ← State.naming_eq]
    exact h3 k
  · rw [hr]; exact h4
  · rw [hr]; exact h5
  · rw [hr]; exact h6
  · rw [hr, hm]; exact h7

theorem countP_filter_tag {l : List Entry} {e : Entry} (he : e ∈ l)
    (hnd : (l.map fun x => tagIndex x.tag).Nodup) (p : Entry → Bool) :
    (l.filter fun x => x.tag != e.tag).countP p = l.countP p - if p e then 1 else 0 := by
  have hinj : ∀ x ∈ l, x.tag = e.tag → x = e := fun x hx ht =>
    List.inj_on_of_nodup_map hnd hx he (congrArg tagIndex ht)
  have hnd' : l.Nodup := List.Nodup.of_map _ hnd
  have hfil : (l.filter fun x => x.tag != e.tag) = l.erase e := by
    rw [hnd'.erase_eq_filter]
    refine List.filter_congr fun x hx => ?_
    by_cases h : x = e
    · simp [h]
    · have : x.tag ≠ e.tag := fun ht => h (hinj x hx ht)
      rw [bne_iff_ne.mpr this, bne_iff_ne.mpr h]
  rw [hfil, List.countP_erase]
  simp [he]

theorem Act.booksAgree {T : Tag → Prop} {s t : State} (h : Act T s t) (hs : s.booksAgree) : t.booksAgree := by
  cases h with
  | same h => exact booksAgree_of hs (Entry.core_tag h.queue) (Entry.core_slot h.queue) h.rcs h.service
  | mark tag hT f hf =>
    exact booksAgree_of hs (State.onEntry_map s tag f _ fun e => (hf e).1)
      (State.onEntry_map s tag f _ fun e => (hf e).2.1) rfl rfl
  | records f hr hh => exact hs
  | handed r hq hroom => exact hs
  | rejects xs hx hq => exact hs
  | noPoints => exact hs
  | leave e he hT =>
    obtain ⟨h1, h2, h3, h4, h5, h6, h7⟩ := hs
    have hslot : ∀ k, ((s.dropped e.tag).unslot e.slot).rcs.slot k =
        if e.slot = some k then (s.rcs.slot k).released else s.rcs.slot k := State.unslot_slot _ _
    have hstate : ∀ k x, (((s.dropped e.tag).unslot e.slot).rcs.slot k).state = x → x ≠ .verified →
        (s.rcs.slot k).state = x := by
      intro k x hx hv
      rw [hslot] at hx
      split at hx
      · rcases (s.rcs.slot k).released_state with h | ⟨_, h⟩
        · rwa [h] at hx
        · exact absurd (h.symm.trans hx).symm hv
      · exact hx
    refine ⟨?_, ?_, fun k => ?_, fun k ha hd => ?_, fun ⟨ha, hb⟩ => h5 ⟨?_, ?_⟩, fun ⟨ha, hb⟩ => h6 ⟨?_, ?_⟩,
      fun v k hv hk => ?_⟩
    · rw [State.unslot_ctr]
      exact (List.length_filter_le _ _).trans h1
    · rw [State.unslot_ctr]
      exact (List.filter_sublist.map _).nodup h2
    · have hn : State.naming ((s.dropped e.tag).unslot e.slot) k = s.naming k - if e.slot = some k then 1 else 0 := by
        rw [State.naming, State.unslot_ctr, State.naming]
        have := countP_filter_tag he h2 fun x => x.slot == some k
        simpa [State.dropped] using this
      rw [hslot, hn, ← h3 k]
      split <;> rfl
    · rw [hslot] at ha hd ⊢
      split
      · rename_i hk
        rw [if_pos hk] at ha hd
        unfold Slot.released at ha hd ⊢
        dsimp only at ha hd ⊢
        split at ha
        · rename_i h
          exact h.2
        · rename_i h
          rw [if_neg h] at hd
          rw [h4 k ha hd]
      · rename_i hk
        rw [if_neg hk] at ha hd
        exact h4 k ha hd
    · exact hstate .s0 _ ha (by decide)
    · exact hstate .s1 _ hb (by decide)
    · exact hstate .s0 _ ha (by decide)
    · exact hstate .s1 _ hb (by decide)
    · have hver := h7 v k (by simpa [State.dropped] using hv) hk
      rw [hslot]
      split
      · unfold Slot.released
        simp [hver]
      · exact hver

theorem Acts.stoppedIsEmpty {T : Tag → Prop} {s t : State} (h : Acts T s t) (hs : s.stoppedIsEmpty) : t.stoppedIsEmpty := by
  induction h with
  | refl => exact hs
  | tail _ h ih => exact h.stoppedIsEmpty ih

theorem Acts.booksAgree {T : Tag → Prop} {s t : State} (h : Acts T s t) (hs : s.booksAgree) : t.booksAgree := by
  induction h with
  | refl => exact hs
  | tail _ h ih => exact h.booksAgree ih

end Sys2Proof.Machine
end

section
/-!
The acts of the blocks at a can's points, as elementary changes one after another.
-/

namespace Sys2Proof.Machine

theorem State.onEntry_queue_ne {s : State} {tag : Tag} {f : Entry → Entry} (h : s.ctr.queue ≠ []) :
    (s.onEntry tag f).ctr.queue ≠ [] := by
  simpa [State.onEntry] using h

theorem State.queue_ne_of_entry {s : State} {tag : Tag} {e : Entry} (h : s.entry tag = some e) :
    s.ctr.queue ≠ [] := List.ne_nil_of_mem (State.entry_some h).1

theorem SameCans.queue_ne {s t : State} (h : SameCans s t) (hq : s.ctr.queue ≠ []) : t.ctr.queue ≠ [] := by
  have := h.queue
  intro hn
  rw [hn, List.map_nil, eq_comm, List.map_eq_nil_iff] at this
  exact hq this

/-- An entry once it is decided under the causes `selected` (R108). -/
def Entry.asDecided (causes selected : BitVec 12) (x : Entry) : Entry :=
  { x with
    causes := causes, selected := selected
    decision := some (if selected = 0 then .accept else .reject)
    stage := .decided }

/-- The decision of an entry (R108, steps 2 to 5). -/
theorem State.decideEntry_eq {s : State} {tag : Tag} {e : Entry} (he : s.entry tag = some e) :
    s.decideEntry tag = if e.causeSet &&& s.selectionFor e = 0 then
        (s.onEntry tag (Entry.asDecided e.causeSet (e.causeSet &&& s.selectionFor e))).bump .decisionsAccept
      else (((s.onEntry tag (Entry.asDecided e.causeSet (e.causeSet &&& s.selectionFor e))).bump
        .decisionsReject).queueReject e).countValve e.valve fun x => { x with rejected := satInc x.rejected } := by
  unfold State.decideEntry
  simp only [he]
  by_cases hsel : e.causeSet &&& s.selectionFor e = 0
  · simp only [hsel, if_true]
    rfl
  · have hf : Entry.asDecided e.causeSet (e.causeSet &&& s.selectionFor e) = fun x =>
        { x with causes := e.causeSet, selected := e.causeSet &&& s.selectionFor e, decision := some .reject,
                 stage := .decided } := by
      funext x
      simp only [Entry.asDecided, hsel, if_false]
    rw [hf]
    simp only [hsel, if_false]

namespace Acts

variable {T : Tag → Prop} {s t : State} (h : Acts T s t)
include h

theorem act {u : State} (g : Act T t u) : Acts T s u := h.tail g

theorem same {u : State} (g : SameCans t u) : Acts T s u := h.act (.same g)

theorem bump (c : Counter) : Acts T s (t.bump c) := h.same ((SameCans.refl t).bump c)

theorem writeWeigh {tag : Tag} (hT : T tag) (w : WeighResult) : Acts T s (t.writeWeigh tag w) :=
  (h.act (.mark t tag hT (fun e => { e with weigh := some w, stage := .awaitingDecision }) fun _ =>
    ⟨rfl, rfl, nofun⟩)).bump _

theorem retire (out : ExitOutcome) {tag : Tag} (hT : T tag) : Acts T s (t.retire out tag) := by
  cases he : t.entry tag with
  | none => rwa [State.retire_absent he]
  | some e =>
    obtain ⟨hmem, rfl⟩ := State.entry_some he
    exact (h.act (.leave t e hmem hT)).same (State.retire_sameCans he out)

theorem retireCounted (out : ExitOutcome) {tag : Tag} (hT : T tag) : Acts T s (t.retireCounted out tag) :=
  (h.retire out hT).bump _

theorem flush (hT : ∀ tag, T tag) : Acts T s t.flush := by
  have hall : ∀ (l : List Entry) (u : State), Acts T s u →
      Acts T s (l.foldl (fun u e => (u.retire .flushed e.tag).bump .flushed) u) := by
    intro l
    induction l with
    | nil => exact fun _ hu => hu
    | cons e l ih => exact fun u hu => ih _ ((hu.retire _ (hT _)).bump _)
  unfold State.flush
  have h1 := (hall t.ctr.queue t h).act (.rejects _ [] (Nat.zero_le _) fun _ => Nat.zero_le _)
  have h2 := h1.act (.records _ (fun w => { w with records := [] }) (Nat.zero_le _) le_rfl)
  exact (h2.act (.noPoints _)).same ((SameCans.refl _).slipRun 0)

/-! ## The decision and the gate -/

theorem queueReject (e : Entry) (hq : t.ctr.queue ≠ []) : Acts T s (t.queueReject e) := by
  unfold State.queueReject
  split
  · rename_i hroom
    refine h.act (.rejects t _ (le_trans ?_ (le_max_right _ _)) fun hn => absurd hn hq)
    have := congrArg List.length (List.takeWhile_append_dropWhile
      (p := fun x : RejectItem => decide (t.rank x.tag < t.rank e.tag)) (l := t.gtc.rejects))
    simp only [List.length_append, List.length_cons] at this ⊢
    omega
  · exact ((h.same ((SameCans.refl t).onEntry e.tag (fun e => { e with unfired := true }) fun _ => rfl)).same
      ((SameCans.refl _).addCause _)).bump _

theorem countValve (v : Option Nat) (f : Valve → Valve) (hf : ∀ x, (f x).recent = x.recent) :
    Acts T s (t.countValve v f) := h.same ((SameCans.refl t).countValve v f hf)

theorem decideEntry {tag : Tag} (hT : T tag) : Acts T s (t.decideEntry tag) := by
  cases he : t.entry tag with
  | none =>
    unfold State.decideEntry
    rwa [he]
  | some e =>
    rw [State.decideEntry_eq he]
    have hm := h.act (.mark t tag hT (Entry.asDecided e.causeSet (e.causeSet &&& t.selectionFor e)) fun _ =>
      ⟨rfl, rfl, nofun⟩)
    split
    · exact hm.bump _
    · exact ((hm.bump _).queueReject e (State.onEntry_queue_ne (State.queue_ne_of_entry he))).countValve _ _
        fun _ => rfl

theorem decisionPoint {tag : Tag} (hT : T tag) : Acts T s (t.decisionPoint tag) :=
  (h.same ((SameCans.refl t).closeCode tag)).decideEntry hT

theorem gateActs (e : Entry) : Acts T s (t.gateActs e) := by
  unfold State.gateActs
  split
  · refine Acts.same ?_ ((SameCans.refl _).fireGate)
    exact h.act (.rejects t _ ((List.length_filter_le _ _).trans (le_max_left _ _)) fun _ => List.length_filter_le _ _)
  · split
    · exact h.bump _
    · exact h

theorem gatePoint {tag : Tag} (hT : T tag) : Acts T s (t.gatePoint tag) := by
  unfold State.gatePoint
  split
  · exact h
  · rename_i e he
    have hm := (h.gateActs e).act (.mark _ tag hT (fun x => { x with stage := .awaitingConfirm }) fun _ =>
      ⟨rfl, rfl, nofun⟩)
    dsimp only
    split
    · exact hm
    · exact hm.retireCounted _ hT

/-! ## Confirmation -/

theorem confirmEntry {e : Entry} (hT : T e.tag) : Acts T s (t.confirmEntry e) := by
  unfold State.confirmEntry
  split
  · exact (h.retireCounted _ hT).same ((SameCans.refl _).addCause _)
  · exact h.retireCounted _ hT

theorem confirmArrives (hT : ∀ tag, T tag) (y : Pos) : Acts T s (t.confirmArrives y) := by
  unfold State.confirmArrives
  split
  · exact h.bump _
  · split
    · exact h.bump _
    · split
      · exact h.bump _
      · exact h.confirmEntry (hT _)

theorem confirmCloses {tag : Tag} (hT : T tag) : Acts T s (t.confirmCloses tag) := by
  unfold State.confirmCloses
  split
  · exact h
  · exact h.retireCounted _ hT

/-! ## The Weigh Engine -/

theorem crowded {tag : Tag} (hT : T tag) : Acts T s (t.crowded tag) := by
  unfold State.crowded
  dsimp only
  refine ((h.writeWeigh hT _).same ((SameCans.refl _).mapRecords _ fun r => ?_)).bump _
  split <;> rfl

/-- The hand-off of a can that is tracked. -/
theorem handOff {tag : Tag} (hT : T tag) (slot : Option SlotId) (hq : t.ctr.queue ≠ []) : Acts T s (t.handOff tag slot) := by
  unfold State.handOff
  split
  · exact h.writeWeigh hT _
  · split
    · exact h.writeWeigh hT _
    · split
      · exact h.crowded hT
      · rename_i hroom
        exact h.act (.handed t _ hq (by omega))

/-- A record changed in place; the list keeps its length. -/
theorem onRecord (tag : Tag) (f : Occupancy → Occupancy) : Acts T s (t.onRecord tag f) :=
  h.act (.records t _ (by simp) le_rfl)

theorem settle (tag : Tag) : Acts T s (t.settle tag) := by
  unfold State.settle
  split
  · exact h
  · exact h.onRecord tag _

theorem endWindow {tag : Tag} (hT : T tag) : Acts T s (t.endWindow tag) := by
  unfold State.endWindow
  split
  · exact h
  · dsimp only
    split
    · exact h.onRecord tag _
    · exact ((h.onRecord tag _).writeWeigh hT _).same ((SameCans.refl _).offer _ _)

theorem leavePlatform (tag : Tag) : Acts T s (t.leavePlatform tag) :=
  h.act (.records t _ (List.length_filter_le _ _) le_rfl)

theorem holdWgeBlock (hT : ∀ tag, T tag) : Acts T s t.holdWgeBlock := by
  have hall : ∀ (l : List Occupancy) (u : State), Acts T s u → Acts T s (l.foldl
      (fun u r => if r.window = .closed then u else u.writeWeigh r.tag (notWeighed .engineHeld)) u) := by
    intro l
    induction l with
    | nil => exact fun _ hu => hu
    | cons r l ih =>
      intro u hu
      refine ih _ ?_
      dsimp only
      split
      · exact hu
      · exact hu.writeWeigh (hT _) _
  unfold State.holdWgeBlock
  exact (hall t.wge.records t h).act (.records _ _ (Nat.zero_le _) (Nat.zero_le _))

/-! ## Points -/

/-- A point's act. -/
theorem point (p : Point) {tag : Tag} (hT : T tag) : Acts T s (p.act t tag) := by
  cases p
  case readTrigger => exact h.same ((SameCans.refl t).readTrigger tag)
  case platformEntry => exact h.same ((SameCans.refl t).platformEntry tag)
  case settle => exact h.settle tag
  case endOfWindow => exact h.endWindow hT
  case exit => exact h.leavePlatform tag
  case decision => exact h.decisionPoint hT
  case gate => exact h.gatePoint hT
  case confirmClose => exact h.confirmCloses hT

theorem announce {tag : Tag} (hT : T tag) (p : Point) : Acts T s (t.announce tag p) := by
  unfold State.announce
  split
  · exact h
  · exact h.point p hT

theorem announceGoneBy {tag : Tag} (hT : T tag) : Acts T s (t.announceGoneBy tag) := by
  have hall : ∀ (l : List Point) (u : State), Acts T s u → Acts T s (l.foldl (fun u p => u.announce tag p) u) := by
    intro l
    induction l with
    | nil => exact fun _ hu => hu
    | cons p l ih => exact fun u hu => ih _ (hu.announce hT p)
  unfold State.announceGoneBy
  split
  · exact h
  · exact hall _ t h

/-- After an arrival of a can that is tracked: the hand-off and the late announcements. -/
theorem arrived {tag : Tag} (hT : T tag) (slot : Option SlotId) (hq : t.ctr.queue ≠ []) : Acts T s (t.arrived tag slot) :=
  (h.handOff hT slot hq).announceGoneBy hT

theorem expire {e : Entry} (hT : T e.tag) : Acts T s (t.expire e) := by
  have hr := ((h.retire .missing hT).bump .missing).countValve e.valve
    (fun x => { x with missing := satInc x.missing }) fun _ => rfl
  exact hr.same (SameCans.refl _).raiseSlip

theorem expireAll (hT : ∀ tag, T tag) (n : Nat) : Acts T s (t.expireAll n) := by
  induction n generalizing t with
  | zero => exact h
  | succ n ih =>
    unfold State.expireAll
    split
    · exact h
    · exact ih (h.expire (hT _))

end Acts

/-! ## The hold of the Code Checker -/

theorem SameCans.holdCckBlock {s t : State} (h : SameCans s t) : SameCans s t.holdCckBlock := by
  have hall := h.foldl t.ctr.queue (fun u e =>
    if e.codeState = .requested then u.storeCode e.tag (bareCode .notChecked) else u) fun u e hu => ?_
  · exact hall.onCck fun _ => Cck.reset
  split
  · exact hu.storeCode _ _
  · exact hu


end Sys2Proof.Machine
end

section
/-!
What a command is made of. `Move` is one elementary change of any block; it keeps the invariants of the queues, the tags
and the slots.
-/

namespace Sys2Proof.Machine

/-! ## The tag pool (R2) -/

/-- With room in the queue some index is free: 256 indices and fewer entries. -/
theorem State.exists_free_index {s : State} (h : s.ctr.queue.length < 256) :
    ∃ i < 256, ∀ x ∈ s.ctr.queue, tagIndex x.tag ≠ i := by
  by_contra hno
  push Not at hno
  have hsub : List.range 256 ⊆ s.ctr.queue.map fun x => tagIndex x.tag := fun i hi => by
    obtain ⟨x, hx, hxi⟩ := hno i (List.mem_range.mp hi)
    exact List.mem_map.mpr ⟨x, hx, hxi⟩
  have hlen := (List.subperm_of_subset List.nodup_range hsub).length_le
  simp only [List.length_range, List.length_map] at hlen
  omega

/-- The free index is the lowest that no live entry holds. -/
theorem State.freeIndex_spec {s : State} (h : s.ctr.queue.length < 256) :
    s.freeIndex < 256 ∧ (∀ x ∈ s.ctr.queue, tagIndex x.tag ≠ s.freeIndex) ∧
      ∀ j < s.freeIndex, ∃ x ∈ s.ctr.queue, tagIndex x.tag = j := by
  obtain ⟨i, hi, hfree⟩ := s.exists_free_index h
  cases hf : (List.range 256).find? fun i => s.ctr.queue.all fun e => tagIndex e.tag != i with
  | none =>
    have := List.find?_eq_none.mp hf i (List.mem_range.mpr hi)
    simp only [List.all_eq_true, bne_iff_ne] at this
    exact absurd hfree this
  | some k =>
    obtain ⟨hk, hmem, hlow⟩ := List.find?_range_eq_some.mp hf
    have hidx : s.freeIndex = k := by rw [State.freeIndex, hf]; rfl
    rw [hidx]
    refine ⟨List.mem_range.mp hmem, by simpa using hk, fun j hj => ?_⟩
    simpa using hlow j hj

/-- The generation counter of an index below 256. -/
theorem generations_getD (g : Vector Byte 256) {i : Nat} (hi : i < 256) : g.toList.getD i 0 = g[i] := by
  simp [List.getD, hi]

/-! ## A new entry (R1, R2, R127) -/

/-- What a new entry leaves of the Can Tracker. -/
theorem State.addEntry_ctr (s : State) (e : Entry) :
    (s.addEntry e).ctr = { s.ctr with
      queue := insertEntry { e with tag := s.tagOf s.freeIndex } s.ctr.queue,
      generations := s.ctr.generations.setIfInBounds s.freeIndex
        (s.ctr.generations.toList.getD s.freeIndex 0 + 1) } := by
  unfold State.addEntry
  dsimp only
  split <;> rfl

/-- What a new entry leaves of the Recipe Store: its slot is counted. -/
theorem State.addEntry_slot (s : State) (e : Entry) (k : SlotId) :
    (s.addEntry e).rcs.slot k =
      { s.rcs.slot k with refs := (s.rcs.slot k).refs + (if e.slot = some k then 1 else 0) } := by
  unfold State.addEntry
  dsimp only
  cases h : e.slot with
  | none => rfl
  | some j =>
    simp only [State.onRcs_rcs, State.onCtr_rcs, Rcs.setSlot_slot_eq]
    by_cases hk : k = j
    · subst hk; simp
    · have : ¬ j = k := fun h => hk h.symm
      simp [hk, this]


/-- The index of a tag taken from the pool. -/
theorem tagIndex_append (g i : Byte) : tagIndex (g ++ i) = i.toNat := by
  have h : (g ++ i : Tag).toNat = g.toNat * 256 + i.toNat := by
    rw [BitVec.toNat_append, ← Nat.shiftLeft_add_eq_or_of_lt i.isLt, Nat.shiftLeft_eq]
  have := i.isLt
  rw [tagIndex, h]
  omega

/-- The generation of a tag taken from the pool. -/
theorem generation_append (g i : Byte) : ((g ++ i : Tag) >>> 8).setWidth 8 = g := by
  apply BitVec.eq_of_toNat_eq
  have h : (g ++ i : Tag).toNat = g.toNat * 256 + i.toNat := by
    rw [BitVec.toNat_append, ← Nat.shiftLeft_add_eq_or_of_lt i.isLt, Nat.shiftLeft_eq]
  have hi := i.isLt
  have hg := g.isLt
  rw [BitVec.toNat_setWidth, BitVec.toNat_ushiftRight, h, Nat.shiftRight_eq_div_pow]
  omega

/-- The index of the tag that a new entry takes. -/
theorem State.tagIndex_tagOf (s : State) {i : Nat} (hi : i < 256) : tagIndex (s.tagOf i) = i := by
  rw [State.tagOf, tagIndex_append, BitVec.toNat_ofNat]
  omega

theorem insertEntry_perm (e : Entry) (q : List Entry) : (insertEntry e q).Perm (e :: q) := by
  unfold insertEntry
  split
  · exact List.perm_append_comm
  · have h : (q.takeWhile (fun x => x.stage != .enRoute) ++ q.dropWhile fun x => x.stage != .enRoute) = q :=
      List.takeWhile_append_dropWhile
    exact List.perm_middle.trans (by rw [h])

/-! ## Elementary changes of every block -/

/-- A changeover to slot `k` before the slot it leaves is checked for draining (06 R139). -/
def State.activated (s : State) (k : SlotId) : State :=
  let t := s.onSlot k fun x => { x with state := .active }
  if (t.rcs.slot k.other).state = .active then t.onSlot k.other fun x => { x with state := .draining } else t

/-- One elementary change of any block; no reply joins and no service begins or ends. -/
inductive Move : State → State → Prop
  | act {s t : State} (h : Act AnyCan s t) : Move s t
  | pins (s : State) (f : Pins → Pins) : Move s (s.onPins f)
  | sup (s : State) (f : Sup → Sup) : Move s (s.onSup f)
  | drawn (s : State) : Move s s.drawn
  | setup (s : State) (f : SetupImage → SetupImage) 
      (hh : s.wge.history.length ≤ s.averageLength → s.wge.history.length ≤ setupNum (f s.setup) 29 1) :
      Move s (s.onSetup f)
  | took (s : State) : Move s s.takeRequest
  | queued (s : State) (r : Request) (hroom : s.mga.requests.length < 4) :
      Move s (s.onMga fun m => { m with requests := m.requests ++ [r] })
  /-- A slot that no entry can name is loaded, discarded, or put under verification. -/
  | idleSlot (s : State) (k : SlotId) (f : Slot → Slot) (hs : (s.rcs.slot k).state.idle = true)
      (hx : (f (s.rcs.slot k)).state ≠ .active ∧ (f (s.rcs.slot k)).state ≠ .draining)
      (hr : (f (s.rcs.slot k)).refs = (s.rcs.slot k).refs) : Move s (s.onSlot k f)
  | activate (s : State) (k : SlotId) (hv : (s.rcs.slot k).state = .verified) (hd : s.drainingSlot = none) :
      Move s (s.activated k)
  | drain (s : State) (k : SlotId) (ha : (s.rcs.slot k).state = .active) (hd : s.drainingSlot = none) :
      Move s (s.onSlot k fun x => { x with state := .draining })
  | drained (s : State) (k : SlotId) (hd : (s.rcs.slot k).state = .draining) (hr : (s.rcs.slot k).refs = 0) :
      Move s (s.onSlot k fun x => { x with state := .verified })
  | start (s : State) : Move s (s.onCtr fun c => { c with run := .running, debt := 0, slipRun := 0 })
  | stop (s : State) (hq : s.ctr.queue = []) (hr : s.gtc.rejects = []) (hw : s.wge.records = []) :
      Move s (s.onCtr fun c => { c with run := .stopped })
  | entered (s : State) (e : Entry) (hrun : s.ctr.run = .running) (hroom : s.ctr.queue.length < 256)
      (hslot : ∀ k, e.slot = some k → (s.rcs.slot k).state = .active ∨ (s.rcs.slot k).state = .draining) :
      Move s (s.addEntry e)
  | debt (s : State) (n : Nat) (hn : n ≤ max s.ctr.debt 4095) : Move s (s.onCtr fun c => { c with debt := n })
  | infeedTaken (s : State) : Move s (s.onCtr fun c => { c with infeedDue := c.infeedDue.tail })
  | confirm (s : State) (m : EyeMonitor) (l : List Pos) :
      Move s (s.onCtr fun c => { c with confirm := m, confirmDue := l })
  | points (s : State) (l : List PointDue) : Move s (s.onCtr fun c => { c with pointsDue := l })
  | infeedEye (s : State) (m : EyeMonitor) (hm : m.state = .pending → m.latched = s.ctr.position) :
      Move s (s.onCtr fun c => { c with infeed := m })
  /-- An arrival is recognised at the blocking itself. -/
  | recognisedHere (s : State) (m : EyeMonitor) (hm : m.state ≠ .pending) :
      Move s (s.onCtr fun c => { c with infeed := m, infeedDue := c.infeedDue ++ [c.position] })
  /-- A pending monitor recognises the arrival it has latched. -/
  | recognised (s : State) (hp : s.ctr.infeed.state = .pending) :
      Move s (s.onCtr fun c => { c with infeed := { state := .taken, latched := c.infeed.latched },
                                        infeedDue := c.infeedDue ++ [c.infeed.latched] })
  | advanced (s : State) (hd : s.ctr.infeedDue = []) :
      Move s (s.onCtr fun c => { c with position := c.position + 1 })

/-- Elementary changes one after another. -/
def Moves : State → State → Prop := Relation.ReflTransGen Move

theorem Move.service {s t : State} (h : Move s t) :
    t.mga.service = s.mga.service ∧ t.lif.reply.length ≤ s.lif.reply.length := by
  cases h with
  | act h => exact ⟨h.course.service, h.course.reply⟩
  | activate k hv hd =>
    unfold State.activated
    dsimp only
    split <;> exact ⟨rfl, le_rfl⟩
  | entered e hrun hroom hslot => exact ⟨by rw [State.addEntry_mga], by rw [State.addEntry_lif]⟩
  | _ => exact ⟨rfl, le_rfl⟩

theorem Moves.service {s t : State} (h : Moves s t) :
    t.mga.service = s.mga.service ∧ t.lif.reply.length ≤ s.lif.reply.length := by
  induction h with
  | refl => exact ⟨rfl, le_rfl⟩
  | tail _ h ih => exact ⟨h.service.1.trans ih.1, h.service.2.trans ih.2⟩

/-! ## The queue of cans after a new entry -/

theorem State.addEntry_length (s : State) (e : Entry) :
    (s.addEntry e).ctr.queue.length = s.ctr.queue.length + 1 := by
  rw [State.addEntry_ctr]
  exact (insertEntry_perm _ _).length_eq

theorem State.addEntry_naming (s : State) (e : Entry) (k : SlotId) :
    (s.addEntry e).naming k = s.naming k + if e.slot = some k then 1 else 0 := by
  rw [State.naming, State.addEntry_ctr, (insertEntry_perm _ _).countP_eq, List.countP_cons]
  simp [State.naming]

theorem State.addEntry_indices {s : State} (e : Entry) (hroom : s.ctr.queue.length < 256)
    (h : (s.ctr.queue.map fun x => tagIndex x.tag).Nodup) :
    ((s.addEntry e).ctr.queue.map fun x => tagIndex x.tag).Nodup := by
  obtain ⟨hlt, hfree, _⟩ := State.freeIndex_spec hroom
  rw [State.addEntry_ctr, ((insertEntry_perm _ _).map _).nodup_iff, List.map_cons, List.nodup_cons]
  refine ⟨fun hm => ?_, h⟩
  obtain ⟨x, hx, hxi⟩ := List.mem_map.mp hm
  rw [State.tagIndex_tagOf s hlt] at hxi
  exact hfree x hx hxi

/-! ## Slots -/

theorem State.onSlot_slot (s : State) (k j : SlotId) (f : Slot → Slot) :
    (s.onSlot k f).rcs.slot j = if j = k then f (s.rcs.slot k) else s.rcs.slot j := by
  rw [State.onSlot, State.onRcs_rcs, Rcs.setSlot_slot_eq]

theorem SlotId.other_ne (k : SlotId) : k.other ≠ k := by cases k <;> decide

/-- The two slots are never both in a state. -/
theorem notBoth_iff (r : Rcs) (x : SlotState) :
    ¬ (r.slot0.state = x ∧ r.slot1.state = x) ↔ ∀ k, ¬ ((r.slot k).state = x ∧ (r.slot k.other).state = x) :=
  ⟨fun h k => by cases k <;> simpa [Rcs.slot, SlotId.other, and_comm] using h, fun h => h .s0⟩

theorem State.drainingSlot_none {s : State} (h : s.drainingSlot = none) (k : SlotId) :
    (s.rcs.slot k).state ≠ .draining := by
  unfold State.drainingSlot State.slotIn at h
  split at h
  · cases h
  · split at h
    · cases h
    · cases k <;> assumption

theorem State.activated_slot (s : State) (k j : SlotId) : (s.activated k).rcs.slot j =
    if j = k then { s.rcs.slot k with state := .active }
    else if (s.rcs.slot j).state = .active then { s.rcs.slot j with state := .draining } else s.rcs.slot j := by
  unfold State.activated
  dsimp only
  have hother : ∀ {a b : SlotId}, a ≠ b → a = b.other := by
    intro a b
    cases a <;> cases b <;> simp [SlotId.other]
  by_cases hj : j = k
  · subst hj
    rw [if_pos rfl]
    split
    · rw [State.onSlot_slot, if_neg (SlotId.other_ne j).symm, State.onSlot_slot, if_pos rfl]
    · rw [State.onSlot_slot, if_pos rfl]
  · obtain rfl := hother hj
    rw [if_neg hj]
    simp only [State.onSlot_slot, if_neg hj]
    split
    · simp [State.onSlot_slot, hj]
    · simp [State.onSlot_slot, hj]

end Sys2Proof.Machine
end

section
/-!
Every elementary change keeps the capacities, the emptiness while STOPPED, the waiting arrivals, the tags and the slots.
-/

namespace Sys2Proof.Machine

/-! ## Emptiness while STOPPED (R1, R111) -/

theorem Move.stoppedIsEmpty {s t : State} (h : Move s t) (hs : s.stoppedIsEmpty) : t.stoppedIsEmpty := by
  cases h with
  | act h => exact h.stoppedIsEmpty hs
  | activate k hv hd =>
    unfold State.activated
    dsimp only
    split <;> exact hs
  | start => exact fun hrun => by cases hrun
  | stop hq hr hw => exact fun _ => ⟨hq, hr, hw⟩
  | entered e hrun hroom hslot =>
    intro hstop
    rw [State.addEntry_ctr] at hstop
    rw [hrun] at hstop
    cases hstop
  | _ => exact hs

theorem State.assertReset_ctr (s : State) (cause : ResetCause) (phase : Phase) :
    (s.assertReset cause phase).ctr = Ctr.reset := rfl

/-- What every elementary change keeps, elementary changes one after another keep. -/
theorem Moves.keeps {s t : State} (h : Moves s t) {inv : State → Prop} (hs : inv s)
    (hk : ∀ u v, Move u v → inv u → inv v) : inv t := by
  induction h with
  | refl => exact hs
  | tail _ h ih => exact hk _ _ h ih

/-! ## Waiting arrivals (R21) -/

/-- Only an eye, the position or the taking of an arrival bear on what waits. -/
theorem arrivalsFresh_of {s t : State} (h : s.arrivalsFresh) (hp : t.ctr.position = s.ctr.position)
    (hi : t.ctr.infeed = s.ctr.infeed) (hd : t.ctr.infeedDue = s.ctr.infeedDue) : t.arrivalsFresh := by
  unfold State.arrivalsFresh
  rw [hp, hi, hd]
  exact h

theorem Move.arrivalsFresh {s t : State} (h : Move s t) (hs : s.arrivalsFresh) : t.arrivalsFresh := by
  cases h with
  | act h => exact h.arrivalsFresh hs
  | activate k hv hd =>
    unfold State.activated
    dsimp only
    split <;> exact hs
  | entered e hrun hroom hslot =>
    exact arrivalsFresh_of hs (by rw [State.addEntry_ctr]) (by rw [State.addEntry_ctr]) (by rw [State.addEntry_ctr])
  | infeedTaken =>
    obtain ⟨hone, hall⟩ := hs
    refine ⟨?_, fun hp hl q hq => hall hp hl q (List.mem_of_mem_tail hq)⟩
    exact ((List.tail_sublist _).filter _).length_le.trans hone
  | infeedEye m hm => exact ⟨hs.1, fun hp hl => absurd (hm hp) hl⟩
  | recognisedHere m hm =>
    refine ⟨?_, fun hp => absurd hp hm⟩
    change ((s.ctr.infeedDue ++ [s.ctr.position]).filter (· ≠ s.ctr.position)).length ≤ 1
    simpa using hs.1
  | recognised hp =>
    obtain ⟨hone, hall⟩ := hs
    refine ⟨?_, fun hp' => by cases hp'⟩
    change ((s.ctr.infeedDue ++ [s.ctr.infeed.latched]).filter (· ≠ s.ctr.position)).length ≤ 1
    by_cases hl : s.ctr.infeed.latched = s.ctr.position
    · simpa [hl] using hone
    · have hnone : s.ctr.infeedDue.filter (· ≠ s.ctr.position) = [] :=
        List.filter_eq_nil_iff.mpr fun q hq => by simpa using hall hp hl q hq
      rw [List.filter_append, hnone]
      simp [hl]
  | advanced hd =>
    refine ⟨by simp [hd], fun _ _ q hq => ?_⟩
    rw [State.onCtr_ctr] at hq
    rw [hd] at hq
    cases hq
  | _ => exact hs

/-! ## Tags and their generations (R2) -/

theorem State.addEntry_tagsSpent {s : State} (e : Entry) (hroom : s.ctr.queue.length < 256) (hs : s.tagsSpent) :
    (s.addEntry e).tagsSpent := by
  obtain ⟨hlt, hfree, _⟩ := State.freeIndex_spec hroom
  intro x hx
  rw [State.addEntry_ctr] at hx ⊢
  have hget : ∀ i < 256, (s.ctr.generations.setIfInBounds s.freeIndex
      (s.ctr.generations.toList.getD s.freeIndex 0 + 1)).toList.getD i 0 =
      if i = s.freeIndex then s.ctr.generations.toList.getD s.freeIndex 0 + 1
      else s.ctr.generations.toList.getD i 0 := by
    intro i hi
    rw [generations_getD _ hi, Vector.getElem_setIfInBounds]
    by_cases h : s.freeIndex = i
    · simp [h]
    · have : ¬ i = s.freeIndex := fun g => h g.symm
      rw [if_neg h, if_neg this, generations_getD _ hi]
  have hidx : tagIndex x.tag < 256 := Nat.mod_lt _ (by norm_num)
  rw [hget _ hidx]
  rcases List.mem_cons.mp ((insertEntry_perm _ _).mem_iff.mp hx) with rfl | hx
  · rw [State.tagIndex_tagOf s hlt, if_pos rfl, State.tagOf, generation_append]
  · rw [if_neg (hfree x hx)]
    exact hs x hx

theorem Move.tagsSpent {s t : State} (h : Move s t) (hs : s.tagsSpent) : t.tagsSpent := by
  cases h with
  | act h => exact h.tagsSpent hs
  | activate k hv hd =>
    unfold State.activated
    dsimp only
    split <;> exact hs
  | entered e hrun hroom hslot => exact State.addEntry_tagsSpent e hroom hs
  | _ => exact hs

/-! ## Slots and the entries that name them (06 R126, R127) -/

/-- A slot changes as `f` says: the books still agree when no entry can name it before and after. -/
theorem booksAgree_onSlot {s : State} (h : s.booksAgree) (k : SlotId) (f : Slot → Slot)
    (hr : (f (s.rcs.slot k)).refs = (s.rcs.slot k).refs)
    (hzero : (f (s.rcs.slot k)).state ≠ .active → (f (s.rcs.slot k)).state ≠ .draining → (s.rcs.slot k).refs = 0)
    (hone : ∀ x, x = .active ∨ x = .draining → (f (s.rcs.slot k)).state = x → (s.rcs.slot k.other).state ≠ x)
    (hver : ∀ v, s.mga.service = some v → v.operation = .verify k → (f (s.rcs.slot k)).state = .verifying) :
    (s.onSlot k f).booksAgree := by
  obtain ⟨h1, h2, h3, h4, h5, h6, h7⟩ := h
  have hboth : ∀ x, x = .active ∨ x = .draining → ¬ (s.rcs.slot0.state = x ∧ s.rcs.slot1.state = x) →
      ¬ ((s.onSlot k f).rcs.slot0.state = x ∧ (s.onSlot k f).rcs.slot1.state = x) := by
    intro x hx hold
    rw [notBoth_iff] at hold ⊢
    intro j hj
    rw [State.onSlot_slot, State.onSlot_slot] at hj
    by_cases hk : j = k
    · subst hk
      rw [if_pos rfl, if_neg (SlotId.other_ne j)] at hj
      exact hone x hx hj.1 hj.2
    · have hk' : j = k.other := by revert hk; cases j <;> cases k <;> simp [SlotId.other]
      subst hk'
      rw [if_neg hk, SlotId.other_other, if_pos rfl] at hj
      exact hone x hx hj.2 hj.1
  refine ⟨h1, h2, fun j => ?_, fun j ha hd => ?_, hboth _ (.inl rfl) h5, hboth _ (.inr rfl) h6, fun v j hv hj => ?_⟩
  · have hn : (s.onSlot k f).naming j = s.naming j := rfl
    rw [hn, ← h3 j, State.onSlot_slot]
    split
    · rename_i hk
      rw [hr, hk]
    · rfl
  · rw [State.onSlot_slot] at ha hd ⊢
    split
    · rename_i hk
      rw [if_pos hk] at ha hd
      rw [hr]
      exact hzero ha hd
    · rename_i hk
      rw [if_neg hk] at ha hd
      exact h4 j ha hd
  · rw [State.onSlot_slot]
    split
    · rename_i hk
      exact hver v hv (hk ▸ hj)
    · exact h7 v j hv hj

theorem State.activated_ctr (s : State) (k : SlotId) : (s.activated k).ctr = s.ctr := by
  unfold State.activated
  dsimp only
  split <;> rfl

theorem State.activated_mga (s : State) (k : SlotId) : (s.activated k).mga = s.mga := by
  unfold State.activated
  dsimp only
  split <;> rfl

theorem booksAgree_activated {s : State} (h : s.booksAgree) {k : SlotId} (hv : (s.rcs.slot k).state = .verified)
    (hd : s.drainingSlot = none) : (s.activated k).booksAgree := by
  obtain ⟨h1, h2, h3, h4, h5, h6, h7⟩ := h
  have hctr := s.activated_ctr k
  have hnodrain := State.drainingSlot_none hd
  have hrefs : ∀ j, ((s.activated k).rcs.slot j).refs = (s.rcs.slot j).refs := by
    intro j
    rw [State.activated_slot]
    split
    · rename_i hj
      rw [hj]
    · split <;> rfl
  have hactive : ∀ j, ((s.activated k).rcs.slot j).state = .active → j = k := by
    intro j hj
    rw [State.activated_slot] at hj
    by_contra hne
    rw [if_neg hne] at hj
    split at hj
    · cases hj
    · rename_i hna
      exact hna hj
  have hdrain : ∀ j, ((s.activated k).rcs.slot j).state = .draining → j ≠ k := by
    intro j hj hjk
    rw [State.activated_slot, if_pos hjk] at hj
    cases hj
  refine ⟨by rw [hctr]; exact h1, by rw [hctr]; exact h2, fun j => ?_, fun j ha hd' => ?_, fun ⟨ha, hb⟩ => ?_,
    fun ⟨ha, hb⟩ => ?_, fun v j hsv hj => ?_⟩
  · rw [hrefs, State.naming, hctr]
    exact h3 j
  · rw [hrefs]
    rw [State.activated_slot] at ha hd'
    split at ha
    · exact absurd rfl ha
    · rename_i hj
      rw [if_neg hj] at hd'
      split at hd'
      · exact absurd rfl hd'
      · rename_i hna
        exact h4 j hna (hnodrain j)
  · exact absurd ((hactive .s0 ha).trans (hactive .s1 hb).symm) (by decide)
  · have h0 := hdrain .s0 ha
    have h1 := hdrain .s1 hb
    cases k
    · exact h0 rfl
    · exact h1 rfl
  · rw [State.activated_mga] at hsv
    have hver := h7 v j hsv hj
    have hjk : j ≠ k := by
      rintro rfl
      rw [hv] at hver
      cases hver
    rw [State.activated_slot, if_neg hjk, if_neg (by rw [hver]; decide)]
    exact hver

theorem Move.booksAgree {s t : State} (h : Move s t) (hs : s.booksAgree) : t.booksAgree := by
  cases h with
  | act h => exact h.booksAgree hs
  | idleSlot k f hidle hx hr =>
    obtain ⟨h1, h2, h3, h4, h5, h6, h7⟩ := id hs
    have hna : (s.rcs.slot k).state ≠ .active := fun h => by rw [h] at hidle; cases hidle
    have hnd : (s.rcs.slot k).state ≠ .draining := fun h => by rw [h] at hidle; cases hidle
    refine booksAgree_onSlot hs k f hr (fun _ _ => h4 k hna hnd) (fun x hx' hf => ?_) fun v hv hk => ?_
    · rcases hx' with rfl | rfl
      · exact absurd hf hx.1
      · exact absurd hf hx.2
    · have := h7 v k hv hk
      rw [this] at hidle
      cases hidle
  | activate k hv hd => exact booksAgree_activated hs hv hd
  | drain k ha hd =>
    obtain ⟨h1, h2, h3, h4, h5, h6, h7⟩ := id hs
    refine booksAgree_onSlot hs k _ rfl (fun _ h => absurd rfl h) (fun x hx hf => ?_) fun v hv hk => ?_
    · rw [← hf]
      exact State.drainingSlot_none hd _
    · have := h7 v k hv hk
      rw [this] at ha
      cases ha
  | drained k hd hr =>
    obtain ⟨h1, h2, h3, h4, h5, h6, h7⟩ := id hs
    refine booksAgree_onSlot hs k _ rfl (fun _ _ => hr) (fun x hx hf => ?_) fun v hv hk => ?_
    · rcases hx with rfl | rfl <;> cases hf
    · have := h7 v k hv hk
      rw [this] at hd
      cases hd
  | entered e hrun hroom hslot =>
    obtain ⟨h1, h2, h3, h4, h5, h6, h7⟩ := hs
    have hstate : ∀ k, ((s.addEntry e).rcs.slot k).state = (s.rcs.slot k).state := fun k => by
      rw [State.addEntry_slot]
    refine ⟨?_, State.addEntry_indices e hroom h2, fun k => ?_, fun k ha hd => ?_, fun ⟨ha, hb⟩ => h5 ⟨?_, ?_⟩,
      fun ⟨ha, hb⟩ => h6 ⟨?_, ?_⟩, fun v k hv hk => ?_⟩
    · rw [State.addEntry_length]
      exact hroom
    · rw [State.addEntry_slot, State.addEntry_naming, h3 k]
    · rw [hstate] at ha hd
      rw [State.addEntry_slot]
      have hne : ¬ e.slot = some k := fun h => (hslot k h).elim ha hd
      simp only [if_neg hne, h4 k ha hd]
    · exact (hstate .s0).symm.trans ha
    · exact (hstate .s1).symm.trans hb
    · exact (hstate .s0).symm.trans ha
    · exact (hstate .s1).symm.trans hb
    · rw [State.addEntry_mga] at hv
      rw [hstate]
      exact h7 v k hv hk
  | _ => exact hs

theorem State.booksAgree.ended {s : State} (hs : s.booksAgree) : s.endService.booksAgree := by
  obtain ⟨h1, h2, h3, h4, h5, h6, h7⟩ := hs
  exact ⟨h1, h2, h3, h4, h5, h6, fun w k hw => by cases hw⟩

/-! ## Capacities -/

theorem Move.withinCapacity {s t : State} (h : Move s t) (hs : s.withinCapacity) : t.withinCapacity := by
  obtain ⟨h1, h2, h3, h4, h5, h6, h7, h8, h9, h10, h11, h12, h13, h14⟩ := id hs
  cases h with
  | act h => exact h.withinCapacity hs
  | setup f hh => exact ⟨h1, h2, h3, h4, h5, h6, h7, h8, h9, h10, h11, h12, hh h13, h14⟩
  | took =>
    exact ⟨h1, h2, h3, h4, h5, h6, h7, h8, h9, h10, by simp [State.takeRequest, State.onMga]; omega, h12, h13, h14⟩
  | queued r hroom =>
    exact ⟨h1, h2, h3, h4, h5, h6, h7, h8, h9, h10, by simpa [State.onMga] using hroom, h12, h13, h14⟩
  | activate k hv hd =>
    unfold State.activated
    dsimp only
    split <;> exact hs
  | start => exact ⟨h1, Nat.zero_le _, h3, h4, h5, h6, h7, h8, h9, h10, h11, h12, h13, h14⟩
  | entered e hrun hroom hslot =>
    refine ⟨by rw [State.addEntry_length]; exact hroom, by rw [State.addEntry_ctr]; exact h2, ?_⟩
    unfold State.averageLength State.valve at *
    simp only [State.addEntry_wge, State.addEntry_gtc, State.addEntry_lif, State.addEntry_mga, State.addEntry_setup,
      State.addEntry_drg]
    exact ⟨h3, h4, h5, h6, h7, h8, h9, h10, h11, h12, h13, h14⟩
  | debt n hn =>
    exact ⟨h1, hn.trans (max_le h2 le_rfl), h3, h4, h5, h6, h7, h8, h9, h10, h11, h12, h13, h14⟩
  | _ => exact hs

/-- A reply joins a REPLY queue with room while no request is in service. -/
theorem State.withinCapacity.reply_joins {s : State} (hs : s.withinCapacity) (hsv : s.mga.service = none)
    (hroom : s.lif.reply.length < 4) (x : Queued) :
    (s.onLif fun l => { l with reply := l.reply ++ [x] }).withinCapacity := by
  obtain ⟨h1, h2, h3, h4, h5, h6, h7, h8, h9, h10, h11, h12, h13, h14⟩ := hs
  refine ⟨h1, h2, h3, h4, h5, h6, h7, ?_, h9, h10, h11, fun h => ?_, h13, h14⟩
  · simpa [State.onLif] using hroom
  · rw [State.onLif_mga, hsv] at h
    cases h

end Sys2Proof.Machine
end

section
/-!
The Can Tracker's operations as elementary changes, and what is outstanding as it is taken (log 6).
-/

namespace Sys2Proof.Machine

/-! ## What an arrival leaves of the course of things -/

theorem State.addEntry_course (s : State) (e : Entry) : SameCourse s (s.addEntry e) where
  pending := s.addEntry_pending e
  pins := s.addEntry_pins e
  setup := s.addEntry_setup e
  freeCount := s.addEntry_freeCount e
  phase := by rw [State.addEntry_sup]
  requests := by rw [State.addEntry_mga]
  service := by rw [State.addEntry_mga]
  reply := by rw [State.addEntry_lif]
  ctr := by rw [State.addEntry_ctr]
  points := ⟨fun _ => true, by rw [State.addEntry_ctr]; simp⟩
  slots k := by rw [State.addEntry_slot]; exact ⟨rfl, .inl rfl⟩

theorem State.addEntry_queue_ne (s : State) (e : Entry) : (s.addEntry e).ctr.queue ≠ [] :=
  List.ne_nil_of_length_pos (by rw [State.addEntry_length]; omega)

/-- An arrival paired with an entry, as elementary changes. -/
theorem State.pair_acts (s : State) {e : Entry} (he : e ∈ s.ctr.queue) (q : Pos) :
    Acts (Eq e.tag) s (s.pair e q) := by
  have hm : Acts (Eq e.tag) s (s.onEntry e.tag fun x => { x with infeedPos := some q, stage := .weighing }) :=
    Relation.ReflTransGen.single (.mark s e.tag rfl _ fun _ => ⟨rfl, rfl, nofun⟩)
  have hq := State.onEntry_queue_ne (tag := e.tag) (f := fun x => { x with infeedPos := some q, stage := .weighing })
    (List.ne_nil_of_mem he)
  exact ((hm.same ((SameCans.refl _).slipRun 0)).bump .paired).arrived rfl e.slot hq

/-- A stray arrival at a full queue. -/
theorem State.untracked_sameCans (s : State) :
    SameCans s (((s.bump .untracked).addCause .untrackedCan).raiseSlip) :=
  (((SameCans.refl s).bump _).addCause _).raiseSlip

/-- The entry a stray arrival makes (R24). -/
def State.strayEntry (s : State) (q : Pos) : Entry :=
  { newEntry .stray .weighing s.activeSlot s.cck.generation with infeedPos := some q }

/-- A stray arrival with room in the queue: the entry is made, and the rest are elementary changes (R24, R25). -/
theorem State.strayArrives_room {s : State} (h : s.ctr.queue.length < 256) (q : Pos) :
    s.strayArrives q = ((((s.addEntry (s.strayEntry q)).bump .strays).raiseSlip).arrived
      (s.tagOf s.freeIndex) s.activeSlot) := by
  unfold State.strayArrives
  rw [if_pos h]
  rfl

theorem State.stray_acts (s : State) (e : Entry) (tag : Tag) (slot : Option SlotId) :
    Acts (Eq tag) (s.addEntry e) ((((s.addEntry e).bump .strays).raiseSlip).arrived tag slot) := by
  have h : SameCans (s.addEntry e) (((s.addEntry e).bump .strays).raiseSlip) :=
    ((SameCans.refl _).bump _).raiseSlip
  exact Acts.arrived (Acts.same .refl h) rfl slot (h.queue_ne (s.addEntry_queue_ne e))

theorem State.strayArrives_course (s : State) (q : Pos) : SameCourse s (s.strayArrives q) := by
  by_cases h : s.ctr.queue.length < 256
  · rw [State.strayArrives_room h]
    exact (s.addEntry_course _).trans (s.stray_acts _ _ _).course
  · unfold State.strayArrives
    rw [if_neg h]
    exact s.untracked_sameCans.course

/-- An arrival leaves the position, the eyes, what they have recognised, and the setup as they are. -/
theorem State.infeedArrives_course (s : State) (q : Pos) : SameCourse s (s.infeedArrives q) := by
  have hb : ∀ c, SameCourse s (s.bump c) := fun c => ((SameCans.refl s).bump c).course
  unfold State.infeedArrives
  split
  · exact hb _
  · dsimp only
    split
    · exact (hb _).trans (State.strayArrives_course _ q)
    · split
      · rename_i e he _
        exact (hb _).trans (State.pair_acts (s.bump .arrivals) (List.mem_of_find?_eq_some he) q).course
      · exact (hb _).trans (State.strayArrives_course _ q)

theorem SameCourse.infeedDue {s t : State} (h : SameCourse s t) : t.ctr.infeedDue = s.ctr.infeedDue := by rw [h.ctr]
theorem SameCourse.confirmDue {s t : State} (h : SameCourse s t) : t.ctr.confirmDue = s.ctr.confirmDue := by
  rw [h.ctr]
theorem SameCourse.position {s t : State} (h : SameCourse s t) : t.ctr.position = s.ctr.position := by rw [h.ctr]
theorem SameCourse.run {s t : State} (h : SameCourse s t) : t.ctr.run = s.ctr.run := by rw [h.ctr]
theorem SameCourse.infeed {s t : State} (h : SameCourse s t) : t.ctr.infeed = s.ctr.infeed := by rw [h.ctr]
theorem SameCourse.confirm {s t : State} (h : SameCourse s t) : t.ctr.confirm = s.ctr.confirm := by rw [h.ctr]
theorem SameCourse.debt {s t : State} (h : SameCourse s t) : t.ctr.debt = s.ctr.debt := by rw [h.ctr]

/-! ## The four stages of taking what is outstanding (log 6) -/

/-- Every infeed arrival that waits is taken. -/
def State.takeInfeed (s : State) : State :=
  s.ctr.infeedDue.foldl (fun t q => (t.onCtr fun c => { c with infeedDue := c.infeedDue.tail }).infeedArrives q) s

/-- Every confirm arrival that waits is taken. -/
def State.takeConfirm (s : State) : State :=
  s.ctr.confirmDue.foldl (fun t y => (t.onCtr fun c => { c with confirmDue := c.confirmDue.tail }).confirmArrives y) s

/-- Every expiry that is reached is taken. -/
def State.takeExpiries (s : State) : State := s.expireAll s.ctr.queue.length

/-- Every point that is due is taken. -/
def State.takePoints (s : State) : State :=
  s.ctr.pointsDue.foldl (fun t d => t.atPoint d.tag d.point d.point.act) s

theorem State.takeOutstanding_eq (s : State) :
    s.takeOutstanding = s.takeInfeed.takeConfirm.takeExpiries.takePoints := rfl

theorem State.takeInfeed_nil {s : State} (h : s.ctr.infeedDue = []) : s.takeInfeed = s := by
  rw [State.takeInfeed, h, List.foldl_nil]

theorem State.takeConfirm_nil {s : State} (h : s.ctr.confirmDue = []) : s.takeConfirm = s := by
  rw [State.takeConfirm, h, List.foldl_nil]

theorem State.takePoints_nil {s : State} (h : s.ctr.pointsDue = []) : s.takePoints = s := by
  rw [State.takePoints, h, List.foldl_nil]

/-- The first infeed arrival is taken, then the others. -/
theorem State.takeInfeed_cons {s : State} {q : Pos} {rest : List Pos} (h : s.ctr.infeedDue = q :: rest) :
    s.takeInfeed = ((s.onCtr fun c => { c with infeedDue := rest }).infeedArrives q).takeInfeed := by
  have htail : (s.onCtr fun c => { c with infeedDue := c.infeedDue.tail }) =
      s.onCtr fun c => { c with infeedDue := rest } := by simp only [State.onCtr, h, List.tail_cons]
  have hdue := (State.infeedArrives_course (s.onCtr fun c => { c with infeedDue := rest }) q).infeedDue
  rw [State.takeInfeed, h, List.foldl_cons, htail, State.takeInfeed, hdue]
  rfl

theorem State.confirmArrives_course (s : State) (y : Pos) : SameCourse s (s.confirmArrives y) :=
  (Acts.confirmArrives (t := s) .refl anyCan y).course

theorem State.takeConfirm_cons {s : State} {y : Pos} {rest : List Pos} (h : s.ctr.confirmDue = y :: rest) :
    s.takeConfirm = ((s.onCtr fun c => { c with confirmDue := rest }).confirmArrives y).takeConfirm := by
  have htail : (s.onCtr fun c => { c with confirmDue := c.confirmDue.tail }) =
      s.onCtr fun c => { c with confirmDue := rest } := by simp only [State.onCtr, h, List.tail_cons]
  have hdue := (State.confirmArrives_course (s.onCtr fun c => { c with confirmDue := rest }) y).confirmDue
  rw [State.takeConfirm, h, List.foldl_cons, htail, State.takeConfirm, hdue]
  rfl

/-- What every arrival keeps, taking them all keeps. -/
theorem State.takeInfeed_keeps {P : State → Prop}
    (hk : ∀ (u : State) (q : Pos) (rest : List Pos), u.ctr.infeedDue = q :: rest → P u →
      P ((u.onCtr fun c => { c with infeedDue := rest }).infeedArrives q)) (s : State) (hs : P s) :
    P s.takeInfeed ∧ s.takeInfeed.ctr.infeedDue = [] := by
  generalize hl : s.ctr.infeedDue = l
  induction l generalizing s with
  | nil => rw [State.takeInfeed_nil hl]; exact ⟨hs, hl⟩
  | cons q rest ih =>
    rw [State.takeInfeed_cons hl]
    exact ih _ (hk s q rest hl hs) (State.infeedArrives_course _ q).infeedDue

theorem State.takeConfirm_keeps {P : State → Prop}
    (hk : ∀ (u : State) (y : Pos) (rest : List Pos), u.ctr.confirmDue = y :: rest → P u →
      P ((u.onCtr fun c => { c with confirmDue := rest }).confirmArrives y)) (s : State) (hs : P s) :
    P s.takeConfirm ∧ s.takeConfirm.ctr.confirmDue = [] := by
  generalize hl : s.ctr.confirmDue = l
  induction l generalizing s with
  | nil => rw [State.takeConfirm_nil hl]; exact ⟨hs, hl⟩
  | cons y rest ih =>
    rw [State.takeConfirm_cons hl]
    exact ih _ (hk s y rest hl hs) (State.confirmArrives_course _ y).confirmDue

/-! ## The points that are due -/

theorem State.atPoint_absent {s : State} {tag : Tag} {p : Point} (h : ∀ d ∈ s.ctr.pointsDue, d.tag ≠ tag)
    (act : State → Tag → State) : s.atPoint tag p act = s := by
  have hnone : (s.ctr.pointsDue.find? fun d => d.tag == tag) = none :=
    List.find?_eq_none.mpr fun d hd => by simpa using h d hd
  rw [State.atPoint, State.pointIsDue, hnone]
  simp

/-- The first point that is due is the next of its entry. -/
theorem State.atPoint_head {s : State} {d : PointDue} {rest : List PointDue} (hp : s.sup.phase = .running)
    (h : s.ctr.pointsDue = d :: rest) (act : State → Tag → State) :
    s.atPoint d.tag d.point act = act (s.onCtr fun c => { c with pointsDue := rest }) d.tag := by
  have hdue : s.pointIsDue d.tag d.point = true := by simp [State.pointIsDue, h]
  have htaken : (s.onCtr fun c => { c with pointsDue := c.pointsDue.erase { tag := d.tag, point := d.point } }) =
      s.onCtr fun c => { c with pointsDue := rest } := by
    simp only [State.onCtr, h, List.erase_cons_head]
  rw [State.atPoint, if_pos (by simp [State.taking, hp, hdue]), htaken]

/-- A point that is taken leaves the course of things, but for that point. -/
theorem State.point_course (s : State) (p : Point) (tag : Tag) : SameCourse s (p.act s tag) :=
  (Acts.point (T := (Eq tag)) (t := s) .refl p rfl).course

theorem filter_tag_and (l : List PointDue) (p q : Tag → Bool) :
    (l.filter fun d => p d.tag).filter (fun d => q d.tag) = l.filter fun d => p d.tag && q d.tag := by
  rw [List.filter_filter]
  exact List.filter_congr fun d _ => Bool.and_comm _ _

/-- Points of tags whose points are gone are passed over. -/
theorem State.foldl_points_filter (l : List PointDue) : ∀ (s : State) (p q : Tag → Bool), s.sup.phase = .running →
    s.ctr.pointsDue = (l.filter fun d => p d.tag && q d.tag) →
    (l.filter fun d => p d.tag).foldl (fun t d => t.atPoint d.tag d.point d.point.act) s =
      (l.filter fun d => p d.tag && q d.tag).foldl (fun t d => t.atPoint d.tag d.point d.point.act) s := by
  induction l with
  | nil => intros; rfl
  | cons d l ih =>
    intro s p q hr hs
    by_cases hp : p d.tag = true
    · by_cases hq : q d.tag = true
      · have hpq : (p d.tag && q d.tag) = true := by simp [hp, hq]
        rw [List.filter_cons_of_pos (p := fun d : PointDue => p d.tag && q d.tag) hpq] at hs
        rw [List.filter_cons_of_pos (p := fun d : PointDue => p d.tag) hp, List.filter_cons_of_pos (p := fun d : PointDue => p d.tag && q d.tag) hpq, List.foldl_cons, List.foldl_cons,
          State.atPoint_head hr hs]
        have hc := State.point_course
          (s.onCtr fun c => { c with pointsDue := l.filter fun d => p d.tag && q d.tag }) d.point d.tag
        obtain ⟨r, hpts⟩ := hc.points
        simp only [State.onCtr_ctr] at hpts
        have hr' := hc.phase.trans hr
        rw [filter_tag_and l (fun t => p t && q t) r] at hpts
        rw [ih _ p (fun t => q t && r t) hr' (by rw [hpts]; simp only [Bool.and_assoc]),
          ih _ (fun t => p t && q t) r hr' hpts]
        simp only [Bool.and_assoc]
      · have hpq : ¬ (p d.tag && q d.tag) = true := by simp [hq]
        rw [List.filter_cons_of_neg (p := fun d : PointDue => p d.tag && q d.tag) hpq] at hs ⊢
        rw [List.filter_cons_of_pos (p := fun d : PointDue => p d.tag) hp, List.foldl_cons, State.atPoint_absent ?_, ih s p q hr hs]
        intro x hx hxd
        rw [hs] at hx
        have := (List.mem_filter.mp hx).2
        rw [hxd] at this
        exact hpq this
    · have hpq : ¬ (p d.tag && q d.tag) = true := by simp [hp]
      rw [List.filter_cons_of_neg (p := fun d : PointDue => p d.tag && q d.tag) hpq] at hs ⊢
      rw [List.filter_cons_of_neg (p := fun d : PointDue => p d.tag) hp, ih s p q hr hs]

/-- The first point that is due is taken, then those that are still due. -/
theorem State.takePoints_cons {s : State} {d : PointDue} {rest : List PointDue} (hp : s.sup.phase = .running)
    (h : s.ctr.pointsDue = d :: rest) :
    s.takePoints = (d.point.act (s.onCtr fun c => { c with pointsDue := rest }) d.tag).takePoints := by
  have hc := State.point_course (s.onCtr fun c => { c with pointsDue := rest }) d.point d.tag
  obtain ⟨r, hpts⟩ := hc.points
  simp only [State.onCtr_ctr] at hpts
  rw [State.takePoints, h, List.foldl_cons, State.atPoint_head hp h, State.takePoints, hpts]
  have := State.foldl_points_filter rest _ (fun _ => true) r (hc.phase.trans hp) (by simpa using hpts)
  simpa using this

/-- What every point's act keeps, taking them all keeps; and none stays due. -/
theorem State.takePoints_keeps {P : State → Prop}
    (hk : ∀ (u : State) (d : PointDue) (rest : List PointDue), u.sup.phase = .running → u.ctr.pointsDue = d :: rest →
      P u → P (d.point.act (u.onCtr fun c => { c with pointsDue := rest }) d.tag))
    (s : State) (hp : s.sup.phase = .running) (hs : P s) : P s.takePoints ∧ s.takePoints.ctr.pointsDue = [] := by
  generalize hn : s.ctr.pointsDue.length = n
  induction n using Nat.strong_induction_on generalizing s with
  | _ n ih =>
    cases hl : s.ctr.pointsDue with
    | nil => rw [State.takePoints_nil hl]; exact ⟨hs, hl⟩
    | cons d rest =>
      rw [State.takePoints_cons hp hl]
      have hc := State.point_course (s.onCtr fun c => { c with pointsDue := rest }) d.point d.tag
      refine ih _ ?_ _ (hc.phase.trans hp) (hk s d rest hp hl hs) rfl
      obtain ⟨r, hpts⟩ := hc.points
      rw [← hn, hl, hpts]
      exact Nat.lt_succ_of_le (List.length_filter_le _ _)

theorem State.takeExpiries_course (s : State) : SameCourse s s.takeExpiries :=
  (Acts.expireAll (t := s) .refl anyCan _).course

/-- From `s` to `t` the part stands where it stood: its phase, its setup, its pins, the position, the eye monitors and
the run state. -/
structure SameStand (s t : State) : Prop where
  phase : t.sup.phase = s.sup.phase
  setup : t.setup = s.setup
  pins : t.pins = s.pins
  position : t.ctr.position = s.ctr.position
  infeed : t.ctr.infeed = s.ctr.infeed
  confirm : t.ctr.confirm = s.ctr.confirm
  debt : t.ctr.debt = s.ctr.debt
  run : t.ctr.run = s.ctr.run
  pending : t.pending = s.pending
  service : t.mga.service = s.mga.service
  requests : t.mga.requests = s.mga.requests

theorem SameStand.refl (s : State) : SameStand s s := ⟨rfl, rfl, rfl, rfl, rfl, rfl, rfl, rfl, rfl, rfl, rfl⟩

theorem SameStand.trans {s t u : State} (h : SameStand s t) (g : SameStand t u) : SameStand s u :=
  ⟨g.phase.trans h.phase, g.setup.trans h.setup, g.pins.trans h.pins, g.position.trans h.position,
    g.infeed.trans h.infeed, g.confirm.trans h.confirm, g.debt.trans h.debt, g.run.trans h.run,
    g.pending.trans h.pending, g.service.trans h.service, g.requests.trans h.requests⟩

theorem SameCourse.stand {s t : State} (h : SameCourse s t) : SameStand s t :=
  ⟨h.phase, h.setup, h.pins, h.position, h.infeed, h.confirm, h.debt, h.run, h.pending, h.service, h.requests⟩

theorem State.takeInfeed_stand (s : State) : SameStand s s.takeInfeed :=
  (State.takeInfeed_keeps (P := SameStand s)
    (fun u q rest _ hu => hu.trans (.trans (t := u.onCtr fun c => { c with infeedDue := rest })
      { SameStand.refl u with } (State.infeedArrives_course _ q).stand)) s (SameStand.refl s)).1

theorem State.takeInfeed_infeedDue (s : State) : s.takeInfeed.ctr.infeedDue = [] :=
  (State.takeInfeed_keeps (P := fun _ => True) (fun _ _ _ _ _ => trivial) s trivial).2

theorem State.takeConfirm_stand (s : State) : SameStand s s.takeConfirm :=
  (State.takeConfirm_keeps (P := SameStand s)
    (fun u y rest _ hu => hu.trans (.trans (t := u.onCtr fun c => { c with confirmDue := rest })
      { SameStand.refl u with } (State.confirmArrives_course _ y).stand)) s (SameStand.refl s)).1

theorem State.takeConfirm_confirmDue (s : State) : s.takeConfirm.ctr.confirmDue = [] :=
  (State.takeConfirm_keeps (P := fun _ => True) (fun _ _ _ _ _ => trivial) s trivial).2

theorem State.takeConfirm_infeedDue {s : State} (h : s.ctr.infeedDue = []) : s.takeConfirm.ctr.infeedDue = [] :=
  (State.takeConfirm_keeps (P := fun u => u.ctr.infeedDue = [])
    (fun _ y _ _ hu => (State.confirmArrives_course _ y).infeedDue.trans hu) s h).1

section
variable {s : State} (hp : s.sup.phase = .running)
include hp

theorem State.takePoints_stand : SameStand s s.takePoints :=
  (State.takePoints_keeps (P := SameStand s)
    (fun u d rest _ _ hu => hu.trans (.trans (t := u.onCtr fun c => { c with pointsDue := rest })
      { SameStand.refl u with } (State.point_course _ d.point d.tag).stand)) s hp (SameStand.refl s)).1

theorem State.takePoints_pointsDue : s.takePoints.ctr.pointsDue = [] :=
  (State.takePoints_keeps (P := fun _ => True) (fun _ _ _ _ _ _ => trivial) s hp trivial).2

theorem State.takePoints_waits :
    s.takePoints.ctr.infeedDue = s.ctr.infeedDue ∧ s.takePoints.ctr.confirmDue = s.ctr.confirmDue :=
  (State.takePoints_keeps (P := fun u => u.ctr.infeedDue = s.ctr.infeedDue ∧ u.ctr.confirmDue = s.ctr.confirmDue)
    (fun _ d _ _ _ hu => ⟨(State.point_course _ d.point d.tag).infeedDue.trans hu.1,
      (State.point_course _ d.point d.tag).confirmDue.trans hu.2⟩) s hp ⟨rfl, rfl⟩).1

/-- Before the points are taken. -/
theorem State.takeExpiries_stand :
    SameStand s s.takeInfeed.takeConfirm.takeExpiries ∧ s.takeInfeed.takeConfirm.takeExpiries.sup.phase = .running := by
  have h := (s.takeInfeed_stand.trans s.takeInfeed.takeConfirm_stand).trans
    s.takeInfeed.takeConfirm.takeExpiries_course.stand
  exact ⟨h, h.phase.trans hp⟩

theorem State.takeOutstanding_stand : SameStand s s.takeOutstanding := by
  obtain ⟨h, hp'⟩ := State.takeExpiries_stand hp
  exact h.trans (State.takePoints_stand hp')

theorem State.takeOutstanding_pointsDue : s.takeOutstanding.ctr.pointsDue = [] :=
  State.takePoints_pointsDue (State.takeExpiries_stand hp).2

theorem State.takeOutstanding_infeedDue : s.takeOutstanding.ctr.infeedDue = [] := by
  rw [State.takeOutstanding_eq, (State.takePoints_waits (State.takeExpiries_stand hp).2).1,
    (State.takeExpiries_course _).infeedDue]
  exact State.takeConfirm_infeedDue s.takeInfeed_infeedDue

theorem State.takeOutstanding_confirmDue : s.takeOutstanding.ctr.confirmDue = [] := by
  rw [State.takeOutstanding_eq, (State.takePoints_waits (State.takeExpiries_stand hp).2).2,
    (State.takeExpiries_course _).confirmDue]
  exact s.takeInfeed.takeConfirm_confirmDue

end

end Sys2Proof.Machine
end

section
/-!
What happens at the eyes, at an arrival, a discharge and an advance, as elementary changes.
-/

namespace Sys2Proof.Machine

/-! ## A flush empties the tracking (R14) -/

theorem State.retire_queue (s : State) (out : ExitOutcome) (tag : Tag) :
    (s.retire out tag).ctr.queue = s.ctr.queue.filter fun x => x.tag != tag := by
  cases he : s.entry tag with
  | none =>
    rw [State.retire_absent he]
    refine (List.filter_eq_self.mpr fun x hx => ?_).symm
    simpa using List.find?_eq_none.mp he x hx
  | some e =>
    unfold State.retire
    rw [he]
    dsimp only
    split <;> simp

/-- Every entry of the queue retired as FLUSHED, each counted. -/
def State.flushEach (s : State) (l : List Entry) : State :=
  l.foldl (fun t e => (t.retire .flushed e.tag).bump .flushed) s

theorem State.flushEach_queue (l : List Entry) : ∀ s : State,
    (s.flushEach l).ctr.queue = s.ctr.queue.filter fun x => l.all fun e => x.tag != e.tag := by
  induction l with
  | nil => intro s; simp [State.flushEach]
  | cons e l ih =>
    intro s
    have h := ih ((s.retire .flushed e.tag).bump .flushed)
    rw [State.bump_ctr, State.retire_queue, List.filter_filter] at h
    rw [State.flushEach, List.foldl_cons]
    refine h.trans (List.filter_congr fun x _ => ?_)
    rw [List.all_cons, Bool.and_comm]

/-- Nothing is left of the entries that are all retired. -/
theorem State.flushEach_all (s : State) : (s.flushEach s.ctr.queue).ctr.queue = [] := by
  rw [State.flushEach_queue, List.filter_eq_nil_iff]
  intro x hx h
  have := List.all_eq_true.mp h x hx
  simp at this

theorem State.flush_eq (s : State) : s.flush = ((((s.flushEach s.ctr.queue).onGtc fun g => { g with rejects := [] }).onWge
    fun w => { w with records := [] }).onCtr fun c => { c with slipRun := 0, pointsDue := [] }) := rfl

theorem State.flush_queue (s : State) : s.flush.ctr.queue = [] := s.flushEach_all

theorem State.flush_rejects (s : State) : s.flush.gtc.rejects = [] := rfl

theorem State.flush_records (s : State) : s.flush.wge.records = [] := rfl

/-! ## The draining check (R142) -/

theorem State.drainCheck_moves (s : State) (k : SlotId) (m : DrainMoment) : Moves s (s.drainCheck k m) := by
  rw [State.drainCheck_eq]
  split
  · rename_i h
    exact .tail (.single (.drained s k h.1 h.2)) (.act (.same (((SameCans.refl _).notify _).bump _)))
  · exact .refl

theorem State.changeTo_moves {s : State} {k : SlotId} (hv : (s.rcs.slot k).state = .verified)
    (hd : s.drainingSlot = none) : Moves s (s.changeTo k) := by
  have hact : Moves s (s.activated k) := .single (.activate s k hv hd)
  have hclear : SameCans (s.activated k) (if (s.activated k).sup.holdDrg then s.activated k
      else (s.activated k).clearTable ((s.activated k).image k).recipeId) := by
    split
    · exact SameCans.refl _
    · exact (SameCans.refl _).clearTable _
  exact .tail (Relation.ReflTransGen.trans (hact.tail (.act (.same hclear))) (State.drainCheck_moves _ _ _))
    (.act (.same ((SameCans.refl _).bump _)))

/-! ## Slots in use -/

theorem State.activeSlot_active {s : State} {k : SlotId} (hk : s.activeSlot = some k) :
    (s.rcs.slot k).state = .active := by
  unfold State.activeSlot State.slotIn at hk
  split at hk
  · cases hk; assumption
  · split at hk
    · cases hk; assumption
    · cases hk

theorem State.drainingSlot_draining {s : State} {k : SlotId} (hk : s.drainingSlot = some k) :
    (s.rcs.slot k).state = .draining := by
  unfold State.drainingSlot State.slotIn at hk
  split at hk
  · cases hk; assumption
  · split at hk
    · cases hk; assumption
    · cases hk

/-- A discharge's recipe id gives a slot in use (R19). -/
theorem State.slotForId_inUse {s : State} {id : Nat} {k : SlotId} (hk : s.slotForId id = some k) :
    (s.rcs.slot k).state = .active ∨ (s.rcs.slot k).state = .draining := by
  unfold State.slotForId at hk
  rcases Option.or_eq_some_iff.mp hk with hk | ⟨_, hk⟩
  · exact .inl (State.activeSlot_active (Option.filter_eq_some_iff.mp hk).1)
  · exact .inr (State.drainingSlot_draining (Option.filter_eq_some_iff.mp hk).1)

/-! ## A discharge (R18 to R20) -/

/-- `s` once a discharge is counted and its valve's epoch compared. -/
def State.epochCompared (s : State) (d : Discharge) : State :=
  if s.inert d.valve then s.bump .discharges else (s.bump .discharges).takeEpoch d.valve d.epoch

/-- The entry a discharge makes (R20). -/
def State.dischargeEntry (s : State) (d : Discharge) : Entry :=
  { newEntry .filled .enRoute (s.slotForId d.recipeId) s.cck.generation with
    valve := if s.inert d.valve then none else some d.valve
    serial := some d.serial
    epoch := some d.epoch
    dischargePos := some s.ctr.position
    expectedPos := some (s.ctr.position + dist s.pathLength)
    stale := !s.inert d.valve && s.staleAt d.valve d.epoch }

theorem State.discharge_eq (s : State) (d : Discharge) : s.discharge d =
    if s.ctr.queue.length < 256 then
      if s.inert d.valve then ((s.epochCompared d).addEntry (s.dischargeEntry d)).bump .badValve
      else (s.epochCompared d).addEntry (s.dischargeEntry d)
    else (s.epochCompared d).bump .trackOverflow := by
  unfold State.discharge State.epochCompared State.dischargeEntry
  cases s.inert d.valve <;> rfl

theorem State.epochCompared_sameCans (s : State) (d : Discharge) : SameCans s (s.epochCompared d) := by
  unfold State.epochCompared
  split
  · exact (SameCans.refl s).bump _
  · exact ((SameCans.refl s).bump _).takeEpoch _ _

theorem State.trackingRuns_iff (s : State) : s.trackingRuns = true ↔ s.ctr.run = .running := by
  simp [State.trackingRuns]

namespace Moves

variable {s t : State} (h : Moves s t)
include h

theorem move {u : State} (g : Move t u) : Moves s u := Relation.ReflTransGen.tail h g

theorem same {u : State} (g : SameCans t u) : Moves s u := h.move (.act (.same g))

theorem acts {T : Tag → Prop} {u : State} (g : Acts T t u) : Moves s u := by
  induction g with
  | refl => exact h
  | tail _ g ih => exact ih.move (.act g.any)

theorem trans {u : State} (g : Moves t u) : Moves s u := Relation.ReflTransGen.trans h g

theorem bump (c : Counter) : Moves s (t.bump c) := h.same ((SameCans.refl t).bump c)

/-! ## The eyes -/

/-- A monitor that holds nothing pending, or what it latches now. -/
theorem setMonitor (eye : Eye) (m : EyeMonitor) (hm : m.state = .pending → m.latched = t.ctr.position) :
    Moves s (t.setMonitor eye m) := by
  cases eye
  · exact h.move (.infeedEye t m hm)
  · exact h.move (.confirm t m t.ctr.confirmDue)

theorem eyeBlocks (eye : Eye) : Moves s (t.eyeBlocks eye) := by
  unfold State.eyeBlocks
  split
  · exact h
  · split
    · cases eye
      · exact h.move (.recognisedHere t { state := .taken, latched := t.ctr.position } (by simp))
      · exact h.move (.confirm t { state := .taken, latched := t.ctr.position } (t.ctr.confirmDue ++ [t.ctr.position]))
    · exact h.setMonitor eye _ fun _ => rfl

theorem eyeClears (eye : Eye) : Moves s (t.eyeClears eye) := by
  unfold State.eyeClears
  split
  · exact h
  · exact (h.setMonitor eye _ fun hm => by cases hm).bump _
  · exact h.setMonitor eye _ fun hm => by cases hm

/-- A pending monitor recognises what it has latched. -/
theorem recognise (eye : Eye) (hp : (t.monitor eye).state = .pending) :
    Moves s (t.recognise eye (t.monitor eye).latched) := by
  cases eye
  · exact h.move (.recognised t hp)
  · exact h.move (.confirm t { state := .taken, latched := t.ctr.confirm.latched }
      (t.ctr.confirmDue ++ [t.ctr.confirm.latched]))

theorem debounce (eye : Eye) : Moves s (t.debounce eye) := by
  unfold State.debounce
  split
  · rename_i hp
    exact h.recognise eye hp.1
  · exact h

theorem minBlockChanged (eye : Eye) : Moves s (t.minBlockChanged eye) := by
  unfold State.minBlockChanged
  split
  · rename_i hp
    exact h.recognise eye hp.1
  · exact h

theorem watchEye (eye : Eye) : Moves s (t.watchEye eye) := by
  unfold State.watchEye
  split
  · exact h.eyeBlocks eye
  · exact h

theorem polarityChanged (eye : Eye) : Moves s (t.polarityChanged eye) :=
  (h.setMonitor eye _ fun hm => by cases hm).watchEye eye

/-! ## Arrivals and discharges -/

theorem strayArrives (hr : t.ctr.run = .running) (q : Pos) : Moves s (t.strayArrives q) := by
  by_cases hroom : t.ctr.queue.length < 256
  · rw [State.strayArrives_room hroom]
    exact (h.move (.entered t (t.strayEntry q) hr hroom fun k hk => .inl (State.activeSlot_active hk))).acts
      (t.stray_acts _ _ _)
  · unfold State.strayArrives
    rw [if_neg hroom]
    exact h.same t.untracked_sameCans

theorem infeedArrives (q : Pos) : Moves s (t.infeedArrives q) := by
  unfold State.infeedArrives
  split
  · exact h.bump _
  · rename_i hr
    have hrun : t.ctr.run = .running := by
      cases hc : t.ctr.run
      · simp [State.trackingRuns, hc] at hr
      · rfl
    dsimp only
    split
    · exact (h.bump .arrivals).strayArrives hrun q
    · split
      · rename_i e he _
        exact (h.bump .arrivals).acts ((t.bump .arrivals).pair_acts (List.mem_of_find?_eq_some he) q)
      · exact (h.bump .arrivals).strayArrives hrun q

theorem discharge (hr : t.ctr.run = .running) (d : Discharge) : Moves s (t.discharge d) := by
  have hepoch := t.epochCompared_sameCans d
  rw [State.discharge_eq]
  split
  · rename_i hroom
    have hlen := congrArg List.length hepoch.queue
    simp only [List.length_map] at hlen
    have hadd := (h.same hepoch).move (.entered _ (t.dischargeEntry d) (by rw [hepoch.ctr]; exact hr)
      (by rw [hlen]; exact hroom) fun k hk => by rw [hepoch.rcs]; exact State.slotForId_inUse hk)
    split
    · exact hadd.bump _
    · exact hadd
  · exact (h.same hepoch).bump _

/-! ## The encoder -/

theorem advance (hd : t.ctr.infeedDue = []) : Moves s t.advance := by
  have h1 := ((h.move (.advanced t hd)).debounce .infeed).debounce .confirm
  exact h1.move (.points _ _)

end Moves

end Sys2Proof.Machine
end

section
/-!
A changed setup, as elementary changes.
-/

namespace Sys2Proof.Machine

/-! ## A changed setup (R171) -/

theorem State.emptyFilter_emptyFilter (s : State) : s.emptyFilter.emptyFilter = s.emptyFilter := rfl

/-- An operation on the tracking side can be done before or after the filter is emptied. -/
def Spares (f : State → State) : Prop := ∀ s : State, f s.emptyFilter = (f s).emptyFilter

theorem Spares.comp {f g : State → State} (hg : Spares g) (hf : Spares f) : Spares fun s => g (f s) := fun s =>
  (congrArg g (hf s)).trans (hg (f s))

theorem Spares.ifChanged {f : State → State} (hf : Spares f) (old : SetupImage) (off size : Nat) :
    Spares fun s => s.ifChanged old off size f := by
  intro s
  have hsetup : s.emptyFilter.setup = s.setup := rfl
  simp only [State.ifChanged, hsetup]
  split
  · rfl
  · exact hf s

theorem spares_recognise (eye : Eye) (latched : Pos) (s : State) :
    s.emptyFilter.recognise eye latched = (s.recognise eye latched).emptyFilter := by cases eye <;> rfl

theorem spares_setMonitor (eye : Eye) (m : EyeMonitor) (s : State) :
    s.emptyFilter.setMonitor eye m = (s.setMonitor eye m).emptyFilter := by cases eye <;> rfl

theorem emptyFilter_monitor (eye : Eye) (s : State) : s.emptyFilter.monitor eye = s.monitor eye := by cases eye <;> rfl

theorem spares_minBlockChanged (eye : Eye) : Spares fun s => s.minBlockChanged eye := by
  intro s
  have hb : s.emptyFilter.minBlock = s.minBlock := rfl
  have hp : s.emptyFilter.ctr = s.ctr := rfl
  simp only [State.minBlockChanged, emptyFilter_monitor, hb, hp]
  split
  · exact spares_recognise _ _ s
  · rfl

theorem spares_eyeBlocks (eye : Eye) : Spares fun s => s.eyeBlocks eye := by
  intro s
  have hb : s.emptyFilter.minBlock = s.minBlock := rfl
  have hp : s.emptyFilter.ctr = s.ctr := rfl
  simp only [State.eyeBlocks, emptyFilter_monitor, hb, hp]
  split
  · rfl
  · split
    · exact spares_recognise _ _ s
    · exact spares_setMonitor _ _ s

theorem spares_watchEye (eye : Eye) : Spares fun s => s.watchEye eye := by
  intro s
  have hb : s.emptyFilter.eyeBlocked eye = s.eyeBlocked eye := by cases eye <;> rfl
  simp only [State.watchEye, hb]
  split
  · exact spares_eyeBlocks eye s
  · rfl

theorem spares_polarityChanged (eye : Eye) : Spares fun s => s.polarityChanged eye := by
  intro s
  simp only [State.polarityChanged, emptyFilter_monitor, spares_setMonitor]
  exact spares_watchEye eye _

/-- The effects on the eyes of a changed setup. -/
def State.eyeEffects (s : State) (old : SetupImage) : State :=
  let s := s.ifChanged old 10 2 fun t => (t.minBlockChanged .infeed).minBlockChanged .confirm
  let s := s.ifChanged old 12 1 fun t => t.polarityChanged .infeed
  s.ifChanged old 13 1 fun t => t.polarityChanged .confirm

/-- The effects on the filter, the readiness inputs and the valves of a changed setup. -/
def State.otherEffects (s : State) (old : SetupImage) : State :=
  let s := s.ifChanged old 28 1 State.emptyFilter
  let s := s.ifChanged old 29 1 State.emptyFilter
  let s := s.ifChanged old 30 1 State.clearEmpty
  let s := s.ifChanged old 42 1 State.restartBin
  let s := s.ifChanged old 43 1 State.restartAir
  s.ifChanged old 47 1 fun t => t.valveCountChanged (setupNum old 47 1) t.valveCount

theorem State.setupEffects_eq (s : State) (old : SetupImage) :
    s.setupEffects old = (s.eyeEffects old).otherEffects old := rfl

theorem spares_eyeEffects (old : SetupImage) : Spares fun s => s.eyeEffects old :=
  ((spares_polarityChanged .confirm).ifChanged old 13 1).comp
    (((spares_polarityChanged .infeed).ifChanged old 12 1).comp
      (((spares_minBlockChanged .confirm).comp (spares_minBlockChanged .infeed)).ifChanged old 10 2))

/-- A changed averaging length empties the filter, whether or not it was empty before (R171). -/
theorem State.otherEffects_emptied {s : State} {old : SetupImage}
    (h : setupNum old 29 1 ≠ setupNum s.setup 29 1) : s.emptyFilter.otherEffects old = s.otherEffects old := by
  have h28 : ∀ u : State, u.setup = s.setup → (u.ifChanged old 28 1 State.emptyFilter).ifChanged old 29 1
      State.emptyFilter = u.emptyFilter := by
    intro u hu
    have hu' : (u.ifChanged old 28 1 State.emptyFilter).setup = s.setup := by
      unfold State.ifChanged
      split <;> exact hu
    rw [State.ifChanged, hu', if_neg h]
    unfold State.ifChanged
    split <;> rfl
  simp only [State.otherEffects]
  rw [h28 s.emptyFilter rfl, h28 s rfl, State.emptyFilter_emptyFilter]

theorem SameCans.ifChanged {s t : State} (h : SameCans s t) (old : SetupImage) (off size : Nat) {f : State → State}
    (hf : ∀ u, SameCans u (f u)) : SameCans s (t.ifChanged old off size f) := by
  unfold State.ifChanged
  split
  · exact h
  · exact h.trans (hf t)

theorem State.otherEffects_sameCans (s : State) (old : SetupImage) : SameCans s (s.otherEffects old) :=
  ((((((SameCans.refl s).ifChanged old 28 1 fun u => (SameCans.refl u).emptyFilter).ifChanged old 29 1
    fun u => (SameCans.refl u).emptyFilter).ifChanged old 30 1 fun u => (SameCans.refl u).clearEmpty).ifChanged old 42 1
    fun u => (SameCans.refl u).onSup _ rfl).ifChanged old 43 1 fun u => (SameCans.refl u).onSup _ rfl).ifChanged old 47 1
    fun u => (SameCans.refl u).valveCountChanged _ _

theorem Moves.ifChanged {s t : State} (h : Moves s t) (old : SetupImage) (off size : Nat) {f : State → State}
    (hf : ∀ u, Moves u (f u)) : Moves s (t.ifChanged old off size f) := by
  unfold State.ifChanged
  split
  · exact h
  · exact h.trans (hf t)

theorem Moves.eyeEffects {s t : State} (h : Moves s t) (old : SetupImage) : Moves s (t.eyeEffects old) :=
  ((h.ifChanged old 10 2 fun u => ((Moves.minBlockChanged (t := u) .refl .infeed).minBlockChanged .confirm)).ifChanged
    old 12 1 fun u => Moves.polarityChanged (t := u) .refl .infeed).ifChanged old 13 1
    fun u => Moves.polarityChanged (t := u) .refl .confirm

theorem State.ifChanged_setup (s : State) (old : SetupImage) (off size : Nat) {f : State → State}
    (hf : ∀ u, (f u).setup = u.setup) : (s.ifChanged old off size f).setup = s.setup := by
  unfold State.ifChanged
  split
  · rfl
  · exact hf s

@[simp] theorem State.recognise_setup (s : State) (eye : Eye) (x : Pos) : (s.recognise eye x).setup = s.setup := by
  cases eye <;> rfl

@[simp] theorem State.setMonitor_setup (s : State) (eye : Eye) (m : EyeMonitor) :
    (s.setMonitor eye m).setup = s.setup := by cases eye <;> rfl

@[simp] theorem State.minBlockChanged_setup (s : State) (eye : Eye) : (s.minBlockChanged eye).setup = s.setup := by
  unfold State.minBlockChanged
  split
  · exact s.recognise_setup _ _
  · rfl

@[simp] theorem State.eyeBlocks_setup (s : State) (eye : Eye) : (s.eyeBlocks eye).setup = s.setup := by
  unfold State.eyeBlocks
  split
  · rfl
  · split
    · exact s.recognise_setup _ _
    · exact s.setMonitor_setup _ _

@[simp] theorem State.polarityChanged_setup (s : State) (eye : Eye) : (s.polarityChanged eye).setup = s.setup := by
  unfold State.polarityChanged State.watchEye
  split
  · rw [State.eyeBlocks_setup, State.setMonitor_setup]
  · exact s.setMonitor_setup _ _

theorem State.eyeEffects_setup (s : State) (old : SetupImage) : (s.eyeEffects old).setup = s.setup := by
  unfold State.eyeEffects
  rw [State.ifChanged_setup _ _ _ _ fun u => u.polarityChanged_setup _,
    State.ifChanged_setup _ _ _ _ fun u => u.polarityChanged_setup _, State.ifChanged_setup]
  intro u
  rw [State.minBlockChanged_setup, State.minBlockChanged_setup]

/-- A written setup and its effects (R171): where the averaging length changes, the filter may as well be emptied
first. -/
theorem Moves.written {s t : State} (h : Moves s t) (f : SetupImage → SetupImage) : Moves s ((t.onSetup f).setupEffects t.setup) := by
  rw [State.setupEffects_eq]
  by_cases hav : setupNum t.setup 29 1 = setupNum (f t.setup) 29 1
  · have hm := (h.move (.setup t f fun hh => by rw [← hav]; exact hh)).eyeEffects t.setup
    exact hm.same (State.otherEffects_sameCans _ _)
  · have hm := ((h.same (SameCans.refl t).emptyFilter).move (.setup _ f fun _ => Nat.zero_le _)).eyeEffects t.setup
    have hsp : ((t.emptyFilter.onSetup f).eyeEffects t.setup) = ((t.onSetup f).eyeEffects t.setup).emptyFilter :=
      spares_eyeEffects t.setup (t.onSetup f)
    rw [hsp] at hm
    have := hm.same (State.otherEffects_sameCans _ t.setup)
    rwa [State.otherEffects_emptied (by rw [State.eyeEffects_setup]; exact hav)] at this

end Sys2Proof.Machine
end

section
/-!
What a command is made of, at the level of the model's own operations. A `Deed` makes no entry; an `Entering` may: it
takes an arrival or a discharge. A `Turn` is a deed, or a change of a request's service, or a reset. Every command is
intakes followed by turns, each of them elementary changes, so the invariants that those keep are kept.
-/

namespace Sys2Proof.Machine

/-- From `s` to `t` nothing changes that the cans' way depends on. -/
structure SameTrack (s t : State) : Prop where
  setup : t.setup = s.setup
  rcs : t.rcs = s.rcs
  ctr : t.ctr = { s.ctr with debt := t.ctr.debt, confirm := t.ctr.confirm, confirmDue := t.ctr.confirmDue }
  records : t.wge.records = s.wge.records
  rejects : t.gtc.rejects = s.gtc.rejects

/-- The fields of the setup that place a can's points and measure its eyes, as offset and size. -/
def placingFields : List (Nat × Nat) := [(10, 2), (14, 2), (16, 2), (18, 2), (20, 2), (22, 1), (23, 2), (25, 2)]

/-- One operation of the model that makes no entry. -/
inductive Deed : State → State → Prop
  | same {s t : State} (h : SameCans s t) : Deed s t
  | aside {s t : State} (h : Move s t) (hs : SameTrack s t) : Deed s t
  | point (s : State) (tag : Tag) (p : Point) : Deed s (s.atPoint tag p p.act)
  | confirmed (s : State) (y : Pos) : Deed s (s.confirmArrives y)
  | expired (s : State) (e : Entry) (he : s.expired = some e) : Deed s (s.expire e)
  | flushed (s : State) : Deed s s.flush
  | stopped (s : State) (hq : s.ctr.queue = []) (hr : s.gtc.rejects = []) (hw : s.wge.records = []) :
      Deed s (s.onCtr fun c => { c with run := .stopped })
  | held (s : State) : Deed s s.holdWgeBlock
  | advanced (s : State) (hi : s.ctr.infeedDue = []) (hp : s.ctr.pointsDue = []) : Deed s s.advance
  | eyeBlocked (s : State) (eye : Eye) : Deed s (s.eyeBlocks eye)
  | eyeCleared (s : State) (eye : Eye) : Deed s (s.eyeClears eye)
  /-- While tracking runs no field is written that places a can's points. -/
  | written (s : State) (f : SetupImage → SetupImage) (hlive : s.ctr.run = .running →
      ∀ x ∈ placingFields, setupNum (f s.setup) x.1 x.2 = setupNum s.setup x.1 x.2) :
      Deed s ((s.onSetup f).setupEffects s.setup)
  /-- A slot that no entry can name is loaded, discarded, or put under verification. -/
  | loaded (s : State) (k : SlotId) (f : Slot → Slot) (hs : (s.rcs.slot k).state.idle = true)
      (hx : (f (s.rcs.slot k)).state.hasRecipe = false) (hr : (f (s.rcs.slot k)).refs = (s.rcs.slot k).refs) :
      Deed s (s.onSlot k f)
  | changedOver (s : State) (k : SlotId) (hv : (s.rcs.slot k).state = .verified) (hd : s.drainingSlot = none)
      (hfit : (s.image k).endOffset < s.decisionOffset) : Deed s (s.changeTo k)
  | productStopped (s : State) (k : SlotId) (ha : (s.rcs.slot k).state = .active) (hd : s.drainingSlot = none) :
      Deed s (s.stopProduct k)
  | started (s : State) (hr : s.ctr.run = .stopped) (hc : s.startConflict = none) :
      Deed s (s.onCtr fun c => { c with run := .running, debt := 0, slipRun := 0 })

/-- Deeds one after another. -/
def Deeds : State → State → Prop := Relation.ReflTransGen Deed

/-- One operation that takes an arrival or a discharge, or none that the cans' way depends on. -/
inductive Entering : State → State → Prop
  | same {s t : State} (h : SameCans s t) : Entering s t
  | aside {s t : State} (h : Move s t) (hs : SameTrack s t) : Entering s t
  | arrived (s : State) (q : Pos) (rest : List Pos) (h : s.ctr.infeedDue = q :: rest) :
      Entering s ((s.onCtr fun c => { c with infeedDue := rest }).infeedArrives q)
  | discharged (s : State) (d : Discharge) (hr : s.ctr.run = .running) : Entering s (s.discharge d)

/-- What may make entries, one after another. -/
def Enterings : State → State → Prop := Relation.ReflTransGen Entering

/-- One operation of the service of a request, or a reset. -/
inductive Turn : State → State → Prop
  | deed {s t : State} (h : Deed s t) : Turn s t
  | replied (s : State) (x : Queued) (hs : s.mga.service = none) (hroom : s.lif.reply.length < 4) :
      Turn s (s.onLif fun l => { l with reply := l.reply ++ [x] })
  | begun (s : State) (v : Service) (hroom : s.lif.reply.length < 4)
      (hv : ∀ k, v.operation = .verify k → (s.rcs.slot k).state = .verifying) :
      Turn s (s.onMga fun m => { m with service := some v })
  /-- An operation in service ends, its effects come, and its reply joins. -/
  | completed {s t : State} (x : Queued) (hv : s.mga.service.isSome = true) (h : Deeds s.endService t) :
      Turn s (t.onLif fun l => { l with reply := l.reply ++ [x] })
  /-- A verification ends and its slot with it. -/
  | verified {s t : State} (x : Queued) (r : Request) (k : SlotId) (f : Slot → Slot)
      (hv : s.mga.service = some { request := r, operation := .verify k })
      (hx : (f (s.rcs.slot k)).state ≠ .active ∧ (f (s.rcs.slot k)).state ≠ .draining)
      (hr : (f (s.rcs.slot k)).refs = (s.rcs.slot k).refs)
      (hf : (f (s.rcs.slot k)).state.hasRecipe = true → imageFault (f (s.rcs.slot k)).image = none)
      (h : Deeds (s.endService.onSlot k f) t) :
      Turn s (t.onLif fun l => { l with reply := l.reply ++ [x] })
  | reset (s : State) (cause : ResetCause) (phase : Phase) : Turn s (s.assertReset cause phase)

/-- Turns one after another. -/
def Turns : State → State → Prop := Relation.ReflTransGen Turn

/-! ## Elementary changes -/

theorem Moves.takePoint (s : State) (tag : Tag) (p : Point) : Moves s (s.atPoint tag p p.act) := by
  unfold State.atPoint
  split
  · exact (Moves.move .refl (.points s _)).acts (Acts.point .refl p (anyCan tag))
  · exact .refl

theorem SlotState.idle_of_noRecipe {x : SlotState} (h : x.hasRecipe = false) : x ≠ .active ∧ x ≠ .draining := by
  cases x <;> simp_all [SlotState.hasRecipe]

/-- Every deed is elementary changes. -/
theorem Deed.moves {s t : State} (h : Deed s t) : Moves s t := by
  cases h with
  | same h => exact .same .refl h
  | aside h hs => exact .move .refl h
  | point tag p => exact .takePoint s tag p
  | confirmed y => exact Moves.acts .refl (Acts.confirmArrives .refl anyCan y)
  | expired e he => exact Moves.acts .refl (Acts.expire .refl (anyCan e.tag))
  | flushed => exact Moves.acts .refl (Acts.flush .refl anyCan)
  | stopped hq hr hw => exact .move .refl (.stop s hq hr hw)
  | held => exact Moves.acts .refl (Acts.holdWgeBlock .refl anyCan)
  | advanced hi hp => exact .advance .refl hi
  | eyeBlocked eye => exact .eyeBlocks .refl eye
  | eyeCleared eye => exact .eyeClears .refl eye
  | written f hlive => exact .written .refl f
  | loaded k f hs hx hr => exact .move .refl (.idleSlot s k f hs (SlotState.idle_of_noRecipe hx) hr)
  | changedOver k hv hd hfit => exact State.changeTo_moves hv hd
  | productStopped k ha hd => exact ((Moves.move .refl (.drain s k ha hd)).trans (State.drainCheck_moves _ _ _)).bump _
  | started hr hc => exact .move .refl (.start s)

theorem Deeds.moves {s t : State} (h : Deeds s t) : Moves s t := by
  induction h with
  | refl => exact .refl
  | tail _ h ih => exact ih.trans h.moves

theorem Deeds.keeps {s t : State} (h : Deeds s t) {inv : State → Prop} (hs : inv s)
    (hk : ∀ u v, Move u v → inv u → inv v) : inv t := h.moves.keeps hs hk

/-- What takes an arrival or a discharge is elementary changes. -/
theorem Entering.moves {s t : State} (h : Entering s t) : Moves s t := by
  cases h with
  | same h => exact .same .refl h
  | aside h hs => exact .move .refl h
  | arrived q rest h =>
    have hm : Moves s (s.onCtr fun c => { c with infeedDue := rest }) := by
      have := Relation.ReflTransGen.single (Move.infeedTaken s)
      rwa [show (s.onCtr fun c => { c with infeedDue := c.infeedDue.tail }) =
        s.onCtr fun c => { c with infeedDue := rest } by simp only [State.onCtr, h, List.tail_cons]] at this
    exact hm.infeedArrives q
  | discharged d hr => exact Moves.discharge .refl hr d

theorem Enterings.moves {s t : State} (h : Enterings s t) : Moves s t := by
  induction h with
  | refl => exact .refl
  | tail _ h ih => exact ih.trans h.moves

theorem Deeds.service {s t : State} (h : Deeds s t) :
    t.mga.service = s.mga.service ∧ t.lif.reply.length ≤ s.lif.reply.length := h.moves.service

/-! ## Invariants along turns -/

theorem Turn.stoppedIsEmpty {s t : State} (h : Turn s t) (hs : s.stoppedIsEmpty) : t.stoppedIsEmpty := by
  cases h with
  | deed h => exact h.moves.keeps (inv := State.stoppedIsEmpty) hs fun _ _ h => h.stoppedIsEmpty
  | completed x hv h => exact Deeds.keeps (inv := State.stoppedIsEmpty) h hs fun _ _ h => h.stoppedIsEmpty
  | verified x r k f hv hx hr hf h => exact Deeds.keeps (inv := State.stoppedIsEmpty) h hs fun _ _ h => h.stoppedIsEmpty
  | reset cause phase => exact fun _ => ⟨rfl, rfl, rfl⟩
  | _ => exact hs

theorem Turn.arrivalsFresh {s t : State} (h : Turn s t) (hs : s.arrivalsFresh) : t.arrivalsFresh := by
  cases h with
  | deed h => exact h.moves.keeps (inv := State.arrivalsFresh) hs fun _ _ h => h.arrivalsFresh
  | completed x hv h => exact Deeds.keeps (inv := State.arrivalsFresh) h hs fun _ _ h => h.arrivalsFresh
  | verified x r k f hv hx hr hf h => exact Deeds.keeps (inv := State.arrivalsFresh) h hs fun _ _ h => h.arrivalsFresh
  | reset cause phase => exact ⟨by simp [State.assertReset_ctr, Ctr.reset], fun hp => by cases hp⟩
  | _ => exact hs

theorem Turn.tagsSpent {s t : State} (h : Turn s t) (hs : s.tagsSpent) : t.tagsSpent := by
  cases h with
  | deed h => exact h.moves.keeps (inv := State.tagsSpent) hs fun _ _ h => h.tagsSpent
  | completed x hv h => exact Deeds.keeps (inv := State.tagsSpent) h hs fun _ _ h => h.tagsSpent
  | verified x r k f hv hx hr hf h => exact Deeds.keeps (inv := State.tagsSpent) h hs fun _ _ h => h.tagsSpent
  | reset cause phase => exact fun e he => by cases he
  | _ => exact hs

theorem Turn.booksAgree {s t : State} (h : Turn s t) (hs : s.booksAgree) : t.booksAgree := by
  cases h with
  | deed h => exact h.moves.keeps (inv := State.booksAgree) hs fun _ _ h => h.booksAgree
  | replied x hsv hroom => exact hs
  | begun v hroom hv =>
    obtain ⟨h1, h2, h3, h4, h5, h6, h7⟩ := hs
    refine ⟨h1, h2, h3, h4, h5, h6, fun w k hw hk => hv k ?_⟩
    obtain rfl : v = w := Option.some.inj hw
    exact hk
  | completed x hv h =>
    exact Deeds.keeps (inv := State.booksAgree) h hs.ended fun _ _ h => h.booksAgree
  | verified x r k f hv hx hr hf h =>
    obtain ⟨h1, h2, h3, h4, h5, h6, h7⟩ := id hs
    have hver := h7 _ k hv rfl
    refine Deeds.keeps (inv := State.booksAgree) h ?_ fun _ _ h => h.booksAgree
    refine booksAgree_onSlot hs.ended k f hr (fun _ _ => ?_) (fun x hx' hf => ?_) fun w hw => by cases hw
    · exact h4 k (fun h => by rw [hver] at h; cases h) (fun h => by rw [hver] at h; cases h)
    · rcases hx' with rfl | rfl
      · exact absurd hf hx.1
      · exact absurd hf hx.2
  | reset cause phase =>
    refine ⟨by simp [State.assertReset_ctr, Ctr.reset], by simp [State.assertReset_ctr, Ctr.reset], fun k => ?_,
      fun k _ _ => ?_, fun h => (by cases h.1), fun h => (by cases h.1), fun v k hv => (by cases hv)⟩
    · cases k <;> rfl
    · cases k <;> rfl

theorem Turn.withinCapacity {s t : State} (h : Turn s t) (hs : s.withinCapacity) : t.withinCapacity := by
  obtain ⟨h1, h2, h3, h4, h5, h6, h7, h8, h9, h10, h11, h12, h13, h14⟩ := id hs
  cases h with
  | deed h => exact h.moves.keeps (inv := State.withinCapacity) hs fun _ _ h => h.withinCapacity
  | replied x hsv hroom => exact hs.reply_joins hsv hroom x
  | begun v hroom hv => exact ⟨h1, h2, h3, h4, h5, h6, h7, h8, h9, h10, h11, fun _ => hroom, h13, h14⟩
  | completed x hv h =>
    have hend : s.endService.withinCapacity :=
      ⟨h1, h2, h3, h4, h5, h6, h7, h8, h9, h10, h11, fun h => (by cases h), h13, h14⟩
    have ht := Deeds.keeps (inv := State.withinCapacity) h hend fun _ _ h => h.withinCapacity
    exact ht.reply_joins h.service.1 (lt_of_le_of_lt h.service.2 (h12 hv)) x
  | verified x r k f hv hx hr hf h =>
    have hend : (s.endService.onSlot k f).withinCapacity :=
      ⟨h1, h2, h3, h4, h5, h6, h7, h8, h9, h10, h11, fun h => (by cases h), h13, h14⟩
    have ht := Deeds.keeps (inv := State.withinCapacity) h hend fun _ _ h => h.withinCapacity
    exact ht.reply_joins h.service.1 (lt_of_le_of_lt h.service.2 (h12 (by rw [hv]; rfl))) x
  | reset cause phase =>
    refine ⟨Nat.zero_le _, Nat.zero_le _, Nat.zero_le _, Nat.zero_le _, Nat.zero_le _, Nat.zero_le _, Nat.zero_le _,
      Nat.zero_le _, Nat.zero_le _, Nat.zero_le _, Nat.zero_le _, fun h => (by cases h), Nat.zero_le _, fun v hv => ?_⟩
    have hvalve : (s.assertReset cause phase).valve v = Valve.reset := by
      simp [State.valve_eq_getElem, State.assertReset, Drg.reset, hv]
    rw [hvalve]
    exact Nat.zero_le _

/-! ## Along a command -/

/-- What every turn keeps, a command keeps. -/
theorem Turns.keeps {s t : State} (h : Turns s t) {inv : State → Prop} (hs : inv s)
    (hk : ∀ u v, Turn u v → inv u → inv v) : inv t := by
  induction h with
  | refl => exact hs
  | tail _ h ih => exact hk _ _ h ih

end Sys2Proof.Machine
end

section
namespace Sys2Proof.Machine

/-! ## Deeds one after another -/

namespace Deeds

variable {s t : State} (h : Deeds s t)
include h

theorem deed {u : State} (g : Deed t u) : Deeds s u := Relation.ReflTransGen.tail h g

theorem same {u : State} (g : SameCans t u) : Deeds s u := h.deed (.same g)

theorem trans {u : State} (g : Deeds t u) : Deeds s u := Relation.ReflTransGen.trans h g

theorem bump (c : Counter) : Deeds s (t.bump c) := h.same ((SameCans.refl t).bump c)

theorem confirm (m : EyeMonitor) (l : List Pos) :
    Deeds s (t.onCtr fun c => { c with confirm := m, confirmDue := l }) :=
  h.deed (.aside (.confirm t m l) ⟨rfl, rfl, rfl, rfl, rfl⟩)

theorem debt (n : Nat) (hn : n ≤ max t.ctr.debt 4095) : Deeds s (t.onCtr fun c => { c with debt := n }) :=
  h.deed (.aside (.debt t n hn) ⟨rfl, rfl, rfl, rfl, rfl⟩)

theorem pins (f : Pins → Pins) : Deeds s (t.onPins f) := h.deed (.aside (.pins t f) ⟨rfl, rfl, rfl, rfl, rfl⟩)

theorem sup (f : Sup → Sup) : Deeds s (t.onSup f) := h.deed (.aside (.sup t f) ⟨rfl, rfl, rfl, rfl, rfl⟩)

theorem drawn : Deeds s t.drawn := h.deed (.aside (.drawn t) ⟨rfl, rfl, rfl, rfl, rfl⟩)

/-! ### What is outstanding, but for the arrivals at the infeed -/

theorem takeConfirm : Deeds s t.takeConfirm :=
  (State.takeConfirm_keeps (P := Deeds s) (fun u y rest _ hu =>
    (hu.confirm u.ctr.confirm rest).deed (.confirmed _ y)) t h).1

theorem expireAll (n : Nat) : Deeds s (t.expireAll n) := by
  induction n generalizing t with
  | zero => exact h
  | succ n ih =>
    unfold State.expireAll
    split
    · exact h
    · rename_i e he
      exact ih (h.deed (.expired t e he))

theorem takePoints : Deeds s t.takePoints := by
  unfold State.takePoints
  generalize t.ctr.pointsDue = l
  induction l generalizing t with
  | nil => exact h
  | cons d l ih => exact ih (h.deed (.point t d.tag d.point))

/-- Everything outstanding but the arrivals at the infeed. -/
theorem takeRest : Deeds s t.takeConfirm.takeExpiries.takePoints := (h.takeConfirm.expireAll _).takePoints

/-! ### The eyes and the encoder -/

theorem watchEye (eye : Eye) : Deeds s (t.watchEye eye) := by
  unfold State.watchEye
  split
  · exact h.deed (.eyeBlocked t eye)
  · exact h

theorem forwardStep (hi : t.ctr.infeedDue = []) (hp : t.ctr.pointsDue = []) : Deeds s t.forwardStep := by
  unfold State.forwardStep
  split
  · exact h.debt _ (le_max_of_le_left (Nat.sub_le _ _))
  · exact h.deed (.advanced t hi hp)

theorem reversalFault : Deeds s t.reversalFault :=
  (((h.deed (.flushed t)).deed (.stopped _ t.flush_queue t.flush_rejects t.flush_records)).same
    ((SameCans.refl _).addCause _)).bump _

theorem reverseStep : Deeds s t.reverseStep := by
  unfold State.reverseStep
  split
  · exact h.debt _ (le_max_of_le_right (by omega))
  · split
    · exact h.reversalFault
    · exact h

/-! ### Start-up -/

theorem watchInputs : Deeds s t.watchInputs := ((h.sup _).watchEye .infeed).watchEye .confirm

theorem readStore : Deeds s t.readStore := by
  unfold State.readStore
  dsimp only
  have hs := h.sup fun u => { u with storeValid := u.store.checkAgrees, phase := .endingBypass }
  split
  · exact hs.same ((SameCans.refl _).takeCopies _)
  · exact (hs.same ((SameCans.refl _).takeCopies _)).watchInputs

end Deeds

/-! ## Arrivals and discharges one after another -/

namespace Enterings

variable {s t : State} (h : Enterings s t)
include h

theorem entering {u : State} (g : Entering t u) : Enterings s u := Relation.ReflTransGen.tail h g

theorem same {u : State} (g : SameCans t u) : Enterings s u := h.entering (.same g)

theorem bump (c : Counter) : Enterings s (t.bump c) := h.same ((SameCans.refl t).bump c)

theorem pins (f : Pins → Pins) : Enterings s (t.onPins f) :=
  h.entering (.aside (.pins t f) ⟨rfl, rfl, rfl, rfl, rfl⟩)

theorem drawn : Enterings s t.drawn := h.entering (.aside (.drawn t) ⟨rfl, rfl, rfl, rfl, rfl⟩)

theorem takeInfeed : Enterings s t.takeInfeed :=
  (State.takeInfeed_keeps (P := Enterings s) (fun u q rest hl hu => hu.entering (.arrived u q rest hl)) t h).1

theorem dischargeIntake (d : Discharge) : Enterings s (t.dischargeIntake d) := by
  unfold State.dischargeIntake
  split
  · rename_i hr
    exact h.entering (.discharged t d (t.trackingRuns_iff.mp hr))
  · exact h.bump _

/-! ### The loop -/

theorem queued (r : Request) (hroom : t.mga.requests.length < 4) :
    Enterings s (t.onMga fun m => { m with requests := m.requests ++ [r] }) :=
  h.entering (.aside (.queued t r hroom) ⟨rfl, rfl, rfl, rfl, rfl⟩)

theorem mgmtIntake (source : Byte) (payload : List Byte) : Enterings s (t.mgmtIntake source payload) := by
  unfold State.mgmtIntake
  split
  · split
    · exact h.bump _
    · split
      · exact h.bump _
      · rename_i hroom
        exact ((h.queued _ (by omega)).bump _).same (SameCans.refl _).noteWait
  · exact h.bump _

theorem handTo (i : Intake) (f : Frame) : Enterings s (t.handTo i f) := by
  unfold State.handTo
  split
  · exact h
  · split
    · exact (h.bump _).dischargeIntake _
    · exact h.bump _
  · exact (h.bump _).same ((SameCans.refl _).codeIntake _)

theorem forward (f : Frame) : Enterings s (t.forward f) := h.same ((SameCans.refl t).forward f)

theorem handAndForward (i : Intake) (f : Frame) : Enterings s (t.handAndForward i f) := by
  unfold State.handAndForward
  split
  · exact (h.drawn.forward f).handTo i f
  · exact (h.drawn.handTo i f).forward f

theorem classify (f : Frame) : Enterings s (t.classify f) := by
  unfold State.classify
  split
  · unfold State.classifyOwn
    split
    · exact (h.bump _).mgmtIntake _ _
    · split
      · exact h.handTo _ f
      · exact h.handTo _ f
      · exact h.bump _
  · split
    · unfold State.classifyBroadcast
      split
      · exact h.forward f
      · split
        · split
          · exact h.forward f
          · exact h.handAndForward _ f
        · exact (h.handTo _ f).bump _
    · unfold State.classifyOther
      split
      · exact h.forward f
      · split
        · exact h.forward f
        · exact h.handAndForward _ f

theorem receive (bytes : List Byte) : Enterings s (t.receive bytes) := by
  unfold State.receive
  dsimp only
  split
  · exact (h.bump _).bump _
  · split
    · exact (h.bump _).bump _
    · exact (h.bump _).classify _

end Enterings

/-! ## A setup that is written (R170) -/

theorem setupNum_congr {img img' : SetupImage} {off size : Nat} (hsize : off + size ≤ 128)
    (h : ∀ i, off ≤ i → i < off + size → setupByte img i = setupByte img' i) :
    setupNum img off size = setupNum img' off size := by
  have hlist : (img.toList.drop off).take size = (img'.toList.drop off).take size := by
    refine List.ext_getElem (by simp) fun i hi hi' => ?_
    have hlt : i < size := by
      simp only [List.length_take, List.length_drop, Vector.length_toList] at hi
      omega
    have := h (off + i) (by omega) (by omega)
    simpa [setupByte, List.getD, show off + i < 128 by omega] using this
  rw [setupNum, hlist, setupNum]

/-- While tracking runs an accepted write touches live fields only. -/
theorem State.setupRefusal_live {s : State} {off n : Nat} {run : List Byte} (hr : s.ctr.run = .running)
    (h : s.setupRefusal off n run = none) :
    run.length = n ∧ ∀ f ∈ setupFields, f.live = false → f.touched off n = false := by
  unfold State.setupRefusal at h
  dsimp only at h
  split at h
  · cases h
  · rename_i hargs
    refine ⟨by omega, ?_⟩
    split at h
    · cases h
    · split at h
      · cases h
      · rename_i hnone
        rw [if_pos (s.trackingRuns_iff.mpr hr), List.find?_eq_none] at hnone
        intro f hf hl
        simpa [hl] using hnone f hf

/-- The fields that place a can's points are not live. -/
theorem placingFields_spec : ∀ x ∈ placingFields, x.1 + x.2 ≤ 128 ∧
    ∃ f ∈ setupFields, f.offset = x.1 ∧ f.size = x.2 ∧ f.live = false := by decide

theorem State.setupRefusal_placing {s : State} {off n : Nat} {run : List Byte} (hr : s.ctr.run = .running)
    (h : s.setupRefusal off n run = none) : ∀ x ∈ placingFields,
    setupNum (writeBytes s.setup off run) x.1 x.2 = setupNum s.setup x.1 x.2 := by
  obtain ⟨hlen, hlive⟩ := State.setupRefusal_live hr h
  intro x hx
  obtain ⟨hsize, f, hf, hoff, hsz, hl⟩ := placingFields_spec x hx
  refine setupNum_congr hsize fun i hlo hhi => ?_
  have htouch := hlive f hf hl
  rw [writeBytes_read run _ _ _ (by omega)]
  rw [SetupField.touched, hoff, hsz, Bool.and_eq_false_iff, decide_eq_false_iff_not, decide_eq_false_iff_not] at htouch
  rw [if_neg (by omega)]

/-! ## A recipe against the setup (R138) -/

theorem State.conflict_none {s : State} {img : Image} (h : s.conflict img = none) :
    img.endOffset < s.decisionOffset := by
  unfold State.conflict at h
  rw [Option.or_eq_none_iff] at h
  by_contra hlt
  have := h.1
  simp [firstFault, windowVsSetupTest, hlt] at this

end Sys2Proof.Machine
end

section
namespace Sys2Proof.Machine

/-! ## What the requests do -/

section
variable {s t : State} (h : Deeds s t) (args : List Byte)
include h

theorem Deeds.onSlot_idle (k : SlotId) (f : Slot → Slot) (hs : (t.rcs.slot k).state.idle = true)
    (hx : (f (t.rcs.slot k)).state.hasRecipe = false) (hr : (f (t.rcs.slot k)).refs = (t.rcs.slot k).refs) :
    Deeds s (t.onSlot k f) := h.deed (.loaded t k f hs hx hr)

theorem deeds_serveStartTracking : Deeds s (serveStartTracking t args).state := by
  unfold serveStartTracking
  split
  · split
    · exact h
    · rename_i hstop
      split
      · exact h
      · rename_i hc
        have hrun : t.ctr.run = .stopped := by
          cases hr : t.ctr.run
          · rfl
          · exact absurd (t.trackingRuns_iff.mpr hr) hstop
        exact h.deed (.started t hrun hc)
  · exact h

theorem deeds_serveStopTracking : Deeds s (serveStopTracking t args).state := by
  unfold serveStopTracking
  split
  · exact (h.deed (.flushed t)).deed (.stopped _ t.flush_queue t.flush_rejects t.flush_records)
  · exact h

theorem deeds_serveFlushTracking : Deeds s (serveFlushTracking t args).state := by
  unfold serveFlushTracking
  split
  · exact h.deed (.flushed t)
  · exact h

theorem deeds_serveSetDate : Deeds s (serveSetDate t args).state := by
  unfold serveSetDate
  split
  · exact h
  · split
    · exact h
    · split
      · exact h
      · exact (h.same ((SameCans.refl t).onCck _)).bump _

theorem deeds_serveZeroNow : Deeds s (serveZeroNow t args).state := by
  unfold serveZeroNow
  split
  · split
    · exact h
    · dsimp only [State.okay]
      exact h.same ((SameCans.refl t).onWge_rest _ rfl rfl)
  · exact h

theorem deeds_serveSetValveMode : Deeds s (serveSetValveMode t args).state := by
  unfold serveSetValveMode
  split
  · split
    · exact h
    · split
      · exact h
      · split
        · exact h
        · split
          · dsimp only [State.okay]
            exact h.same ((SameCans.refl t).onValve_rest _ _ rfl)
          · dsimp only [State.okay]
            exact h.same ((SameCans.refl t).onValve_rest _ _ rfl)
  · exact h

theorem deeds_serveWriteRecipe : Deeds s (serveWriteRecipe t args).state := by
  unfold serveWriteRecipe
  split
  · split
    · split
      · exact h
      · split
        · exact h
        · rename_i hidle
          dsimp only [State.okay]
          exact Deeds.bump (h.onSlot_idle _ _ (by simpa using hidle) rfl rfl) _
    · exact h
  · exact h

theorem deeds_serveDiscardRecipe : Deeds s (serveDiscardRecipe t args).state := by
  unfold serveDiscardRecipe
  split
  · split
    · exact h
    · split
      · exact h
      · rename_i hidle
        dsimp only [State.okay]
        exact h.onSlot_idle _ _ (by simpa using hidle) rfl rfl
  · exact h

theorem deeds_serveChangeover : Deeds s (serveChangeover t args).state := by
  unfold serveChangeover
  split
  · split
    · exact h
    · split
      · exact h
      · rename_i hv
        split
        · exact h
        · rename_i hd
          split
          · exact h.bump _
          · rename_i hfit
            exact h.deed (.changedOver t _ (by simpa using hv) (by simpa using hd) (State.conflict_none hfit))
  · exact h

theorem deeds_serveStopProduct : Deeds s (serveStopProduct t args).state := by
  unfold serveStopProduct
  split
  · split
    · exact h
    · rename_i k hk
      split
      · exact h
      · rename_i hd
        exact h.deed (.productStopped t k (State.activeSlot_active hk) (by simpa using hd))
  · exact h

theorem deeds_serveClearLineStop : Deeds s (serveClearLineStop t args).state := by
  unfold serveClearLineStop
  split
  · dsimp only
    split
    · exact h
    · exact h.same ((SameCans.refl t).foldl _ _ fun u c hu => hu.clearCause _ c)
  · exact h

theorem deeds_serveHoldBlock : Deeds s (serveHoldBlock t args).state := by
  unfold serveHoldBlock
  split
  · split
    · exact h
    · rename_i b _
      split
      · exact h
      · exact h
      · have hset := h.same ((SameCans.refl t).setHold b true)
        refine Deeds.bump ?_ _
        unfold State.holdAction
        split
        · exact hset.deed (.held _)
        · exact hset.same (SameCans.refl _).holdCckBlock
        · exact hset.same (SameCans.refl _).holdDrgBlock
        · exact hset
  · exact h

theorem deeds_serveReleaseBlock : Deeds s (serveReleaseBlock t args).state := by
  unfold serveReleaseBlock
  split
  · split
    · exact h
    · rename_i b _
      split
      · exact h
      · exact h
      · have hset := h.same ((SameCans.refl t).setHold b false)
        refine Deeds.bump ?_ _
        unfold State.releaseAction
        split
        · exact hset.same ((SameCans.refl _).clearTable 0)
        · exact hset
  · exact h

theorem deeds_serveReadState : Deeds s (serveReadState t args).state := by
  unfold serveReadState
  split
  · dsimp only [State.okay]
    split
    · exact h.drawn
    · exact h
  · exact h

theorem deeds_serveReadCounters : Deeds s (serveReadCounters t args).state := by
  unfold serveReadCounters
  split
  · split
    · dsimp only [State.okay]
      split
      · exact h.same ((SameCans.refl t).clearGroup _)
      · exact h
    · exact h
  · exact h

theorem deeds_serveClearCounters : Deeds s (serveClearCounters t args).state := by
  unfold serveClearCounters
  split
  · split
    · exact h.same ((SameCans.refl t).onCounters _).clearValveCounters
    · split
      · exact h.same ((SameCans.refl t).clearGroup _)
      · exact h
  · exact h

theorem deeds_serveWriteSetup : Deeds s (serveWriteSetup t args).state := by
  unfold serveWriteSetup
  split
  · split
    · exact h
    · rename_i hok
      exact (h.deed (.written t _ fun hrun => State.setupRefusal_placing hrun hok)).bump _
  · exact h

theorem deeds_serveWritePassEntry : Deeds s (serveWritePassEntry t args).state := by
  unfold serveWritePassEntry
  split
  · split
    · exact h
    · split
      · exact h
      · dsimp only [State.okay]
        exact h.same ((SameCans.refl t).onLif _ fun c => by cases c <;> exact le_rfl)
  · exact h

/-- The requests that only read, and unknown codes, change nothing. -/
theorem deeds_reads :
    Deeds s (serveReadPlatform t args).state ∧ Deeds s (serveReadValve t args).state ∧
      Deeds s (serveReadSetup t args).state ∧ Deeds s (serveReadPassEntry t args).state ∧
      Deeds s (serveReadRecipe t args).state ∧ Deeds s (serveReadCal t args).state := by
  refine ⟨?_, ?_, ?_, ?_, ?_, ?_⟩
  · unfold serveReadPlatform
    split <;> exact h
  · unfold serveReadValve
    split
    · split <;> exact h
    · exact h
  · unfold serveReadSetup
    split
    · split <;> exact h
    · exact h
  · unfold serveReadPassEntry
    split
    · split <;> exact h
    · exact h
  · unfold serveReadRecipe
    split
    · split
      · exact h
      · split <;> exact h
    · exact h
  · unfold serveReadCal
    split <;> exact h

end

end Sys2Proof.Machine
end

section
namespace Sys2Proof.Machine

/-! ## The service of a request -/

theorem State.serviceable_some {s : State} {r : Request} (h : s.serviceable = some r) :
    s.mga.service = none ∧ s.lif.reply.length < 4 := by
  unfold State.serviceable at h
  split at h
  · rename_i hc
    simp only [Bool.and_eq_true, Bool.not_eq_true', Option.isNone_iff_eq_none] at hc
    obtain ⟨⟨⟨_, hs⟩, _⟩, hq⟩ := hc
    refine ⟨hs, ?_⟩
    have hroom : ¬ TxClass.reply.capacity ≤ (s.lif.queue .reply).length := by simpa [State.queueFull] using hq
    exact Nat.lt_of_not_le hroom
  · cases h

namespace Turns

variable {s t : State} (h : Turns s t)
include h

theorem turn {u : State} (g : Turn t u) : Turns s u := Relation.ReflTransGen.tail h g

theorem deeds {u : State} (g : Deeds t u) : Turns s u := by
  induction g with
  | refl => exact h
  | tail _ g ih => exact ih.turn (.deed g)

theorem same {u : State} (g : SameCans t u) : Turns s u := h.deeds (.same .refl g)

/-- A reply joins while no request is in service and the REPLY queue has room (08 R166 to R168). -/
theorem join_reply (x : Queued) (hs : t.mga.service = none) (hr : t.lif.reply.length < 4) :
    Turns s (t.join .reply x) := (h.turn (.replied t x hs hr)).same (SameCans.refl _).arbitrate

theorem took : Turns s t.takeRequest := h.turn (.deed (.aside (.took t) ⟨rfl, rfl, rfl, rfl, rfl⟩))

/-- A request that was begun is answered. -/
theorem served {r : Request} (hv : t.serviceable = some r) {a : Answer} (ha : Deeds t.takeRequest a.state)
    (x : Bool) : Turns s (replyTo r a x) := by
  obtain ⟨hs, hr⟩ := State.serviceable_some hv
  obtain ⟨hs', hr'⟩ := ha.service
  have hm := h.took.deeds ha
  exact ((hm.same ((SameCans.refl _).bump _)).join_reply _ (hs'.trans hs) (lt_of_le_of_lt hr' hr)).same
    (SameCans.refl _).noteWait

theorem serveWhere (p : Byte → Bool) {act : State → List Byte → Answer}
    (hact : ∀ u args, Deeds u (act u args).state) : Turns s (t.serveWhere p act) := by
  unfold State.serveWhere
  split
  · exact h
  · rename_i r hr
    split
    · exact h.served hr (hact _ _) _
    · exact h

theorem serve (code : Byte) {act : State → List Byte → Answer} (hact : ∀ u args, Deeds u (act u args).state) :
    Turns s (t.serve code act) := h.serveWhere _ hact

/-- A request that may start an operation: refused or answered at once, or the operation holds its reply. -/
theorem serveLong (code : Byte) {act : State → List Byte → Answer ⊕ (State × Operation)}
    (hl : ∀ u args a, act u args = .inl a → Deeds u a.state)
    (hr : ∀ u args v op, act u args = .inr (v, op) → Deeds u v ∧
      ∀ k, op = .verify k → (v.rcs.slot k).state = .verifying) : Turns s (t.serveLong code act) := by
  unfold State.serveLong
  split
  · exact h
  · rename_i r hv
    split
    · split
      · rename_i a ha
        exact h.served hv (hl _ _ _ ha) _
      · rename_i v op ha
        obtain ⟨hm, hop⟩ := hr _ _ _ _ ha
        obtain ⟨_, hroom⟩ := State.serviceable_some hv
        exact (h.took.deeds hm).turn (.begun v _ (lt_of_le_of_lt hm.service.2 hroom) hop)
    · exact h

/-- An operation in service ends, its effects come, and its reply joins. -/
theorem completed {r : Request} {a : Answer} (hv : t.mga.service.isSome = true) (ha : Deeds t.endService a.state)
    (x : Bool) : Turns s (replyTo r a x) :=
  ((h.turn (.completed _ hv (ha.bump _))).same (SameCans.refl _).arbitrate).same (SameCans.refl _).noteWait

/-- A verification ends, its slot with it, and its reply joins. -/
theorem verified {r r' : Request} {k : SlotId} {a : Answer} (f : Slot → Slot)
    (hv : t.mga.service = some { request := r', operation := .verify k })
    (hx : (f (t.rcs.slot k)).state ≠ .active ∧ (f (t.rcs.slot k)).state ≠ .draining)
    (hr : (f (t.rcs.slot k)).refs = (t.rcs.slot k).refs)
    (hf : (f (t.rcs.slot k)).state.hasRecipe = true → imageFault (f (t.rcs.slot k)).image = none) (ha : Deeds (t.endService.onSlot k f) a.state)
    (x : Bool) : Turns s (replyTo r a x) :=
  ((h.turn (.verified _ r' k f hv hx hr hf (ha.bump _))).same (SameCans.refl _).arbitrate).same
    (SameCans.refl _).noteWait

end Turns

/-! ## Operations that take time -/

theorem State.startStoreWrite_deeds (s : State) : Deeds s s.startStoreWrite :=
  .same .refl (SameCans.refl s).startStoreWrite

theorem serveCalWrite_inr {s v : State} {args : List Byte} {op : Operation} (h : serveCalWrite s args = .inr (v, op)) :
    v = s.startStoreWrite ∧ ∃ c, op = .calWrite c := by
  unfold serveCalWrite at h
  split at h
  · dsimp only at h
    split at h
    · cases h
    · split at h
      · cases h
      · split at h
        · cases h
        · split at h
          · cases h
          · cases h
            exact ⟨rfl, _, rfl⟩
  · cases h

theorem serveCalWrite_inl {s : State} {args : List Byte} {a : Answer} (h : serveCalWrite s args = .inl a) :
    a.state = s := by
  unfold serveCalWrite at h
  split at h
  · dsimp only at h
    split at h
    · cases h; rfl
    · split at h
      · cases h; rfl
      · split at h
        · cases h; rfl
        · split at h
          · cases h; rfl
          · cases h
  · cases h; rfl

theorem serveCalLock_cases (s : State) (args : List Byte) :
    (∃ a, serveCalLock s args = .inl a ∧ a.state = s) ∨
      ∃ c, serveCalLock s args = .inr (s.startStoreWrite, .calLock c) := by
  unfold serveCalLock
  split
  · split
    · exact .inl ⟨_, rfl, rfl⟩
    · exact .inr ⟨_, rfl⟩
  · exact .inl ⟨_, rfl, rfl⟩

theorem serveCalClear_cases (s : State) (args : List Byte) :
    (∃ a, serveCalClear s args = .inl a ∧ a.state = s) ∨
      ∃ c, serveCalClear s args = .inr (s.startStoreWrite, .calClear c) := by
  unfold serveCalClear
  split
  · split
    · exact .inl ⟨_, rfl, rfl⟩
    · exact .inr ⟨_, rfl⟩
  · exact .inl ⟨_, rfl, rfl⟩

theorem serveVerifyRecipe_cases (s : State) (args : List Byte) :
    (∃ a, serveVerifyRecipe s args = .inl a ∧ a.state = s) ∨
      ∃ k, (s.rcs.slot k).state = .loading ∧
        serveVerifyRecipe s args = .inr (s.onSlot k fun x => { x with state := .verifying }, .verify k) := by
  unfold serveVerifyRecipe
  split
  · split
    · exact .inl ⟨_, rfl, rfl⟩
    · rename_i k _
      split
      · exact .inl ⟨_, rfl, rfl⟩
      · rename_i hl
        exact .inr ⟨k, by simpa using hl, rfl⟩
  · exact .inl ⟨_, rfl, rfl⟩

/-- A request that only starts a store write, when it is not answered at once. -/
theorem Turns.serveStore {s t : State} (h : Turns s t) (code : Byte)
    {act : State → List Byte → Answer ⊕ (State × Operation)}
    (hact : ∀ u args, (∃ a, act u args = .inl a ∧ a.state = u) ∨
      ∃ op, act u args = .inr (u.startStoreWrite, op) ∧ ∀ k, op ≠ .verify k) : Turns s (t.serveLong code act) := by
  refine h.serveLong code (fun u args a ha => ?_) fun u args v op hv => ?_
  · rcases hact u args with ⟨b, hb, hu⟩ | ⟨op, hop, _⟩
    · rw [hb] at ha
      cases ha
      rw [hu]
      exact .refl
    · rw [hop] at ha
      cases ha
  · rcases hact u args with ⟨b, hb, hu⟩ | ⟨op', hop, hne⟩
    · rw [hb] at hv
      cases hv
    · rw [hop] at hv
      cases hv
      exact ⟨u.startStoreWrite_deeds, fun k hk => absurd hk (hne k)⟩

/-! ## The commands -/

section
variable (s : State)

theorem turns_atPoint (tag : Tag) (p : Point) : Turns s (s.atPoint tag p p.act) :=
  Turns.deeds .refl (.single (.point s tag p))

theorem turns_serve (code : Byte) {act : State → List Byte → Answer}
    (hact : ∀ u args, Deeds u (act u args).state) : Turns s (s.serve code act) := Turns.serve .refl code hact

/-- Every command is arrivals and discharges, then turns. -/
def Story (s t : State) : Prop := ∃ u, Enterings s u ∧ Turns u t

theorem Turns.story {s t : State} (h : Turns s t) : Story s t := ⟨s, .refl, h⟩

theorem Deeds.story {s t : State} (h : Deeds s t) : Story s t := (Turns.deeds .refl h).story

theorem State.taking_running {s : State} {c : Bool} (h : (s.taking && c) = true) : s.sup.phase = .running := by
  simp only [State.taking, Bool.and_eq_true, beq_iff_eq] at h
  exact h.1

/-- Everything outstanding is taken, and then come deeds. -/
theorem Story.outstanding {s t v : State} (h : Enterings s t) (hd : Deeds t.takeOutstanding v) : Story s v :=
  ⟨t.takeInfeed, h.takeInfeed, Turns.deeds .refl (.trans (Deeds.takeRest .refl) hd)⟩

theorem story_encoderStep (a b : Bool) : ∀ t, execEncoderStep a b s = .next t → Story s t := by
  rintro t ⟨⟩
  split
  · rename_i hc
    have hp : (s.onPins fun p => { p with encA := a, encB := b }).sup.phase = .running := State.taking_running hc
    refine Story.outstanding (t := s.onPins fun p => { p with encA := a, encB := b }) (.pins .refl _) ?_
    unfold State.encoderChange
    dsimp only
    split
    · exact Deeds.bump .refl _
    · split
      · exact Deeds.forwardStep .refl (State.takeOutstanding_infeedDue hp) (State.takeOutstanding_pointsDue hp)
      · exact Deeds.reverseStep .refl
  · exact (Deeds.pins .refl _).story

theorem story_eyeChange (f : Pins → Pins) (eye : Eye) (c : Bool) :
    Story s (if s.taking && c then (s.onPins f).eyeChanged eye else s.onPins f) := by
  split
  · unfold State.eyeChanged
    split
    · split
      · exact Story.outstanding (t := s.onPins f) (.pins .refl f) (.single (.eyeBlocked _ eye))
      · exact ((Deeds.pins .refl f).deed (.eyeBlocked _ eye)).story
    · exact ((Deeds.pins .refl f).deed (.eyeCleared _ eye)).story
  · exact (Deeds.pins .refl f).story

theorem story_infeedArrival : ∀ t, execInfeedArrival s = .next t → Story s t := by
  rintro t ⟨⟩
  split
  · rename_i q rest _ hd
    exact ⟨_, .single (.arrived s q rest hd), .refl⟩
  · exact ⟨s, .refl, .refl⟩

theorem turns_confirmArrival : ∀ t, execConfirmArrival s = .next t → Turns s t := by
  rintro t ⟨⟩
  split
  · rename_i y rest _ hd
    exact Turns.deeds .refl ((Deeds.confirm .refl s.ctr.confirm rest).deed (.confirmed _ y))
  · exact .refl

theorem turns_missingExpiry : ∀ t, execMissingExpiry s = .next t → Turns s t := by
  rintro t ⟨⟩
  split
  · rename_i e _ he
    exact Turns.deeds .refl (.single (.expired s e he))
  · exact .refl

theorem turns_readinessInputChange (i : ReadinessInput) (level : Bool) :
    ∀ t, execReadinessInputChange i level s = .next t → Turns s t := by
  rintro t ⟨⟩
  have hpin : Deeds s (match i with
      | .binFull => s.onPins fun p => { p with binFull := level }
      | .airOk => s.onPins fun p => { p with airOk := level }) := by
    cases i <;> exact .pins .refl _
  refine Turns.deeds .refl ?_
  dsimp only
  split
  · exact hpin.same ((SameCans.refl _).readinessChanged i)
  · exact hpin

theorem turns_transmissionEnd : ∀ t, execTransmissionEnd s = .next t → Turns s t := by
  rintro t ⟨⟩
  split
  · rename_i c _ generated _ _
    dsimp only
    have hend : SameCans s ((if generated = true then (s.bump .txFrames).bump .txGenerated else s.bump .txFrames).onLif
        fun l => { l with port := .idleGap c }) := by
      refine SameCans.onLif ?_ _ fun c => by cases c <;> exact le_rfl
      split
      · exact ((SameCans.refl s).bump _).bump _
      · exact (SameCans.refl s).bump _
    split
    · exact (Turns.same .refl hend).turn (.reset _ _ _)
    · exact Turns.same .refl hend
  · exact .refl

theorem turns_portFree : ∀ t, execPortFree s = .next t → Turns s t := by
  rintro t ⟨⟩
  split
  · exact Turns.same .refl ((SameCans.refl s).onLif _ fun c => by cases c <;> exact le_rfl).arbitrate
  · exact .refl

theorem turns_verificationComplete : ∀ t, execVerificationComplete s = .next t → Turns s t := by
  rintro t ⟨⟩
  split
  · rename_i r k hv
    unfold State.finishVerify
    split
    · rename_i hok
      exact Turns.verified .refl (fun x => { x with state := .verified, fault := none }) hv ⟨by simp, by simp⟩ rfl
        (fun _ => (Option.or_eq_none_iff.mp hok).1) (Deeds.bump .refl _) _
    · rename_i f _
      exact Turns.verified .refl (fun x => { x with state := .faulted, fault := some f }) hv ⟨by simp, by simp⟩ rfl
        nofun (Deeds.bump .refl _) _
  · exact .refl

/-- The copies are taken, or not, and the state is reported, when a store write has ended. -/
theorem deeds_storeWritten (t : State) (c : CalRecord) :
    Deeds t (t.storeWritten c).notifyCal ∧ Deeds t (((t.storeWritten c).takeCopies c).notifyCal) :=
  ⟨.same .refl ((SameCans.refl t).storeWritten c).notifyCal,
    .same .refl (((SameCans.refl t).storeWritten c).takeCopies c).notifyCal⟩

theorem turns_calComplete (c : Instr) (hc : c ∈ [.calWriteComplete, .calLockComplete, .calClearComplete]) :
    ∀ t, exec c s = .next t → Turns s t := by
  have hsome : ∀ {v : Service}, s.mga.service = some v → s.mga.service.isSome = true := fun h => by rw [h]; rfl
  simp only [List.mem_cons, List.not_mem_nil, or_false] at hc
  rcases hc with rfl | rfl | rfl <;> rintro t ⟨⟩ <;> split
  · rename_i hv
    exact Turns.completed .refl (hsome hv) (deeds_storeWritten _ _).2 _
  · exact .refl
  · rename_i hv
    exact Turns.completed .refl (hsome hv) (deeds_storeWritten _ _).1 _
  · exact .refl
  · rename_i hv
    exact Turns.completed .refl (hsome hv) (deeds_storeWritten _ _).2 _
  · exact .refl

theorem turns_resetPart : Turns s s.resetPart := by
  unfold State.resetPart
  split
  · rename_i r hr
    split
    · split
      · have hm : SameCans s.takeRequest (s.takeRequest.onMga fun m => { m with closed := true }) :=
          (SameCans.refl _).onMga _ rfl rfl
        exact Turns.served .refl hr (a := (s.takeRequest.onMga fun m => { m with closed := true }).okay)
          (Deeds.same .refl hm) _
      · exact Turns.served .refl hr (a := s.takeRequest.refuse .badRequest) .refl _
    · exact .refl
  · exact .refl

end

/-- Every command is arrivals and discharges, then turns. -/
theorem exec_story (c : Instr) (s t : State) (h : exec c s = .next t) : Story s t := by
  cases c with
  | powerOnReset => cases h; exact Turns.story (.single (.reset s _ _))
  | pinReset => cases h; exact Turns.story (.single (.reset s _ _))
  | powerOnRelease address calwe =>
    cases h
    refine Turns.story ?_
    split
    · exact Turns.deeds .refl (.sup .refl _)
    · exact .refl
  | pinRelease address calwe =>
    cases h
    refine Turns.story ?_
    split
    · exact Turns.deeds .refl (.sup .refl _)
    · exact .refl
  | calibrationRead =>
    cases h
    refine Turns.story ?_
    split
    · exact Turns.deeds .refl (Deeds.readStore .refl)
    · exact .refl
  | startUpCompletion =>
    cases h
    refine Turns.story ?_
    split
    · exact Turns.deeds .refl ((Deeds.watchInputs .refl).same (SameCans.refl _).sayHello)
    · exact .refl
  | encoderStep a b => exact story_encoderStep s a b t h
  | infeedEyeChange level => cases h; exact story_eyeChange s _ .infeed _
  | confirmEyeChange level => cases h; exact story_eyeChange s _ .confirm _
  | infeedArrival => exact story_infeedArrival s t h
  | missingExpiry => exact Turns.story (turns_missingExpiry s t h)
  | readTriggerPoint tag => cases h; exact Turns.story (turns_atPoint s tag .readTrigger)
  | platformEntryPoint tag => cases h; exact Turns.story (turns_atPoint s tag .platformEntry)
  | settlePoint tag => cases h; exact Turns.story (turns_atPoint s tag .settle)
  | endPoint tag => cases h; exact Turns.story (turns_atPoint s tag .endOfWindow)
  | exitPoint tag => cases h; exact Turns.story (turns_atPoint s tag .exit)
  | decisionPoint tag => cases h; exact Turns.story (turns_atPoint s tag .decision)
  | gatePoint tag => cases h; exact Turns.story (turns_atPoint s tag .gate)
  | confirmWindowClose tag => cases h; exact Turns.story (turns_atPoint s tag .confirmClose)
  | gatePulseExpiry =>
    cases h
    refine Turns.story ?_
    split
    · exact Turns.same .refl ((SameCans.refl s).onGtc _ rfl)
    · exact .refl
  | confirmArrival => exact Turns.story (turns_confirmArrival s t h)
  | sampleArrival value overrange =>
    cases h
    refine Turns.story ?_
    split
    · exact Turns.same .refl ((SameCans.refl s).takeSample _)
    · exact .refl
  | sampleGapExpiry =>
    cases h
    refine Turns.story ?_
    split
    · exact Turns.same .refl (SameCans.refl s).loseSamples
    · exact .refl
  | excitationConversion code =>
    cases h
    refine Turns.story ?_
    split
    · exact Turns.same .refl ((SameCans.refl s).convert code)
    · exact .refl
  | readinessInputChange i level => exact Turns.story (turns_readinessInputChange s i level t h)
  | readinessConditionedChange i =>
    cases h
    refine Turns.story ?_
    split
    · exact Turns.same .refl ((SameCans.refl s).conditioned i)
    · exact .refl
  | frameCompletion bytes =>
    cases h
    split
    · exact ⟨s, .refl, .refl⟩
    · exact ⟨_, Enterings.receive .refl bytes, .refl⟩
  | transmissionEnd => exact Turns.story (turns_transmissionEnd s t h)
  | portFree => exact Turns.story (turns_portFree s t h)
  | readState => cases h; exact Turns.story (turns_serve s _ fun u args => deeds_serveReadState .refl args)
  | readCounters => cases h; exact Turns.story (turns_serve s _ fun u args => deeds_serveReadCounters .refl args)
  | clearCounters => cases h; exact Turns.story (turns_serve s _ fun u args => deeds_serveClearCounters .refl args)
  | readPlatform => cases h; exact Turns.story (turns_serve s _ fun u args => (deeds_reads .refl args).1)
  | readValve => cases h; exact Turns.story (turns_serve s _ fun u args => (deeds_reads .refl args).2.1)
  | writeSetup => cases h; exact Turns.story (turns_serve s _ fun u args => deeds_serveWriteSetup .refl args)
  | readSetup => cases h; exact Turns.story (turns_serve s _ fun u args => (deeds_reads .refl args).2.2.1)
  | writePassEntry => cases h; exact Turns.story (turns_serve s _ fun u args => deeds_serveWritePassEntry .refl args)
  | readPassEntry => cases h; exact Turns.story (turns_serve s _ fun u args => (deeds_reads .refl args).2.2.2.1)
  | writeRecipe => cases h; exact Turns.story (turns_serve s _ fun u args => deeds_serveWriteRecipe .refl args)
  | readRecipe => cases h; exact Turns.story (turns_serve s _ fun u args => (deeds_reads .refl args).2.2.2.2.1)
  | verifyRecipe =>
    cases h
    refine Turns.story ?_
    refine Turns.serveLong .refl _ (fun u args a ha => ?_) fun u args v op hv => ?_
    · rcases serveVerifyRecipe_cases u args with ⟨b, hb, hu⟩ | ⟨k, _, hk⟩
      · rw [hb] at ha
        cases ha
        rw [hu]
        exact .refl
      · rw [hk] at ha
        cases ha
    · rcases serveVerifyRecipe_cases u args with ⟨b, hb, hu⟩ | ⟨k, hl, hk⟩
      · rw [hb] at hv
        cases hv
      · rw [hk] at hv
        cases hv
        refine ⟨Deeds.onSlot_idle .refl k _ (by rw [hl]; rfl) rfl rfl, fun j hj => ?_⟩
        cases hj
        rw [State.onSlot_slot, if_pos rfl]
  | verificationComplete => exact Turns.story (turns_verificationComplete s t h)
  | discardRecipe => cases h; exact Turns.story (turns_serve s _ fun u args => deeds_serveDiscardRecipe .refl args)
  | changeover => cases h; exact Turns.story (turns_serve s _ fun u args => deeds_serveChangeover .refl args)
  | stopProduct => cases h; exact Turns.story (turns_serve s _ fun u args => deeds_serveStopProduct .refl args)
  | startTracking => cases h; exact Turns.story (turns_serve s _ fun u args => deeds_serveStartTracking .refl args)
  | stopTracking => cases h; exact Turns.story (turns_serve s _ fun u args => deeds_serveStopTracking .refl args)
  | flushTracking => cases h; exact Turns.story (turns_serve s _ fun u args => deeds_serveFlushTracking .refl args)
  | setDate => cases h; exact Turns.story (turns_serve s _ fun u args => deeds_serveSetDate .refl args)
  | zeroNow => cases h; exact Turns.story (turns_serve s _ fun u args => deeds_serveZeroNow .refl args)
  | setValveMode => cases h; exact Turns.story (turns_serve s _ fun u args => deeds_serveSetValveMode .refl args)
  | clearLineStop => cases h; exact Turns.story (turns_serve s _ fun u args => deeds_serveClearLineStop .refl args)
  | holdBlock => cases h; exact Turns.story (turns_serve s _ fun u args => deeds_serveHoldBlock .refl args)
  | releaseBlock => cases h; exact Turns.story (turns_serve s _ fun u args => deeds_serveReleaseBlock .refl args)
  | calWrite =>
    cases h
    refine Turns.story ?_
    refine Turns.serveStore .refl _ fun u args => ?_
    cases hx : serveCalWrite u args with
    | inl a => exact .inl ⟨a, rfl, serveCalWrite_inl hx⟩
    | inr p =>
      obtain ⟨v, op⟩ := p
      obtain ⟨rfl, c, rfl⟩ := serveCalWrite_inr hx
      exact .inr ⟨_, rfl, fun k => by simp⟩
  | calWriteComplete => exact Turns.story (turns_calComplete s _ (by simp) t h)
  | calLock =>
    cases h
    refine Turns.story ?_
    refine Turns.serveStore .refl _ fun u args => (serveCalLock_cases u args).imp_right ?_
    rintro ⟨c, hc⟩
    exact ⟨_, hc, fun k => by simp⟩
  | calLockComplete => exact Turns.story (turns_calComplete s _ (by simp) t h)
  | calClear =>
    cases h
    refine Turns.story ?_
    refine Turns.serveStore .refl _ fun u args => (serveCalClear_cases u args).imp_right ?_
    rintro ⟨c, hc⟩
    exact ⟨_, hc, fun k => by simp⟩
  | calClearComplete => exact Turns.story (turns_calComplete s _ (by simp) t h)
  | readCal => cases h; exact Turns.story (turns_serve s _ fun u args => (deeds_reads .refl args).2.2.2.2.2)
  | resetPart => cases h; exact Turns.story (turns_resetPart s)
  | unknownRequestCode => cases h; exact Turns.story (Turns.serveWhere .refl _ fun u args => .refl)

/-- What every elementary change and every turn keeps, and what is not about the commands that wait, every step keeps. -/
theorem step_keeps {inv : State → Prop} (hw : ∀ s rest, inv s → inv { s with pending := rest })
    (hm : ∀ u v, Move u v → inv u → inv v) (hk : ∀ u v, Turn u v → inv u → inv v) (s t : State) (hs : inv s)
    (h : step s = .next t) : inv t := by
  unfold step at h
  split at h
  · cases h
    exact hs
  · obtain ⟨u, hu, ht⟩ := exec_story _ _ _ h
    exact ht.keeps (hu.moves.keeps (hw s _ hs) hm) hk

/-- Settles O4: no turn outgrows a queue or list. -/
theorem capacitiesKept : Obligations.CapacitiesKept :=
  fun s t hs => step_keeps (inv := State.withinCapacity) (fun _ _ h => h) (fun _ _ h => h.withinCapacity)
    (fun _ _ h => h.withinCapacity) s t hs

/-- Settles O6: every turn keeps the books of the slots and the generations of the tags. -/
theorem recipeBooksKept : Obligations.RecipeBooksKept :=
  ⟨fun s t hs => step_keeps (inv := State.booksAgree) (fun _ _ h => h) (fun _ _ h => h.booksAgree)
    (fun _ _ h => h.booksAgree) s t hs,
    fun s t hs => step_keeps (inv := State.tagsSpent) (fun _ _ h => h) (fun _ _ h => h.tagsSpent)
    (fun _ _ h => h.tagsSpent) s t hs⟩

end Sys2Proof.Machine
end

section
namespace Sys2Proof.Machine

/-! ## Frames compose -/

theorem State.changesOnly_refl (s : State) (ps : List Part) : s.changesOnly s ps :=
  ⟨rfl, fun p _ => by cases p <;> rfl⟩

theorem State.changesOnly.trans {s t u : State} {ps : List Part} (h : s.changesOnly t ps)
    (g : t.changesOnly u ps) : s.changesOnly u ps :=
  ⟨g.1.trans h.1, fun p hp => by
    have h' := h.2 p hp
    have g' := g.2 p hp
    cases p <;> exact Eq.trans g' h'⟩

/-- A change of one part leaves the others. -/
theorem State.changesOnly_part {s t : State} {ps : List Part} (q : Part) (hq : q ∈ ps) (hpending : t.pending = s.pending)
    (h : ∀ p ≠ q, p.same s t) : s.changesOnly t ps :=
  ⟨hpending, fun p hp => h p fun hpq => hp (hpq ▸ hq)⟩

/-- No part outside `ps` and no counter outside `cs` differs from `s` to `t`. -/
structure Touches (ps : List Part) (cs : List Counter) (s t : State) : Prop where
  parts : s.changesOnly t ps
  counts : ∀ c ∉ cs, t.counter c = s.counter c

/-- The counters of a notice that is placed (08 R176). -/
def noticeCounts : List Counter := [.noticeNoStation, .noticesDropped, .noticesQueued]

/-- The counters of a DOSE_TRIM (04 R99). -/
def trimCounts : List Counter := [.trimOverflow, .trimNoStation, .trimsQueued]

namespace Touches

variable {ps : List Part} {cs : List Counter}

theorem refl (s : State) : Touches ps cs s s := ⟨s.changesOnly_refl ps, fun _ _ => rfl⟩

variable {s t : State}

theorem trans {u : State} (h : Touches ps cs s t) (g : Touches ps cs t u) : Touches ps cs s u :=
  ⟨h.parts.trans g.parts, fun c hc => (g.counts c hc).trans (h.counts c hc)⟩

/-- Parts other than the counters are changed. -/
theorem of_counters (h : s.changesOnly t ps) (hc : t.counters = s.counters) : Touches ps cs s t :=
  ⟨h, fun c _ => by rw [State.counter, hc]; rfl⟩

theorem part (h : Touches ps cs s t) (p : Part) (hp : p ∉ ps := by decide) : p.same s t := h.parts.2 p hp

theorem counter (h : Touches ps cs s t) (c : Counter) (hc : c ∉ cs := by decide) : t.counter c = s.counter c :=
  h.counts c hc

theorem mono {ps' : List Part} {cs' : List Counter} (h : Touches ps cs s t) (hp : ps ⊆ ps') (hc : cs ⊆ cs') :
    Touches ps' cs' s t :=
  ⟨⟨h.parts.1, fun p hm => h.parts.2 p fun hps => hm (hp hps)⟩, fun c hm => h.counts c fun hcs => hm (hc hcs)⟩

variable (h : Touches ps cs s t)
include h

theorem onPins (f : Pins → Pins) (hp : .pins ∈ ps := by decide) : Touches ps cs s (t.onPins f) :=
  h.trans (of_counters (State.changesOnly_part .pins hp rfl fun p hp => by cases p <;> simp_all [Part.same]) rfl)

theorem onCtr (f : Ctr → Ctr) (hp : .ctr ∈ ps := by decide) : Touches ps cs s (t.onCtr f) :=
  h.trans (of_counters (State.changesOnly_part .ctr hp rfl fun p hp => by cases p <;> simp_all [Part.same]) rfl)

theorem onSup (f : Sup → Sup) (hp : .sup ∈ ps := by decide) : Touches ps cs s (t.onSup f) :=
  h.trans (of_counters (State.changesOnly_part .sup hp rfl fun p hp => by cases p <;> simp_all [Part.same]) rfl)

theorem onWge (f : Wge → Wge) (hp : .wge ∈ ps := by decide) : Touches ps cs s (t.onWge f) :=
  h.trans (of_counters (State.changesOnly_part .wge hp rfl fun p hp => by cases p <;> simp_all [Part.same]) rfl)

theorem onGtc (f : Gtc → Gtc) (hp : .gtc ∈ ps := by decide) : Touches ps cs s (t.onGtc f) :=
  h.trans (of_counters (State.changesOnly_part .gtc hp rfl fun p hp => by cases p <;> simp_all [Part.same]) rfl)

theorem onRcs (f : Rcs → Rcs) (hp : .rcs ∈ ps := by decide) : Touches ps cs s (t.onRcs f) :=
  h.trans (of_counters (State.changesOnly_part .rcs hp rfl fun p hp => by cases p <;> simp_all [Part.same]) rfl)

theorem onMga (f : Mga → Mga) (hp : .mga ∈ ps := by decide) : Touches ps cs s (t.onMga f) :=
  h.trans (of_counters (State.changesOnly_part .mga hp rfl fun p hp => by cases p <;> simp_all [Part.same]) rfl)

theorem onValve (v : Nat) (f : Valve → Valve) (hp : .drg ∈ ps := by decide) : Touches ps cs s (t.onValve v f) :=
  h.trans (of_counters (State.changesOnly_part .drg hp rfl fun p hp => by
    cases p <;> simp_all [Part.same, State.onValve]) rfl)

theorem bump (c : Counter) (hp : .counters ∈ ps := by decide) (hc : c ∈ cs := by decide) :
    Touches ps cs s (t.bump c) :=
  h.trans ⟨State.changesOnly_part .counters hp rfl fun p hp => by cases p <;> simp_all [Part.same],
    fun d hd => by
      rw [State.counter_bump]
      refine if_neg ?_
      rintro rfl
      exact hd hc⟩

theorem join (c : TxClass) (x : Queued) (hp : .lif ∈ ps := by decide) : Touches ps cs s (t.join c x) :=
  h.trans (of_counters (State.changesOnly_part .lif hp (by simp) fun p hp => by cases p <;> simp_all [Part.same])
    (by simp))

theorem addEntry (e : Entry) (hp : [.ctr, .rcs] ⊆ ps := by decide) : Touches ps cs s (t.addEntry e) := by
  have hctr : Part.ctr ∈ ps := hp (by decide)
  have hrcs : Part.rcs ∈ ps := hp (by decide)
  refine h.trans (of_counters ⟨by simp, fun p hp => ?_⟩ (by simp))
  cases p <;> simp_all [Part.same]

theorem placeNotice (d : Byte) (n : Notice) (hp : [.lif, .mga, .counters] ⊆ ps := by decide)
    (hc : noticeCounts ⊆ cs := by decide) : Touches ps cs s (t.placeNotice d n) := by
  have hl : Part.lif ∈ ps := hp (by decide)
  have hm : Part.mga ∈ ps := hp (by decide)
  have hn : Part.counters ∈ ps := hp (by decide)
  unfold State.placeNotice
  split
  · exact h.bump _ hn (hc (by decide))
  · split
    · exact (h.onMga _ hm).bump _ hn (hc (by decide))
    · exact ((h.onMga _ hm).join _ _ hl).bump _ hn (hc (by decide))

theorem notify (n : Notice) (hp : [.lif, .mga, .counters] ⊆ ps := by decide)
    (hc : noticeCounts ⊆ cs := by decide) : Touches ps cs s (t.notify n) := h.placeNotice _ n hp hc

theorem alert (v : Nat) (x : AlertReason) (hp : [.lif, .mga, .counters] ⊆ ps := by decide)
    (hc : .valveAlerts :: noticeCounts ⊆ cs := by decide) : Touches ps cs s (t.alert v x) := by
  have hn := h.notify (.valveAlert v x (t.valve v).trim (t.valve v).epoch (t.valve v).state) hp
    (List.cons_subset.mp hc).2
  unfold State.alert State.alertWith
  split
  · exact hn.bump _ (hp (by decide)) (List.cons_subset.mp hc).1
  · exact hn

theorem sendTrim (v : Nat) (hp : [.lif, .counters] ⊆ ps := by decide) (hc : trimCounts ⊆ cs := by decide) :
    Touches ps cs s (t.sendTrim v) := by
  have hl : Part.lif ∈ ps := hp (by decide)
  have hn : Part.counters ∈ ps := hp (by decide)
  unfold State.sendTrim
  split
  · exact h.bump _ hn (hc (by decide))
  · split
    · exact h.bump _ hn (hc (by decide))
    · exact (h.join _ _ hl).bump _ hn (hc (by decide))

theorem addCause (c : LineStopCause) (hp : [.sup, .lif, .mga, .counters] ⊆ ps := by decide)
    (hc : .lineStopAdds :: noticeCounts ⊆ cs := by decide) : Touches ps cs s (t.addCause c) := by
  obtain ⟨ha, hn⟩ := List.cons_subset.mp hc
  unfold State.addCause
  split
  · exact h
  · exact ((h.onSup _ (hp (by decide))).notify _ (List.cons_subset.mp hp).2 hn).bump _ (hp (by decide)) ha

end Touches

/-- The counters of the comparison of an epoch (04 R87, R88). -/
def epochCounts : List Counter :=
  [.epochMatches, .epochMismatches, .trimResends, .valveAlerts] ++ trimCounts ++ noticeCounts

/-- What the comparison of an epoch changes (04 R87, R88). -/
theorem State.takeEpoch_touches (s : State) (v : Nat) (epoch : Byte) :
    Touches [.lif, .mga, .drg, .counters] epochCounts s (s.takeEpoch v epoch) := by
  have h := Touches.refl (ps := [.lif, .mga, .drg, .counters]) (cs := epochCounts) s
  have hlimit : ∀ t, Touches [.lif, .mga, .drg, .counters] epochCounts s t →
      Touches [.lif, .mga, .drg, .counters] epochCounts s (t.mismatchLimit v) := fun t h => by
    unfold State.mismatchLimit
    dsimp only
    split
    · exact h
    · split
      · exact ((h.sendTrim v).onValve v _).bump _
      · exact (h.onValve v _).alert v _
  unfold State.takeEpoch
  split
  · exact h
  · split
    · exact (h.onValve v _).bump _
    · have hm := (h.onValve v fun x => { x with mismatchRun := (s.valve v).mismatchRun + 1 }).bump .epochMismatches
      unfold State.epochMismatch
      dsimp only
      split
      · exact (hlimit _ hm).onValve v _
      · exact hm

end Sys2Proof.Machine
end

section
namespace Sys2Proof.Machine

/-! ## Positions and the tables of R29 -/

/-- Settles O17: each point is read off its row of the table. -/
theorem pointsLieWhereTheTableSays : Obligations.PointsLieWhereTheTableSays := by
  intro s e
  refine ⟨rfl, rfl, rfl, ?_, fun h p hp => ?_, fun k h => ?_⟩
  · simp only [State.pointOffset, BitVec.ofNat_add]
    rfl
  · simp only [List.mem_cons, List.not_mem_nil, or_false] at hp
    rcases hp with rfl | rfl | rfl | rfl <;> simp [State.pointOffset, h]
  · simp only [State.pointOffset, h, Option.map_some]
    exact ⟨rfl, rfl, rfl, rfl⟩

/-- Settles O21: while STOPPED the arrival leaves its list and is counted. -/
theorem arrivalsWhileStoppedAreOnlyCounted : Obligations.ArrivalsWhileStoppedAreOnlyCounted := by
  intro s q rest hp hr
  refine ⟨fun h => ?_, fun h => ?_⟩
  · simp [exec, execInfeedArrival, State.taking, hp, h, State.infeedArrives, State.trackingRuns, hr, State.onCtr]
  · simp [exec, execConfirmArrival, State.taking, hp, h, State.confirmArrives, State.trackingRuns, hr, State.onCtr]

/-- Settles O24: below the limit only the run is raised; at the limit the slip event comes. -/
theorem slipRunActsAtItsLimit : Obligations.SlipRunActsAtItsLimit := by
  intro s
  refine ⟨fun h => ?_, fun h => ?_⟩
  · simp only [State.raiseSlip]
    rw [if_neg (by omega)]
    rfl
  · simp only [State.raiseSlip]
    rw [if_pos (by omega)]
    rfl

end Sys2Proof.Machine
end

section
namespace Sys2Proof.Machine

/-! ## Arrivals and expiries -/

/-- `State.onEntry` with its test written as an equation. -/
theorem State.onEntry_eq (s : State) (tag : Tag) (f : Entry → Entry) :
    s.onEntry tag f = s.onCtr fun c => { c with queue := c.queue.map fun e => if e.tag = tag then f e else e } := by
  simp [State.onEntry]

/-- The command INFEED_ARRIVAL takes the oldest recognised arrival. -/
theorem execInfeedArrival_eq {s : State} {q : Pos} {rest : List Pos} (hp : s.sup.phase = .running)
    (hd : s.ctr.infeedDue = q :: rest) :
    execInfeedArrival s = .next ((s.onCtr fun c => { c with infeedDue := rest }).infeedArrives q) := by
  simp [execInfeedArrival, State.taking, hp, hd]

/-- An arrival at or after the lower window edge of the oldest EN_ROUTE entry pairs with it (R23). -/
theorem State.infeedArrives_pair {s : State} (hr : s.ctr.run = .running) {e : Entry} (he : s.oldestEnRoute = some e)
    {q : Pos} (hw : atOrAfter q (s.windowLow e) = true) : s.infeedArrives q = (s.bump .arrivals).pair e q := by
  simp only [State.infeedArrives, State.trackingRuns, hr, he, hw]
  rfl

/-- An arrival before the lower window edge of the oldest EN_ROUTE entry, or with none, is a stray (R23). -/
theorem State.infeedArrives_stray {s : State} (hr : s.ctr.run = .running) {q : Pos}
    (h : s.oldestEnRoute = none ∨ ∃ e, s.oldestEnRoute = some e ∧ atOrAfter q (s.windowLow e) = false) :
    s.infeedArrives q = (s.bump .arrivals).strayArrives q := by
  rcases h with h | ⟨e, h, hw⟩
  · simp only [State.infeedArrives, State.trackingRuns, hr, h]
    rfl
  · simp only [State.infeedArrives, State.trackingRuns, hr, h, hw]
    rfl

/-- Settles O19. -/
theorem arrivalPairsOldestEnRoute : Obligations.ArrivalPairsOldestEnRoute := by
  intro s q rest e x hp hr hd he hx hw
  have hold : (s.onCtr fun c => { c with infeedDue := rest }).oldestEnRoute = some e := he
  have hlow : atOrAfter q ((s.onCtr fun c => { c with infeedDue := rest }).windowLow e) = true := by
    rw [State.windowLow, Entry.expected, hx]
    exact hw
  intro u
  rw [exec, execInfeedArrival_eq hp hd, State.infeedArrives_pair (by exact hr) hold hlow, State.pair, State.onEntry_eq]
  rfl

/-- Settles O25. -/
theorem expiryRetiresMissing : Obligations.ExpiryRetiresMissing := by
  intro s e x hp he hx ha
  have hexp : s.expired = some e := by
    rw [State.expired, State.oldestEnRoute, he, Option.filter, State.expiryPos, Entry.expected, hx]
    exact if_pos ha
  have hexec : exec .missingExpiry s = .next (s.expire e) := by
    simp [exec, execMissingExpiry, State.taking, hp, hexp]
  refine ⟨fun v hv hev hin => ?_, fun hev => ?_⟩
  · rw [hexec]
    have : ¬ s.valveCount ≤ v := by omega
    simp only [State.expire, hev, State.countValve, State.inert, State.bump_setup, State.retire_setup, State.valveCount]
    rw [if_neg (by simpa [State.valveCount] using this)]
    simp [State.onValve, State.onDrg, State.valve]
  · rw [hexec, State.expire, hev]
    rfl

end Sys2Proof.Machine
end

section
namespace Sys2Proof.Machine

/-- Settles O22: the free index is the lowest free one, and below 256 while the queue has room. -/
theorem newEntryTakesLowestFreeIndex : Obligations.NewEntryTakesLowestFreeIndex := by
  intro s e hroom
  obtain ⟨hlt, hfree, hlow⟩ := State.freeIndex_spec hroom
  have hgen := generations_getD s.ctr.generations hlt
  refine ⟨⟨s.freeIndex, hlt⟩, hfree, hlow, ?_, fun k => ?_, fun k => ?_, ?_, fun p hp => ?_⟩
  · rw [State.addEntry_ctr, State.tagOf, hgen]
    have hset : s.ctr.generations.setIfInBounds s.freeIndex (s.ctr.generations[s.freeIndex] + 1) =
        s.ctr.generations.set s.freeIndex (s.ctr.generations[s.freeIndex] + 1) := by
      ext i hi
      simp [Vector.getElem_setIfInBounds, Vector.getElem_set]
    rw [hset]
    cases e.origin <;> simp [insertEntry]
  · rw [State.addEntry_slot]
  · rw [State.image, State.addEntry_slot]
    exact ⟨rfl, rfl⟩
  · exact State.addEntry_pending s e
  · cases p <;> simp_all [Part.same]

end Sys2Proof.Machine
end

section
namespace Sys2Proof.Machine

/-! ## The operating requests -/

variable {s : State} {r : Request} {rest : List Request}

/-- The first test of R13 that fails, as a search in the list of the five. -/
theorem State.startConflict_eq (s : State) : s.startConflict =
    ((([decide (s.gatePosition ≤ s.actuatorLead), decide (s.decisionOffset ≤ s.readOffset),
      decide (s.gatePosition ≤ s.decisionOffset + s.actuatorLead),
      s.confirmEnable && decide (s.confirmOffset ≤ s.gatePosition + s.confirmTolerance),
      match s.activeSlot with
        | none => false
        | some k => decide (s.decisionOffset ≤ (s.image k).endOffset)].findIdx? id).map (· + 1))) := by
  unfold State.startConflict
  by_cases h1 : s.gatePosition ≤ s.actuatorLead
  · simp [h1, List.findIdx?_cons]
  by_cases h2 : s.decisionOffset ≤ s.readOffset
  · simp [h1, h2, List.findIdx?_cons]
  by_cases h3 : s.gatePosition ≤ s.decisionOffset + s.actuatorLead
  · have : ¬ s.decisionOffset < s.gatePosition - s.actuatorLead := by omega
    simp [h1, h2, h3, this, List.findIdx?_cons]
  have h3' : s.decisionOffset < s.gatePosition - s.actuatorLead := by omega
  by_cases h4 : s.confirmEnable = true ∧ s.confirmOffset ≤ s.gatePosition + s.confirmTolerance
  · simp [h1, h2, h3, h3', h4, List.findIdx?_cons]
  have h4' : (s.confirmEnable && decide (s.confirmOffset ≤ s.gatePosition + s.confirmTolerance)) = false := by
    simpa using h4
  rw [if_neg (by omega), if_neg (by omega), if_neg (by omega), if_neg (by simpa using h4)]
  cases hk : s.activeSlot with
  | none => simp [h1, h2, h3, h4', List.findIdx?_cons]
  | some k =>
    by_cases h5 : s.decisionOffset ≤ (s.image k).endOffset
    · have : ¬ (s.image k).endOffset < s.decisionOffset := by omega
      simp [h1, h2, h3, h4', h5, this, List.findIdx?_cons]
    · have : (s.image k).endOffset < s.decisionOffset := by omega
      simp [h1, h2, h3, h4', h5, this, List.findIdx?_cons]

/-- The first place of a list of five that holds `true`. -/
theorem findIdx?_of_getD {l : List Bool} {i : Nat} (hi : i < l.length) (h : l.getD i false = true)
    (hlow : ∀ j < i, l.getD j false = false) : l.findIdx? id = some i := by
  rw [List.findIdx?_eq_some_iff_getElem]
  refine ⟨hi, by simpa [List.getD, hi] using h, fun j hj => ?_⟩
  have := hlow j hj
  simpa [List.getD, Nat.lt_trans hj hi] using this

theorem findIdx?_none_of_getD {l : List Bool} (h : ∀ i < l.length, l.getD i false = false) :
    l.findIdx? id = none := by
  rw [List.findIdx?_eq_none_iff]
  intro x hx
  obtain ⟨i, hi, rfl⟩ := List.getElem_of_mem hx
  simpa [List.getD, hi] using h i hi

/-- START_TRACKING while STOPPED when no condition fails (R13). -/
theorem serveStartTracking_starts (h : s.ctr.run = .stopped) (hn : s.startConflict = none) :
    serveStartTracking s [] = (s.onCtr fun c => { c with run := .running, debt := 0, slipRun := 0 }).okay := by
  simp only [serveStartTracking, State.trackingRuns, h, hn]
  rfl

/-- START_TRACKING while STOPPED when condition `n` is the first that fails (R13). -/
theorem serveStartTracking_conflict (h : s.ctr.run = .stopped) {n : Nat} (hn : s.startConflict = some n) :
    serveStartTracking s [] = s.refuse .setupInconsistent [BitVec.ofNat 8 n] := by
  simp only [serveStartTracking, State.trackingRuns, h, hn]
  rfl

theorem printable_iff (b : Byte) : printable b = true ↔ 0x20 ≤ b.toNat ∧ b.toNat ≤ 0x7E := by
  simp [printable]

/-- SET_DATE with a text of 8 printable characters (R77). -/
theorem serveSetDate_text {text : List Byte} (hl : text.length = 8)
    (hp : ∀ b ∈ text, 0x20 ≤ b.toNat ∧ b.toNat ≤ 0x7E) :
    serveSetDate s (BitVec.ofNat 8 text.length :: text) =
      if s.sup.holdCck = true then s.okay [s.cck.generation]
      else ((s.onCck fun c =>
        { c with current := some text, previous := c.current, generation := c.generation + 1 }).bump .dateSets).okay [s.cck.generation + 1] := by
  have hall : text.all printable = true := by
    simpa only [List.all_eq_true, printable_iff] using hp
  simp [serveSetDate, hl, hall]

/-- SET_VALVE_MODE of a valve below the valve count, to INCLUDED (R98). -/
theorem serveSetValveMode_included {v : Byte} (hv : v.toNat < s.valveCount) :
    serveSetValveMode s [v, 0] =
      if s.sup.holdDrg = true ∨ (s.valve v.toNat).mode = .included then s.okay
      else (s.onValve v.toNat fun x => { x with mode := .included }).okay := by
  have : s.inert v.toNat = false := by simp [State.inert, hv]
  simp only [serveSetValveMode, valveModeOf, this]
  rfl

/-- SET_VALVE_MODE of a valve below the valve count, to EXCLUDED (R98): its batch is discarded. -/
theorem serveSetValveMode_excluded {v : Byte} (hv : v.toNat < s.valveCount) :
    serveSetValveMode s [v, 1] =
      if s.sup.holdDrg = true ∨ (s.valve v.toNat).mode = .excluded then s.okay
      else (s.onValve v.toNat fun x => { x with mode := .excluded, sum := 0, n := 0 }).okay := by
  have : s.inert v.toNat = false := by simp [State.inert, hv]
  simp only [serveSetValveMode, valveModeOf, this]
  rfl

/-- SET_VALVE_MODE of a valve at or above the valve count, or to no mode (R98). -/
theorem serveSetValveMode_refused {v m : Byte} (h : s.valveCount ≤ v.toNat ∨ 1 < m.toNat) :
    serveSetValveMode s [v, m] = s.refuse .badArgument := by
  rcases h with h | h
  · have : s.inert v.toNat = true := by simp [State.inert, h]
    simp only [serveSetValveMode, this]
    cases valveModeOf m <;> rfl
  · have h0 : m ≠ 0 := by rintro rfl; simp at h
    have h1 : m ≠ 1 := by rintro rfl; simp at h
    rw [serveSetValveMode, valveModeOf, if_neg h0, if_neg h1]

/-- Equal answers give equal replies. -/
theorem next_replyTo {r : Request} {a b : Answer} (h : a = b) :
    (.next (replyTo r a) : Result) = .next (replyTo r b) := by rw [h]

/-- Settles O57: each request is served by its function, whose cases are those of its rule. -/
theorem operatingRequestsTakeEffect : Obligations.OperatingRequestsTakeEffect := by
  intro s r rest hb
  refine ⟨fun hc ha => ?_, fun text hc ha hl hp => ?_, fun hc ha => ?_, fun v m hc ha hv hv96 => ?_,
    fun v m hc ha hbad => ?_⟩
  · have hexec : exec .startTracking s = .next (replyTo r (serveStartTracking (s.took rest) [])) := by
      rw [exec, execStartTracking, hb.serve hc, ha]
    intro fails
    have hconf : (s.took rest).startConflict = (fails.findIdx? id).map (· + 1) := State.startConflict_eq _
    refine ⟨fun hr => ?_, fun hr hok => ?_, fun i hi hr hf hlow => ?_⟩
    · exact hexec.trans (next_replyTo (if_pos ((s.took rest).trackingRuns_iff.mpr hr)))
    · have hnone : fails.findIdx? id = none := findIdx?_none_of_getD hok
      exact hexec.trans (next_replyTo (serveStartTracking_starts hr (by rw [hconf, hnone]; rfl)))
    · have hsome : fails.findIdx? id = some i := findIdx?_of_getD hi hf hlow
      exact hexec.trans (next_replyTo (serveStartTracking_conflict (s := s.took rest) hr (by rw [hconf, hsome]; rfl)))
  · have hexec : exec .setDate s = .next (replyTo r (serveSetDate (s.took rest) r.args)) := by
      rw [exec, execSetDate, hb.serve hc]
    rw [ha, serveSetDate_text hl hp] at hexec
    exact ⟨fun hh => hexec.trans (next_replyTo (if_pos hh)),
      fun hh => hexec.trans (next_replyTo (if_neg (by simp [hh])))⟩
  · have hexec : exec .zeroNow s = .next (replyTo r (serveZeroNow (s.took rest) [])) := by
      rw [exec, execZeroNow, hb.serve hc, ha]
    exact ⟨fun hh => hexec.trans (next_replyTo (if_pos hh)),
      fun hh => hexec.trans (next_replyTo (if_neg (by simp [hh])))⟩
  · have hexec : exec .setValveMode s = .next (replyTo r (serveSetValveMode (s.took rest) [v, m])) := by
      rw [exec, execSetValveMode, hb.serve hc, ha]
    refine ⟨fun hm => ?_, fun hm => ?_⟩
    · subst hm
      refine hexec.trans (next_replyTo ((serveSetValveMode_included (s := s.took rest) hv).trans ?_))
      exact (apply_ite State.okay _ _ _).symm
    · subst hm
      refine hexec.trans (next_replyTo ((serveSetValveMode_excluded (s := s.took rest) hv).trans ?_))
      exact (apply_ite State.okay _ _ _).symm
  · refine Eq.trans ?_ (next_replyTo (serveSetValveMode_refused hbad))
    rw [exec, execSetValveMode, hb.serve hc, ha]

end Sys2Proof.Machine
end

section
namespace Sys2Proof.Machine

/-! ## DISCHARGE (R17 to R20) -/

theorem exec_discharge {s : State} {f : Frame} {p : PassEntry} (hf : s.admits f) (hd : f.dest = s.ownStation)
    (hk : f.kind ≠ 0x40) (hm : s.passMatch f = some p) (hi : p.intake = .discharge) :
    exec (.frameCompletion f.bytes) s = .next ((s.bump .rxFrames).handTo .discharge f) := by
  obtain ⟨source, kind, intake, forward⟩ := p
  have hm' : (s.bump .rxFrames).passMatch f = some ⟨source, kind, .discharge, forward⟩ := by
    rw [← hi]
    exact hm
  rw [exec, hf.exec, State.classify, if_pos (by exact hd), State.classifyOwn, if_neg hk, hm']

theorem dischargeOf_none {payload : List Byte} (h : payload.length ≠ 6) : dischargeOf payload = none := by
  unfold dischargeOf
  split
  · simp at h
  · rfl

section
variable {s t : State} (hdrg : t.drg = s.drg)
include hdrg

theorem State.valve_congr (v : Nat) : t.valve v = s.valve v := by
  rw [State.valve, hdrg, State.valve]

theorem State.onValve_drg (v : Nat) (f : Valve → Valve) : (t.onValve v f).drg = (s.onValve v f).drg := by
  simp only [State.onValve, State.onDrg_drg, hdrg]

theorem State.mismatchLimit_drg (v : Nat) : (t.mismatchLimit v).drg = (s.mismatchLimit v).drg := by
  have htrim : (t.sendTrim v).drg = (s.sendTrim v).drg := by rw [State.sendTrim_drg, State.sendTrim_drg, hdrg]
  unfold State.mismatchLimit
  simp only [State.valve_congr hdrg]
  split_ifs
  · exact hdrg
  · rw [State.bump_drg, State.bump_drg, State.onValve_drg htrim]
  · rw [State.alert_drg, State.alert_drg, State.onValve_drg hdrg]

theorem State.epochMismatch_drg (hsetup : t.setup = s.setup) (v : Nat) :
    (t.epochMismatch v).drg = (s.epochMismatch v).drg := by
  have hrun : ((t.onValve v fun x => { x with mismatchRun := (s.valve v).mismatchRun + 1 }).bump .epochMismatches).drg =
      ((s.onValve v fun x => { x with mismatchRun := (s.valve v).mismatchRun + 1 }).bump .epochMismatches).drg :=
    by rw [State.bump_drg, State.bump_drg, State.onValve_drg hdrg]
  have hcount : t.resendCount = s.resendCount := by rw [State.resendCount, hsetup, State.resendCount]
  unfold State.epochMismatch
  rw [State.valve_congr hdrg]
  by_cases h : s.resendCount ≤ (s.valve v).mismatchRun + 1
  · have h' : t.resendCount ≤ (s.valve v).mismatchRun + 1 := hcount ▸ h
    exact (congrArg State.drg (if_pos h')).trans ((State.onValve_drg (State.mismatchLimit_drg hrun v) v _).trans
      (congrArg State.drg (if_pos h)).symm)
  · have h' : ¬ t.resendCount ≤ (s.valve v).mismatchRun + 1 := hcount ▸ h
    exact (congrArg State.drg (if_neg h')).trans (hrun.trans (congrArg State.drg (if_neg h)).symm)

/-- The valves after the comparison of an epoch depend on the valves, the setup and the hold alone. -/
theorem State.takeEpoch_drg (hsup : t.sup = s.sup) (hsetup : t.setup = s.setup) (v : Nat) (epoch : Byte) :
    (t.takeEpoch v epoch).drg = (s.takeEpoch v epoch).drg := by
  unfold State.takeEpoch
  rw [State.valve_congr hdrg, hsup]
  split_ifs
  · exact hdrg
  · rw [State.epochMatch, State.epochMatch, State.bump_drg, State.bump_drg, State.onValve_drg hdrg]
  · exact State.epochMismatch_drg hdrg hsetup v

end

theorem State.epochCompared_touches (s : State) (d : Discharge) :
    Touches [.lif, .mga, .drg, .counters] epochCounts (s.bump .discharges) (s.epochCompared d) := by
  unfold State.epochCompared
  split
  · exact Touches.refl _
  · exact State.takeEpoch_touches _ _ _

/-- What a new entry leaves of the tracker and of the slots depends on the two alone. -/
theorem State.addEntry_congr {s t : State} (hctr : t.ctr = s.ctr) (hrcs : t.rcs = s.rcs) (e : Entry) :
    (t.addEntry e).ctr = (s.addEntry e).ctr ∧ (t.addEntry e).rcs = (s.addEntry e).rcs := by
  refine ⟨?_, ?_⟩
  · rw [State.addEntry_ctr, State.addEntry_ctr, State.tagOf, State.freeIndex, hctr]
    rfl
  · unfold State.addEntry
    cases e.slot <;> simp [hrcs]

section
variable (s : State) (d : Discharge)

theorem State.discharge_touches : Touches [.lif, .mga, .ctr, .drg, .rcs, .counters]
    (.badValve :: .trackOverflow :: epochCounts) (s.bump .discharges) (s.discharge d) := by
  have hc : Touches [.lif, .mga, .ctr, .drg, .rcs, .counters] (.badValve :: .trackOverflow :: epochCounts)
      (s.bump .discharges) (s.epochCompared d) := (s.epochCompared_touches d).mono (by decide) (by decide)
  rw [State.discharge_eq]
  split
  · split
    · exact (hc.addEntry _).bump _
    · exact hc.addEntry _
  · exact hc.bump _

theorem State.discharge_drg : (s.discharge d).drg = (s.epochCompared d).drg := by
  rw [State.discharge_eq]
  split_ifs <;> simp

/-- A discharge with room in the queue makes its entry (R18, R20). -/
theorem State.discharge_room (hroom : s.ctr.queue.length < 256) :
    (s.discharge d).ctr = (s.addEntry (s.dischargeEntry d)).ctr ∧
      (s.discharge d).rcs = (s.addEntry (s.dischargeEntry d)).rcs ∧
      (s.discharge d).counter .badValve =
        (if s.inert d.valve then satInc (s.counter .badValve) else s.counter .badValve) := by
  have hc := s.epochCompared_touches d
  have hadd := State.addEntry_congr (s := s) (hc.part .ctr) (hc.part .rcs) (s.dischargeEntry d)
  have hcount : ((s.epochCompared d).addEntry (s.dischargeEntry d)).counter .badValve = s.counter .badValve := by
    rw [State.counter, State.addEntry_counters]
    exact (hc.counter .badValve).trans (State.counter_bump s .discharges .badValve)
  rw [State.discharge_eq, if_pos hroom]
  split
  · exact ⟨hadd.1, hadd.2, by rw [State.counter_bump, if_pos rfl, hcount]⟩
  · exact ⟨hadd.1, hadd.2, hcount⟩

/-- A discharge at a full queue makes no entry (R18). -/
theorem State.discharge_full (hfull : 256 ≤ s.ctr.queue.length) :
    (s.discharge d).ctr = s.ctr ∧ (s.discharge d).rcs = s.rcs ∧
      (s.discharge d).counter .trackOverflow = satInc (s.counter .trackOverflow) := by
  have hc := s.epochCompared_touches d
  have hcount : (s.epochCompared d).counter .trackOverflow = s.counter .trackOverflow :=
    (hc.counter .trackOverflow).trans (State.counter_bump s .discharges .trackOverflow)
  rw [State.discharge_eq, if_neg (by omega)]
  exact ⟨hc.part .ctr, hc.part .rcs, by rw [State.counter_bump, if_pos rfl, hcount]⟩

end

/-- The recipe id of a DISCHARGE, in bytes. -/
theorem toNat_append_byte (a b : Byte) : (a ++ b : Word16).toNat = a.toNat * 256 + b.toNat := by
  rw [BitVec.toNat_append, ← Nat.shiftLeft_add_eq_or_of_lt b.isLt, Nat.shiftLeft_eq]

/-- A valve is known to the part when its number lies below the valve count (04 R84). -/
theorem State.inert_eq (s : State) (v : Nat) : s.inert v = !decide (v < s.valveCount) := by
  rw [← decide_not]
  exact decide_eq_decide.mpr Nat.not_lt.symm

/-- What a discharge does once its frame has been counted (R18 to R20, R87). -/
theorem State.discharge_counted {s u : State} (hu : Touches [.counters] [.rxFrames, .takenDischarge] s u)
    (d : Discharge) (he : u.dischargeEntry d = s.dischargeEntry d) :
    (u.discharge d).drg = (if s.inert d.valve then s else s.takeEpoch d.valve d.epoch).drg ∧
      (u.discharge d).counter .discharges = satInc (s.counter .discharges) ∧
      (s.ctr.queue.length < 256 → (u.discharge d).ctr = (s.addEntry (s.dischargeEntry d)).ctr ∧
        (u.discharge d).rcs = (s.addEntry (s.dischargeEntry d)).rcs ∧ (u.discharge d).counter .badValve =
          (if s.inert d.valve then satInc (s.counter .badValve) else s.counter .badValve)) ∧
      (256 ≤ s.ctr.queue.length → (u.discharge d).ctr = s.ctr ∧ (u.discharge d).rcs = s.rcs ∧
        (u.discharge d).counter .trackOverflow = satInc (s.counter .trackOverflow)) ∧
      s.changesOnly (u.discharge d) [.lif, .mga, .ctr, .drg, .rcs, .counters] := by
  have hctr : u.ctr = s.ctr := hu.part .ctr
  have hrcs : u.rcs = s.rcs := hu.part .rcs
  have hinert : u.inert d.valve = s.inert d.valve := by
    rw [State.inert, State.valveCount, show u.setup = s.setup from hu.part .setup]
    rfl
  have htouch := u.discharge_touches d
  refine ⟨?_, ?_, fun hroom => ?_, fun hfull => ?_, ?_⟩
  · rw [State.discharge_drg, State.epochCompared, hinert]
    have hdrg : (u.bump .discharges).drg = s.drg := hu.part .drg
    have hsup : (u.bump .discharges).sup = s.sup := hu.part .sup
    have hsetup : (u.bump .discharges).setup = s.setup := hu.part .setup
    split
    · exact hdrg
    · exact State.takeEpoch_drg hdrg hsup hsetup _ _
  · have hcount : (u.discharge d).counter .discharges = (u.bump .discharges).counter .discharges :=
      htouch.counter .discharges
    rw [hcount, State.counter_bump, if_pos rfl, hu.counter .discharges]
  · obtain ⟨hqueue, hslots, hbad⟩ := u.discharge_room d (by rw [hctr]; exact hroom)
    obtain ⟨hectr, hercs⟩ := State.addEntry_congr hctr hrcs (s.dischargeEntry d)
    rw [hinert, hu.counter .badValve] at hbad
    rw [he] at hqueue hslots
    exact ⟨hqueue.trans hectr, hslots.trans hercs, hbad⟩
  · obtain ⟨hqueue, hslots, hover⟩ := u.discharge_full d (by rw [hctr]; exact hfull)
    exact ⟨hqueue.trans hctr, hslots.trans hrcs, by rw [hover, hu.counter .trackOverflow]⟩
  · have hfirst : Touches [.lif, .mga, .ctr, .drg, .rcs, .counters] [.rxFrames, .takenDischarge, .discharges] s
        (u.bump .discharges) := (hu.mono (by decide) (by decide)).bump _
    exact hfirst.parts.trans htouch.parts

/-- Settles O49. -/
theorem dischargeMakesAnEntry : Obligations.DischargeMakesAnEntry := by
  intro s f p hf hd hk hm hi
  refine ⟨fun hlen => ?_, ?_⟩
  · rw [exec_discharge hf hd hk hm hi, State.handTo, dischargeOf_none hlen]
  · intro v s1 s0 epoch r1 r0 hpay known id e
    have hexec : exec (.frameCompletion f.bytes) s = .next (((s.bump .rxFrames).bump .takenDischarge).dischargeIntake
        ⟨v.toNat, s1 ++ s0, epoch, (r1 ++ r0 : Word16).toNat⟩) := by
      rw [exec_discharge hf hd hk hm hi, State.handTo, hpay]
      rfl
    refine ⟨fun hr => ?_, fun hr => ?_⟩
    · rw [hexec, State.dischargeIntake, if_neg]
      simp [State.trackingRuns, hr]
    · rw [State.dischargeIntake, if_pos (by simp [State.trackingRuns, hr])] at hexec
      have heffect := State.discharge_counted (((Touches.refl s).bump .rxFrames).bump .takenDischarge)
        ⟨v.toNat, s1 ++ s0, epoch, (r1 ++ r0 : Word16).toNat⟩ rfl
      have hentry : s.dischargeEntry ⟨v.toNat, s1 ++ s0, epoch, (r1 ++ r0 : Word16).toNat⟩ = e := by
        simp only [State.dischargeEntry, State.inert_eq, Bool.not_not, State.slotForId, toNat_append_byte]
        cases hk : decide (v.toNat < s.valveCount) <;> simp only [e, known, hk] <;> rfl
      obtain ⟨hdrg, hcount, hroom, hfull, hall⟩ := heffect
      rw [hentry] at hroom
      rw [s.inert_eq] at hdrg hroom
      refine ⟨_, hexec, ?_, hcount, fun hq => ?_, hfull, hall⟩
      · rw [hdrg]
        cases hk : decide (v.toNat < s.valveCount) <;> simp only [known, hk] <;> rfl
      · obtain ⟨hqueue, hslots, hbad⟩ := hroom hq
        refine ⟨hqueue, hslots, hbad.trans ?_⟩
        cases hk : decide (v.toNat < s.valveCount) <;> simp only [known, hk] <;> rfl

end Sys2Proof.Machine
end

section
namespace Sys2Proof.Machine

/-! ## What a frame that is formed does not read

The transmit port reads the port's own state, the setup and the station; so a notice joins in the same way whatever
the tracker, the platform, the gate and the slots hold.
-/

/-- `s` with the tracker, the platform, the gate, the slots and the pins of `o`. -/
def State.beside (s o : State) : State :=
  { s with pins := o.pins, ctr := o.ctr, wge := o.wge, gtc := o.gtc, rcs := o.rcs }

section
variable (s o : State)

theorem State.beside_startSending (c : TxClass) : (s.beside o).startSending c = (s.startSending c).beside o := by
  unfold State.startSending
  rw [show (s.beside o).lif = s.lif from rfl]
  split
  · rfl
  · dsimp only
    split <;> rfl

theorem State.beside_arbitrate : (s.beside o).arbitrate = s.arbitrate.beside o := by
  unfold State.arbitrate
  rw [show (s.beside o).bypassed = s.bypassed from rfl, show (s.beside o).lif = s.lif from rfl,
    show (s.beside o).nextClass = s.nextClass from rfl]
  split
  · rfl
  · split
    · rfl
    · exact State.beside_startSending s o _

theorem State.beside_join (c : TxClass) (x : Queued) : (s.beside o).join c x = (s.join c x).beside o :=
  State.beside_arbitrate (s.onLif fun l => l.setQueue c (l.queue c ++ [x])) o

theorem State.beside_notify (n : Notice) : (s.beside o).notify n = (s.notify n).beside o := by
  unfold State.notify State.placeNotice
  rw [show (s.beside o).noticeStation = s.noticeStation from rfl, show (s.beside o).queueFull = s.queueFull from rfl,
    show (s.beside o).mga = s.mga from rfl]
  split
  · rfl
  · split
    · rfl
    · exact congrArg (State.bump · .noticesQueued)
        (State.beside_join (s.onMga fun m => { m with noticeNumber := m.noticeNumber + 1, dropCount := 0 }) o _ _)

end

section
variable (s : State) (c : Counter)

theorem State.bump_startSending (q : TxClass) : (s.bump c).startSending q = (s.startSending q).bump c := by
  unfold State.startSending
  rw [show (s.bump c).lif = s.lif from rfl]
  split
  · rfl
  · dsimp only
    split <;> rfl

theorem State.bump_arbitrate : (s.bump c).arbitrate = s.arbitrate.bump c := by
  unfold State.arbitrate
  rw [show (s.bump c).bypassed = s.bypassed from rfl, show (s.bump c).lif = s.lif from rfl,
    show (s.bump c).nextClass = s.nextClass from rfl]
  split
  · rfl
  · split
    · rfl
    · exact State.bump_startSending s c _

theorem State.bump_join (q : TxClass) (x : Queued) : (s.bump c).join q x = (s.join q x).bump c :=
  State.bump_arbitrate (s.onLif fun l => l.setQueue q (l.queue q ++ [x])) c

/-- A counter raised before a notice or after it gives the same. -/
theorem State.bump_notify (n : Notice) : (s.bump c).notify n = (s.notify n).bump c := by
  unfold State.notify State.placeNotice
  rw [show (s.bump c).noticeStation = s.noticeStation from rfl, show (s.bump c).queueFull = s.queueFull from rfl,
    show (s.bump c).mga = s.mga from rfl]
  split
  · exact State.bump_comm s c _
  · split
    · exact State.bump_comm (s.onMga fun m =>
        { m with dropCount := if m.dropCount = 255 then 255 else m.dropCount + 1 }) c _
    · exact (congrArg (State.bump · .noticesQueued) (State.bump_join (s.onMga fun m =>
        { m with noticeNumber := m.noticeNumber + 1, dropCount := 0 }) c _ _)).trans (State.bump_comm _ c _)

end

/-! ## Retirements (R7, R142) -/

/-- A slot is released without a report, or with one when it was draining and this was its last entry. -/
theorem State.releaseSlot_eq (s : State) (k : SlotId) (m : DrainMoment) : s.releaseSlot (some k) m =
    if (s.rcs.slot k).state = .draining ∧ (s.rcs.slot k).refs ≤ 1 then (s.unslot (some k)).slotReported k m
    else s.unslot (some k) := by
  simp only [State.releaseSlot, State.drainCheck_eq, State.onRcs_rcs, Rcs.setSlot_slot, State.image,
    Nat.sub_eq_zero_iff_le]
  split <;> rename_i hd
  · have h : (s.onRcs fun r => r.setSlot k { r.slot k with refs := (r.slot k).refs - 1 }).onRcs
        (fun r => r.setSlot k { r.slot k with state := .verified }) = s.unslot (some k) := by
      simp only [State.unslot, State.onRcs, Slot.released_retires (by simpa [Nat.sub_eq_zero_iff_le] using hd), Rcs.setSlot_slot]
      cases k <;> rfl
    have himage : ((s.unslot (some k)).image k).recipeId = ((s.rcs.slot k).image).recipeId := by
      rw [State.image, State.unslot_slot, if_pos rfl]
      rfl
    rw [h, State.slotReported, himage]
  · simp only [State.unslot, State.onRcs, Slot.released_counts (by simpa [Nat.sub_eq_zero_iff_le] using hd)]

/-- `s` once a retired entry's slot has been reported, when draining ends with it (R142). -/
def State.slotLeft (s : State) (slot : Option SlotId) (m : DrainMoment) : State :=
  match slot with
  | none => s
  | some k => if (s.rcs.slot k).state = .draining ∧ (s.rcs.slot k).refs ≤ 1 then s.slotReported k m else s

/-- An entry that is retired is dropped and its slot released; beside that the report comes. -/
theorem State.released_eq (s : State) (tag : Tag) (slot : Option SlotId) (m : DrainMoment) :
    (s.dropped tag).releaseSlot slot m = (s.slotLeft slot m).beside ((s.dropped tag).unslot slot) := by
  cases slot with
  | none => rfl
  | some k =>
    rw [State.releaseSlot_eq, State.slotLeft]
    rw [show (s.dropped tag).rcs = s.rcs from rfl]
    split
    · have himage : ((s.dropped tag).unslot (some k)).image k = s.image k := by
        rw [State.image, State.unslot_slot, if_pos rfl]
        rfl
      rw [State.slotReported, himage,
        show (s.dropped tag).unslot (some k) = s.beside ((s.dropped tag).unslot (some k)) from rfl, State.beside_notify]
      rfl
    · rfl

theorem State.retire_flushed {s : State} {tag : Tag} {e : Entry} (h : s.entry tag = some e) :
    s.retire .flushed tag = (s.slotLeft e.slot .flush).beside ((s.dropped tag).unslot e.slot) := by
  rw [← State.released_eq, State.retire, h]
  rfl

theorem State.retire_other {s : State} {tag : Tag} {e : Entry} (h : s.entry tag = some e) {out : ExitOutcome}
    (ho : out ≠ .flushed) : s.retire out tag =
      ((s.slotLeft e.slot .lastEntry).beside ((s.dropped tag).unslot e.slot)).sendCanResult
        { e with exit := some out } := by
  rw [← State.released_eq, State.retire, h]
  exact if_neg ho

end Sys2Proof.Machine
end

section
namespace Sys2Proof.Machine

theorem State.sendCanResult_gtc (s : State) (e : Entry) : (s.sendCanResult e).gtc = { s.gtc with
    resultNumber := if s.resultEnable = true ∧ s.noticeStation ≠ 0 then s.gtc.resultNumber + 1
      else s.gtc.resultNumber } := by
  unfold State.sendCanResult
  by_cases he : s.resultEnable = true
  · by_cases hs : s.noticeStation = 0
    · simp [he, hs]
    · simp only [he, hs]
      split_ifs <;> simp_all
  · simp [he]

theorem State.sendCanResult_disabled {s : State} (h : s.resultEnable = false) (e : Entry) : s.sendCanResult e = s := by
  simp [State.sendCanResult, h]

theorem State.sendCanResult_noStation {s : State} (h : s.resultEnable = true) (hs : s.noticeStation = 0) (e : Entry) :
    s.sendCanResult e = s.bump .resultNoStation := by
  simp [State.sendCanResult, h, hs]

theorem Touches.sendCanResult {ps : List Part} {cs : List Counter} {s t : State} (h : Touches ps cs s t) (e : Entry)
    (hp : [.lif, .gtc, .counters] ⊆ ps := by decide)
    (hc : [.resultNoStation, .resultOverflow, .resultsQueued] ⊆ cs := by decide) :
    Touches ps cs s (t.sendCanResult e) := by
  have hl : Part.lif ∈ ps := hp (by decide)
  have hg : Part.gtc ∈ ps := hp (by decide)
  have hn : Part.counters ∈ ps := hp (by decide)
  unfold State.sendCanResult
  split
  · exact h
  · split
    · exact h.bump _ hn (hc (by decide))
    · dsimp only
      split
      · exact (h.onGtc _ hg).bump _ hn (hc (by decide))
      · exact ((h.onGtc _ hg).join _ _ hl).bump _ hn (hc (by decide))

/-- The arbiter only takes frames from the RESULT queue. -/
theorem State.arbitrate_result (s : State) : s.arbitrate.lif.result <:+ s.lif.result := by
  unfold State.arbitrate
  split
  · exact List.suffix_rfl
  · split
    · exact List.suffix_rfl
    · rename_i c _
      unfold State.startSending
      split
      · exact List.suffix_rfl
      · rename_i x rest hq
        have hset : (s.lif.setQueue c rest).result <:+ s.lif.result := by
          cases c
          case result => exact ⟨[x], hq.symm⟩
          all_goals exact List.suffix_rfl
        cases x <;> exact hset

theorem State.join_result {s : State} {c : TxClass} (hc : c ≠ .result) (x : Queued) :
    (s.join c x).lif.result <:+ s.lif.result := by
  refine (State.arbitrate_result _).trans ?_
  cases c
  case result => exact absurd rfl hc
  all_goals exact List.suffix_rfl

theorem State.notify_result (s : State) (n : Notice) : (s.notify n).lif.result <:+ s.lif.result := by
  unfold State.notify State.placeNotice
  split
  · exact List.suffix_rfl
  · split
    · exact List.suffix_rfl
    · exact State.join_result (s := s.onMga _) (by decide) _

theorem State.slotLeft_result (s : State) (slot : Option SlotId) (m : DrainMoment) :
    (s.slotLeft slot m).lif.result <:+ s.lif.result := by
  cases slot with
  | none => exact List.suffix_rfl
  | some k =>
    unfold State.slotLeft
    dsimp only
    split
    · exact State.notify_result s _
    · exact List.suffix_rfl

theorem State.slotLeft_touches (s : State) (slot : Option SlotId) (m : DrainMoment) :
    Touches [.lif, .mga, .counters] (.slotRetirements :: noticeCounts) s (s.slotLeft slot m) := by
  cases slot with
  | none => exact Touches.refl s
  | some k =>
    unfold State.slotLeft
    dsimp only
    split
    · exact ((Touches.refl s).notify _).bump _
    · exact Touches.refl s

/-- The release of a slot leaves every part but the Recipe Store. -/
theorem State.unslot_changesOnly (s : State) (slot : Option SlotId) : s.changesOnly (s.unslot slot) [.rcs] := by
  cases slot with
  | none => exact s.changesOnly_refl _
  | some k => exact ((Touches.refl (cs := []) s).onRcs _).parts

/-- Settles O26: a retirement is the drop of the entry and the release of its slot, with the slot's report beside
it, and a CAN_RESULT after it. -/
theorem retirementFreesTheEntry : Obligations.RetirementFreesTheEntry := by
  intro s out e he t
  let m : DrainMoment := if out = .flushed then .flush else .lastEntry
  let v := (s.slotLeft e.slot m).beside ((s.dropped e.tag).unslot e.slot)
  have hflushed : out = .flushed → t = v := fun ho => by
    subst ho
    exact State.retire_flushed he
  have hother : out ≠ .flushed → t = v.sendCanResult { e with exit := some out } := fun ho => by
    simp only [v, m, if_neg ho]
    exact State.retire_other he ho
  have htv : Touches [.lif, .gtc, .counters] [.resultNoStation, .resultOverflow, .resultsQueued] v t := by
    by_cases ho : out = .flushed
    · rw [hflushed ho]
      exact Touches.refl v
    · rw [hother ho]
      exact (Touches.refl v).sendCanResult _
  have hsv := s.slotLeft_touches e.slot m
  have hunslot := (s.dropped e.tag).unslot_changesOnly e.slot
  have hquiet : out = .flushed ∨ s.resultEnable = false → t = v := fun h => by
    by_cases ho : out = .flushed
    · exact hflushed ho
    · have hen : v.resultEnable = false := by
        rw [State.resultEnable, show v.setup = s.setup from hsv.part .setup]
        exact h.resolve_left ho
      rw [hother ho, State.sendCanResult_disabled hen]
  have hrcs : ∀ k, t.rcs.slot k = if e.slot = some k then (s.rcs.slot k).released else s.rcs.slot k := fun k => by
    rw [show t.rcs = ((s.dropped e.tag).unslot e.slot).rcs from htv.part .rcs, State.unslot_slot]
    rfl
  have hgtc : v.gtc = s.gtc := hunslot.2 .gtc (by decide)
  have hsetup : v.setup = s.setup := hsv.part .setup
  refine ⟨?_, ?_, fun k => ⟨?_, ?_, ?_⟩, ?_, fun h => ?_, ⟨fun h => ?_, fun ho hen hst => ?_⟩, ?_⟩
  · exact (htv.part .ctr).trans (hunslot.2 .ctr (by decide))
  · exact (htv.part .wge).trans (hunslot.2 .wge (by decide))
  · rw [State.image, hrcs]
    split <;> rfl
  · rw [hrcs]
    split <;> rfl
  · rw [hrcs]
    by_cases hk : e.slot = some k
    · rw [if_pos hk, Slot.released]
      simp only [hk, true_and]
    · rw [if_neg hk, if_neg fun h => hk h.1]
  · by_cases ho : out = .flushed
    · rw [hquiet (.inl ho), hgtc, if_neg fun h => h.1 ho]
    · rw [hother ho, State.sendCanResult_gtc, hgtc, State.resultEnable, State.noticeStation, hsetup]
      simp only [ne_eq, ho, not_false_eq_true, true_and]
      rfl
  · rw [hquiet h]
    exact s.slotLeft_result e.slot m
  · rw [hquiet h]
    simp only [v, m, State.slotLeft]
    cases e.slot <;> exact ⟨rfl, rfl, rfl⟩
  · have hen' : v.resultEnable = true := by
      rw [State.resultEnable, hsetup]
      exact hen
    have hst' : v.noticeStation = 0 := by
      rw [State.noticeStation, hsetup]
      exact hst
    rw [hother ho, State.sendCanResult_noStation hen' hst']
    simp only [v, m, State.slotLeft]
    cases e.slot <;> exact ⟨rfl, rfl, rfl⟩
  · have hvs : s.changesOnly v [.lif, .mga, .ctr, .wge, .gtc, .rcs, .counters] := by
      refine ⟨hsv.parts.1, fun p hp => ?_⟩
      cases p
      case pins => exact hunslot.2 .pins (by decide)
      case sup => exact hsv.part .sup
      case setup => exact hsv.part .setup
      case cck => exact hsv.part .cck
      case drg => exact hsv.part .drg
      case freeCount => exact hsv.part .freeCount
      all_goals exact absurd (by decide) hp
    exact hvs.trans (htv.mono (by decide) (cs' := [.resultNoStation, .resultOverflow, .resultsQueued]) (by decide)).parts

end Sys2Proof.Machine
end

section
namespace Sys2Proof.Machine

/-! ## A flush (R14) -/

namespace Touches

variable {ps : List Part} {cs : List Counter} {s t : State} (h : Touches ps cs s t)
include h

theorem releaseSlot (slot : Option SlotId) (m : DrainMoment) (hp : [.lif, .mga, .rcs, .counters] ⊆ ps := by decide)
    (hc : .slotRetirements :: noticeCounts ⊆ cs := by decide) : Touches ps cs s (t.releaseSlot slot m) := by
  have hn : [Part.lif, .mga, .counters] ⊆ ps := fun p hm => hp (by revert p; decide)
  have hr : Part.rcs ∈ ps := hp (by decide)
  obtain ⟨hret, hnotice⟩ := List.cons_subset.mp hc
  cases slot with
  | none => exact h
  | some k =>
    have hrefs := h.onRcs (fun r => r.setSlot k { r.slot k with refs := (r.slot k).refs - 1 }) hr
    unfold State.releaseSlot
    dsimp only
    rw [State.drainCheck_eq]
    split
    · exact ((hrefs.onRcs _ hr).notify _ hn hnotice).bump _ (hn (by decide)) hret
    · exact hrefs

/-- The parts and counters of a retirement. -/
theorem retire (out : ExitOutcome) (tag : Tag)
    (hp : [.lif, .mga, .ctr, .wge, .gtc, .rcs, .counters] ⊆ ps := by decide)
    (hc : [.slotRetirements, .resultNoStation, .resultOverflow, .resultsQueued] ++ noticeCounts ⊆ cs := by decide) :
    Touches ps cs s (t.retire out tag) := by
  have hslot : [Part.lif, .mga, .rcs, .counters] ⊆ ps := fun p hm => hp (by revert p; decide)
  have hresult : [Part.lif, .gtc, .counters] ⊆ ps := fun p hm => hp (by revert p; decide)
  have hret : .slotRetirements :: noticeCounts ⊆ cs := fun c hm => hc (by
    rcases List.mem_cons.mp hm with rfl | hm
    · exact List.mem_append_left _ (by decide)
    · exact List.mem_append_right _ hm)
  have hres : [.resultNoStation, .resultOverflow, .resultsQueued] ⊆ cs := fun c hm =>
    hc (List.mem_append_left _ (List.mem_cons_of_mem _ hm))
  unfold State.retire
  split
  · exact h
  · have hctr : Part.ctr ∈ ps := hp (by decide)
    have hwge : Part.wge ∈ ps := hp (by decide)
    dsimp only
    split
    · exact ((h.onCtr _ hctr).onWge _ hwge).releaseSlot _ _ hslot hret
    · exact (((h.onCtr _ hctr).onWge _ hwge).releaseSlot _ _ hslot hret).sendCanResult _ hresult hres

end Touches

/-- The parts and counters of a flush. -/
def flushParts : List Part := [.lif, .mga, .ctr, .wge, .gtc, .rcs, .counters]

/-- The counters of a flush. -/
def flushCounts : List Counter :=
  [.flushed, .slotRetirements, .resultNoStation, .resultOverflow, .resultsQueued] ++ noticeCounts

theorem State.flushEach_touches (l : List Entry) : ∀ s : State, Touches flushParts flushCounts s (s.flushEach l) := by
  induction l with
  | nil => exact fun s => Touches.refl s
  | cons e l ih =>
    intro s
    have hstep : Touches flushParts flushCounts s ((s.retire .flushed e.tag).bump .flushed) :=
      ((Touches.refl s).retire _ _).bump _
    exact hstep.trans (ih _)

theorem State.flush_touches (s : State) : Touches flushParts flushCounts s s.flush := by
  rw [State.flush_eq]
  exact (((s.flushEach_touches _).onGtc _).onWge _).onCtr _

/-! ### The queue is retired entry by entry -/

/-- `l` is what a flush has still to retire: live entries with tags of their own, counted by the slots. -/
structure Flushing (s : State) (l : List Entry) : Prop where
  live : ∀ e ∈ l, s.entry e.tag = some e
  tags : (l.map (·.tag)).Nodup
  refs : ∀ k, (s.rcs.slot k).refs = l.countP fun e => e.slot == some k
  one : ∀ k j, (s.rcs.slot k).state = .draining → (s.rcs.slot j).state = .draining → k = j

theorem SlotId.eq_of_notBoth {p : SlotId → Prop} (h : ¬ (p .s0 ∧ p .s1)) : ∀ k j, p k → p j → k = j := by
  intro k j hk hj
  cases k <;> cases j <;> simp_all

theorem State.entry_of_mem {s : State} (hnd : (s.ctr.queue.map (·.tag)).Nodup) {e : Entry} (he : e ∈ s.ctr.queue) :
    s.entry e.tag = some e := by
  cases hf : s.entry e.tag with
  | none => exact absurd (List.find?_eq_none.mp hf e he) (by simp)
  | some x =>
    obtain ⟨hx, htag⟩ := State.entry_some hf
    rw [List.inj_on_of_nodup_map hnd hx he htag]

/-- The tags of the live entries differ (R2). -/
theorem State.booksAgree.tags {s : State} (h : s.booksAgree) : (s.ctr.queue.map (·.tag)).Nodup := by
  obtain ⟨_, hnodup, _⟩ := h
  exact List.Nodup.of_map tagIndex (by rw [List.map_map]; exact hnodup)

theorem State.booksAgree.flushing {s : State} (h : s.booksAgree) : Flushing s s.ctr.queue := by
  have htags := h.tags
  obtain ⟨_, _, hrefs, _, _, hdrain, _⟩ := h
  exact ⟨fun e he => State.entry_of_mem htags he, htags, hrefs,
    SlotId.eq_of_notBoth (p := fun k => (s.rcs.slot k).state = .draining) hdrain⟩

/-- A FLUSHED retirement, counted: the slot's report beside the drop of the entry. -/
theorem State.retire_flushed_slot {s : State} {e : Entry} (h : s.entry e.tag = some e) (k : SlotId) :
    ((s.retire .flushed e.tag).bump .flushed).rcs.slot k =
      if e.slot = some k then (s.rcs.slot k).released else s.rcs.slot k := by
  rw [State.bump_rcs, State.retire_flushed h]
  exact State.unslot_slot (s.dropped e.tag) e.slot k

theorem State.entry_retire_ne (s : State) (out : ExitOutcome) {tag tag' : Tag} (h : tag' ≠ tag) :
    (s.retire out tag).entry tag' = s.entry tag' := by
  rw [State.entry, State.retire_queue, List.find?_filter, State.entry]
  congr 1
  funext x
  by_cases hx : x.tag = tag'
  · simp [hx, h]
  · simp [hx]

theorem Slot.released_draining {x : Slot} (h : x.released.state = .draining) : x.state = .draining := by
  unfold Slot.released at h
  dsimp only at h
  split at h
  · cases h
  · exact h

/-- What is left of a slot when no entry names it any more (R142). -/
def Slot.emptied (x : Slot) : Slot :=
  { x with refs := 0, state := if x.state = .draining ∧ 0 < x.refs then .verified else x.state }

/-- A slot is left as it is when it is emptied entry by entry. -/
theorem Slot.emptied_released {x : Slot} (h : 0 < x.refs) : x.released.emptied = x.emptied := by
  by_cases hd : x.state = .draining
  · by_cases hn : x.refs - 1 = 0
    · rw [Slot.released_retires ⟨hd, hn⟩, Slot.emptied, Slot.emptied, if_neg (by simp), if_pos ⟨hd, h⟩]
    · rw [Slot.released_counts fun g => hn g.2, Slot.emptied, Slot.emptied, if_pos ⟨hd, Nat.pos_of_ne_zero hn⟩,
        if_pos ⟨hd, h⟩]
  · rw [Slot.released_counts fun g => hd g.1, Slot.emptied, Slot.emptied, if_neg fun g => hd g.1,
      if_neg fun g => hd g.1]

theorem Flushing.step {s : State} {e : Entry} {l : List Entry} (h : Flushing s (e :: l)) :
    Flushing ((s.retire .flushed e.tag).bump .flushed) l := by
  have he := h.live e List.mem_cons_self
  obtain ⟨hne, htags⟩ := List.nodup_cons.mp h.tags
  refine ⟨fun x hx => ?_, htags, fun k => ?_, fun k j hk hj => ?_⟩
  · have hxe : x.tag ≠ e.tag := fun hxe => hne (List.mem_map.mpr ⟨x, hx, hxe⟩)
    exact (State.entry_retire_ne s .flushed hxe).trans (h.live x (List.mem_cons_of_mem _ hx))
  · have hk := h.refs k
    rw [State.retire_flushed_slot he]
    rw [List.countP_cons] at hk
    by_cases hs : e.slot = some k
    · rw [if_pos (by simpa using hs)] at hk
      rw [if_pos hs, Slot.released]
      exact Nat.sub_eq_of_eq_add hk
    · rw [if_neg (by simpa using hs)] at hk
      rw [if_neg hs]
      exact hk
  · have hdrain : ∀ i, (((s.retire .flushed e.tag).bump .flushed).rcs.slot i).state = .draining →
        (s.rcs.slot i).state = .draining := fun i hi => by
      rw [State.retire_flushed_slot he] at hi
      split at hi
      · exact Slot.released_draining hi
      · exact hi
    exact h.one k j (hdrain k hk) (hdrain j hj)

/-- A flush empties every slot. -/
theorem Flushing.slots {l : List Entry} : ∀ {s : State}, Flushing s l →
    ∀ k, (s.flushEach l).rcs.slot k = (s.rcs.slot k).emptied := by
  induction l with
  | nil =>
    intro s h k
    have hk : (s.rcs.slot k).refs = 0 := h.refs k
    rw [Slot.emptied, if_neg (by omega), ← hk]
    rfl
  | cons e l ih =>
    intro s h k
    refine (ih h.step k).trans ?_
    rw [State.retire_flushed_slot (h.live e List.mem_cons_self)]
    split
    · rename_i hs
      have hk := h.refs k
      rw [List.countP_cons, if_pos (by simpa using hs)] at hk
      exact Slot.emptied_released (by omega)
    · rfl

/-- `v` is `s` with the report of the slot that a flush retires from draining, when there is one. -/
def State.flushReports (s v : State) : Prop :=
  (∃ k, (s.rcs.slot k).state = .draining ∧ 0 < (s.rcs.slot k).refs ∧ v = s.slotReported k .flush) ∨
    ((∀ k, (s.rcs.slot k).state = .draining → (s.rcs.slot k).refs = 0) ∧ v = s)

/-- `u` holds what the transmit port and the notices of `v` hold, and counts `cs` more. -/
structure Reported (v u : State) (cs : List Counter) : Prop where
  lif : u.lif = v.lif
  mga : u.mga = v.mga
  counters : v.countsOnly u cs

theorem foldl_bump_counters {s t : State} (h : t.counters = s.counters) (cs : List Counter) :
    (cs.foldl State.bump t).counters = (cs.foldl State.bump s).counters := by
  induction cs generalizing s t with
  | nil => exact h
  | cons c cs ih =>
    refine ih ?_
    rw [State.bump, State.bump, State.onCounters_counters, State.onCounters_counters, h]

theorem Reported.trans {v w u : State} {cs ds : List Counter} (h : Reported v w cs) (g : Reported w u ds) :
    Reported v u (cs ++ ds) := by
  refine ⟨g.lif.trans h.lif, g.mga.trans h.mga, g.counters.trans ?_⟩
  rw [List.foldl_append]
  exact foldl_bump_counters h.counters ds

/-- The first entry of a flush that goes: the report comes with it when it was the draining slot's last. -/
theorem Flushing.report_step {s v : State} {e : Entry} {l : List Entry} (h : Flushing s (e :: l))
    (hv : s.flushReports v) : ∃ w, ((s.retire .flushed e.tag).bump .flushed).flushReports w ∧
      Reported v w [.flushed] := by
  have he := h.live e List.mem_cons_self
  have hslot := State.retire_flushed_slot he
  have hretire := State.retire_flushed he
  have hcounted : ∀ k, e.slot = some k → 0 < (s.rcs.slot k).refs := fun k hk => by
    rw [h.refs k, List.countP_cons, if_pos (by simpa using hk)]
    omega
  have hstill : ∀ j, (((s.retire .flushed e.tag).bump .flushed).rcs.slot j).state = .draining →
      (s.rcs.slot j).state = .draining := fun j hj => by
    rw [hslot] at hj
    split at hj
    · exact Slot.released_draining hj
    · exact hj
  by_cases hlast : ∃ k, e.slot = some k ∧ (s.rcs.slot k).state = .draining ∧ (s.rcs.slot k).refs ≤ 1
  · obtain ⟨k, hk, hd, hr⟩ := hlast
    have hleft : s.slotLeft e.slot .flush = s.slotReported k .flush := by
      rw [hk]
      exact if_pos ⟨hd, hr⟩
    rw [hleft] at hretire
    refine ⟨_, .inr ⟨fun j hj => ?_, rfl⟩, ?_⟩
    · have hjk : j = k := h.one j k (hstill j hj) hd
      rw [hslot, hjk, if_pos hk, Slot.released_retires ⟨hd, by omega⟩] at hj
      cases hj
    · rcases hv with ⟨j, hj, _, rfl⟩ | ⟨hno, _⟩
      · rw [h.one j k hj hd, hretire]
        exact ⟨rfl, rfl, rfl⟩
      · have := hno k hd
        have := hcounted k hk
        omega
  · have hleft : s.slotLeft e.slot .flush = s := by
      cases hs : e.slot with
      | none => rfl
      | some k => exact if_neg fun g => hlast ⟨k, hs, g⟩
    rw [hleft] at hretire
    rcases hv with ⟨k, hk, hpos, rfl⟩ | ⟨hno, rfl⟩
    · have hstays : (((s.retire .flushed e.tag).bump .flushed).rcs.slot k).state = .draining ∧
          0 < (((s.retire .flushed e.tag).bump .flushed).rcs.slot k).refs := by
        rw [hslot]
        split
        · rename_i hs
          have hmore : ¬ (s.rcs.slot k).refs ≤ 1 := fun g => hlast ⟨k, hs, hk, g⟩
          rw [Slot.released_counts fun g => hmore (Nat.sub_eq_zero_iff_le.mp g.2)]
          exact ⟨hk, Nat.sub_pos_of_lt (by omega)⟩
        · exact ⟨hk, hpos⟩
      obtain ⟨hk', hpos'⟩ := hstays
      refine ⟨_, .inl ⟨k, hk', hpos', rfl⟩, ?_⟩
      have himage : ((s.retire .flushed e.tag).bump .flushed).image k = s.image k := by
        rw [State.image, hslot]
        split <;> rfl
      rw [State.slotReported, State.slotReported, himage, hretire, State.bump_notify, State.beside_notify,
        State.bump_comm _ .flushed .slotRetirements]
      exact ⟨rfl, rfl, rfl⟩
    · refine ⟨_, .inr ⟨fun j hj => ?_, rfl⟩, ?_⟩
      · have hz := hno j (hstill j hj)
        have hne : e.slot ≠ some j := fun hs => by
          have := hcounted j hs
          omega
        rw [hslot, if_neg hne]
        exact hz
      · rw [hretire]
        exact ⟨rfl, rfl, rfl⟩

theorem Flushing.reported {l : List Entry} : ∀ {s : State}, Flushing s l → ∀ v, s.flushReports v →
    Reported v (s.flushEach l) (l.map fun _ => .flushed) := by
  induction l with
  | nil =>
    intro s h v hv
    rcases hv with ⟨k, _, hpos, _⟩ | ⟨_, rfl⟩
    · have hk : (s.rcs.slot k).refs = 0 := h.refs k
      omega
    · exact ⟨rfl, rfl, rfl⟩
  | cons e l ih =>
    intro s h v hv
    obtain ⟨w, hw, hvw⟩ := h.report_step hv
    exact hvw.trans (ih h.step w hw)

/-- What a flush leaves of the tracker, the platform and the gate, its own lists apart. -/
structure Emptying (s t : State) : Prop where
  ctr : { t.ctr with queue := [], pointsDue := [] } = { s.ctr with queue := [], pointsDue := [] }
  wge : { t.wge with records := [] } = { s.wge with records := [] }
  gtc : t.gtc = s.gtc

theorem State.retire_emptying (s : State) (tag : Tag) : Emptying s ((s.retire .flushed tag).bump .flushed) := by
  cases he : s.entry tag with
  | none =>
    rw [State.retire_absent he]
    exact ⟨rfl, rfl, rfl⟩
  | some e =>
    have hkeep := (s.dropped tag).unslot_changesOnly e.slot
    have hctr : ((s.dropped tag).unslot e.slot).ctr = (s.dropped tag).ctr := hkeep.2 .ctr (by decide)
    have hwge : ((s.dropped tag).unslot e.slot).wge = (s.dropped tag).wge := hkeep.2 .wge (by decide)
    have hgtc : ((s.dropped tag).unslot e.slot).gtc = (s.dropped tag).gtc := hkeep.2 .gtc (by decide)
    rw [State.retire_flushed he]
    exact ⟨congrArg (fun c : Ctr => { c with queue := [], pointsDue := [] }) hctr,
      congrArg (fun w : Wge => { w with records := [] }) hwge, hgtc⟩

theorem State.flushEach_emptying (l : List Entry) : ∀ s : State, Emptying s (s.flushEach l) := by
  induction l with
  | nil => exact fun s => ⟨rfl, rfl, rfl⟩
  | cons e l ih =>
    intro s
    have h := s.retire_emptying e.tag
    have g := ih ((s.retire .flushed e.tag).bump .flushed)
    exact ⟨g.ctr.trans h.ctr, g.wge.trans h.wge, g.gtc.trans h.gtc⟩

theorem State.flush_ctr (s : State) :
    s.flush.ctr = { s.ctr with queue := [], slipRun := 0, pointsDue := [] } := by
  have hq := s.flushEach_all
  have h := (s.flushEach_emptying s.ctr.queue).ctr
  calc s.flush.ctr = { (s.flushEach s.ctr.queue).ctr with slipRun := 0, pointsDue := [] } := rfl
    _ = { (s.flushEach s.ctr.queue).ctr with queue := [], slipRun := 0, pointsDue := [] } := by rw [← hq]
    _ = _ := congrArg (fun c : Ctr => { c with slipRun := 0 }) h

theorem State.flush_wge (s : State) : s.flush.wge = { s.wge with records := [] } :=
  (s.flushEach_emptying s.ctr.queue).wge

theorem State.flush_gtc (s : State) : s.flush.gtc = { s.gtc with rejects := [] } :=
  congrArg (fun g : Gtc => { g with rejects := [] }) (s.flushEach_emptying s.ctr.queue).gtc

section
variable {ps : List Part} {cs : List Counter} {s t : State}

theorem Touches.noteWait (h : Touches ps cs s t) (hp : [.mga, .counters] ⊆ ps := by decide)
    (hc : .replyWaits ∈ cs := by decide) : Touches ps cs s t.noteWait := by
  unfold State.noteWait
  split
  · exact (h.onMga _ (hp (by decide))).bump _ (hp (by decide)) hc
  · exact h

theorem Touches.replyTo {a : Answer} (h : Touches ps cs s a.state) (r : Request) (x : Bool)
    (hp : [.lif, .mga, .counters] ⊆ ps := by decide)
    (hc : [.repliesOk, .repliesRefused, .replyWaits] ⊆ cs := by decide) : Touches ps cs s (replyTo r a x) := by
  have hstatus : (if a.status = .ok then Counter.repliesOk else .repliesRefused) ∈ cs := by
    split
    · exact hc (by decide)
    · exact hc (by decide)
  exact ((h.bump _ (hp (by decide)) hstatus).join .reply _ (hp (by decide))).noteWait
    (List.cons_subset.mp hp).2 (hc (by decide))

end

/-- The request that is served only leaves the queue (08 R165). -/
theorem State.took_touches (s : State) (rest : List Request) {ps : List Part} {cs : List Counter}
    (hp : .mga ∈ ps := by decide) : Touches ps cs s (s.took rest) :=
  (Touches.refl s).onMga (fun m => { m with requests := rest, waitCounted := false }) hp

theorem Reported.onCtr {v u : State} {cs : List Counter} (h : Reported v u cs) (f : Ctr → Ctr) :
    Reported v (u.onCtr f) cs := ⟨h.lif, h.mga, h.counters⟩

theorem Flushing.flush_slots {s : State} (h : Flushing s s.ctr.queue) (k : SlotId) :
    s.flush.rcs.slot k = (s.rcs.slot k).emptied := h.slots k

theorem Flushing.flush_reported {s v : State} (h : Flushing s s.ctr.queue) (hv : s.flushReports v) :
    Reported v s.flush (s.ctr.queue.map fun _ => .flushed) :=
  have hr := h.reported v hv
  ⟨hr.lif, hr.mga, hr.counters⟩

/-- The report of a flush takes frames from the RESULT queue only to send them. -/
theorem State.flushReports.result {s v : State} (h : s.flushReports v) : v.lif.result <:+ s.lif.result := by
  rcases h with ⟨k, _, _, rfl⟩ | ⟨_, rfl⟩
  · exact State.notify_result s _
  · exact List.suffix_rfl

theorem State.flushReports_exists (s : State) : ∃ v, s.flushReports v := by
  by_cases hd : ∃ k, (s.rcs.slot k).state = .draining ∧ 0 < (s.rcs.slot k).refs
  · obtain ⟨k, hk, hpos⟩ := hd
    exact ⟨_, .inl ⟨k, hk, hpos, rfl⟩⟩
  · exact ⟨s, .inr ⟨fun k hk => Nat.eq_zero_of_not_pos fun g => hd ⟨k, hk, g⟩, rfl⟩⟩

/-- The counters of a request that flushes. -/
def flushRequestCounts : List Counter := [.repliesOk, .repliesRefused, .replyWaits] ++ flushCounts

theorem State.flushAnswered_touches (s : State) (r : Request) (rest : List Request) (f : Ctr → Ctr) :
    Touches flushParts flushRequestCounts s (Machine.replyTo r ((s.took rest).flush.onCtr f).okay) := by
  have htook : Touches flushParts flushRequestCounts s (s.took rest) := s.took_touches rest
  have hflush : Touches flushParts flushRequestCounts (s.took rest) (s.took rest).flush :=
    (s.took rest).flush_touches.mono (List.Subset.refl _) (List.subset_append_right _ _)
  exact ((htook.trans hflush).onCtr f).replyTo (a := ((s.took rest).flush.onCtr f).okay) r false

/-- Settles O28. -/
theorem flushEmptiesTracking : Obligations.FlushEmptiesTracking := by
  intro c code stops s r rest hcase hb hc ha hbooks
  let u : State := (s.took rest).flush.onCtr fun c => { c with run := if stops then .stopped else c.run }
  have hexec : exec c s = .next (replyTo r u.okay) := by
    rcases hcase with ⟨rfl, rfl, rfl⟩ | ⟨rfl, rfl, rfl⟩
    · rw [exec, execStopTracking, hb.serve hc, ha]
      rfl
    · rw [exec, execFlushTracking, hb.serve hc, ha]
      rfl
  have hflushing : Flushing (s.took rest) (s.took rest).ctr.queue := ⟨hbooks.flushing.live, hbooks.tags,
    hbooks.flushing.refs, hbooks.flushing.one⟩
  have hreported : ∀ v, (s.took rest).flushReports v → Reported v u (s.ctr.queue.map fun _ => .flushed) :=
    fun v hv => (hflushing.flush_reported hv).onCtr _
  have hslots : ∀ k, u.rcs.slot k = (s.rcs.slot k).emptied := hflushing.flush_slots
  have hctr : (s.took rest).flush.ctr = { s.ctr with queue := [], slipRun := 0, pointsDue := [] } :=
    (s.took rest).flush_ctr
  have hgtc : u.gtc = { s.gtc with rejects := [] } := (s.took rest).flush_gtc
  have hwge : u.wge = { s.wge with records := [] } := (s.took rest).flush_wge
  refine ⟨_, u, hexec, rfl, ?_, hgtc, hwge, fun k => ?_, ?_, ?_, fun k hk hpos => ?_, fun hno => ?_, ?_⟩
  · exact congrArg (fun c : Ctr => { c with run := if stops then .stopped else c.run }) hctr
  · rw [State.image, hslots]
    exact ⟨rfl, rfl, rfl⟩
  · obtain ⟨v, hv⟩ := (s.took rest).flushReports_exists
    rw [(hreported v hv).lif]
    exact hv.result
  · have hcourse : (s.took rest).flush.mga.requests = (s.took rest).mga.requests :=
      (Acts.flush (s := s.took rest) .refl anyCan).course.requests
    exact hcourse
  · have hr := hreported _ (.inl ⟨k, hk, hpos, rfl⟩)
    exact ⟨hr.lif, hr.mga, hr.counters⟩
  · have hr := hreported _ (.inr ⟨hno, rfl⟩)
    have hcount : u.counters = _ := hr.counters.trans (foldl_bump_counters (s := s) (t := s.took rest) rfl _)
    exact ⟨hr.lif, hr.mga, hcount⟩
  · exact (State.flushAnswered_touches s r rest fun c => { c with run := if stops then .stopped else c.run }).parts

end Sys2Proof.Machine
end

section
namespace Sys2Proof.Machine

/-! ## Line-stop causes (09 R191) -/

theorem State.addCause_lineStop (s : State) (c : LineStopCause) (h : s.hasCause c = false) :
    (s.addCause c).sup.lineStop = s.sup.lineStop ||| c.bit := by
  simp [State.addCause, h]

theorem LineStopCause.bit_ne_zero (c : LineStopCause) : c.bit ≠ 0 := by
  cases c <;> decide

/-- A cause that stands in the set, or is added to it, stands in it afterwards. -/
theorem State.addCause_has (s : State) (c d : LineStopCause) (h : d = c ∨ s.hasCause d = true) :
    (s.addCause c).hasCause d = true := by
  cases hc : s.hasCause c with
  | true =>
    rw [State.addCause, if_pos hc]
    exact h.elim (fun hd => hd ▸ hc) id
  | false =>
    rw [State.hasCause, State.addCause_lineStop s c hc, BitVec.and_or_distrib_right, bne_iff_ne]
    intro hzero
    obtain ⟨hl, hb⟩ := BitVec.or_eq_zero_iff.mp hzero
    rcases h with rfl | h
    · exact d.bit_ne_zero (by simpa using hb)
    · rw [State.hasCause, hl] at h
      cases h

/-! ## Strays (R24 to R26) -/

/-- The parts and counters of an increment of the slip run (R28). -/
theorem State.raiseSlip_touches (s : State) : Touches [.sup, .lif, .mga, .ctr, .counters]
    (.slipEvents :: .lineStopAdds :: noticeCounts) s s.raiseSlip := by
  unfold State.raiseSlip
  split
  · exact ((((Touches.refl s).onCtr _).notify _).addCause _).bump _
  · exact (Touches.refl s).onCtr _

theorem State.raiseSlip_hasCause (s : State) (d : LineStopCause) (h : s.hasCause d = true) :
    s.raiseSlip.hasCause d = true := by
  unfold State.raiseSlip
  split
  · exact State.addCause_has _ _ d (.inr (by simpa [State.hasCause] using h))
  · exact h

theorem State.raiseSlip_ctr (s : State) : s.raiseSlip.ctr =
    { s.ctr with slipRun := if s.slipLimit ≤ s.ctr.slipRun + 1 then 0 else s.ctr.slipRun + 1 } := by
  unfold State.raiseSlip
  split <;> simp

/-- The slip event (R28). -/
theorem State.raiseSlip_limit {s : State} (h : s.slipLimit ≤ s.ctr.slipRun + 1) :
    s.raiseSlip.hasCause .trackSlip = true ∧ s.raiseSlip.counter .slipEvents = satInc (s.counter .slipEvents) := by
  have hbefore : Touches [.sup, .lif, .mga, .ctr, .counters] (.lineStopAdds :: noticeCounts) s
      (((s.onCtr fun c => { c with slipRun := 0 }).notify (.trackSlip s.ctr.position)).addCause .trackSlip) :=
    (((Touches.refl s).onCtr _).notify _).addCause _
  rw [State.raiseSlip, if_pos h]
  refine ⟨State.addCause_has _ _ _ (.inl rfl), ?_⟩
  rw [State.counter_bump, if_pos rfl, hbefore.counter .slipEvents]

/-- Settles O20. -/
theorem arrivalMakesStray : Obligations.ArrivalMakesStray := by
  intro s q rest hp hr hd hlow hexp u e
  have hexec : exec .infeedArrival s = .next ((u.bump .arrivals).strayArrives q) := by
    rw [exec, execInfeedArrival_eq hp hd]
    refine congrArg _ (State.infeedArrives_stray (s := u) hr ?_)
    cases he : s.oldestEnRoute with
    | none => exact .inl he
    | some y =>
      cases hy : y.expectedPos with
      | none => exact absurd hy (hexp y he)
      | some x =>
        refine .inr ⟨y, he, ?_⟩
        rw [State.windowLow, Entry.expected, hy]
        exact hlow y x he hy
  refine ⟨fun hroom => ?_, fun hfull => ?_⟩
  · rw [hexec, State.strayArrives, if_pos (by exact hroom)]
    rfl
  · have hstray : (u.bump .arrivals).strayArrives q =
        (((u.bump .arrivals).bump .untracked).addCause .untrackedCan).raiseSlip := if_neg (by
      have : u.ctr.queue.length = 256 := hfull
      exact fun h => absurd h (by rw [State.bump_ctr]; omega))
    let w := ((u.bump .arrivals).bump .untracked).addCause .untrackedCan
    have hw : Touches [.sup, .lif, .mga, .counters] (.lineStopAdds :: noticeCounts)
        ((u.bump .arrivals).bump .untracked) w := (Touches.refl _).addCause _
    have hctr : w.ctr = u.ctr := hw.part .ctr
    have hlimit : w.slipLimit = s.slipLimit := by
      rw [State.slipLimit, show w.setup = s.setup from hw.part .setup]
      rfl
    have hslip := w.raiseSlip_touches
    have hall : s.changesOnly w.raiseSlip [.sup, .lif, .mga, .ctr, .counters] := by
      have hbefore : Touches [.sup, .lif, .mga, .ctr, .counters]
          (.arrivals :: .untracked :: .lineStopAdds :: noticeCounts) s w :=
        ((((Touches.refl s).onCtr fun c => { c with infeedDue := rest }).bump .arrivals).bump .untracked).addCause _
      exact hbefore.parts.trans hslip.parts
    have hrun : w.raiseSlip.ctr = { u.ctr with
        slipRun := if s.slipLimit ≤ s.ctr.slipRun + 1 then 0 else s.ctr.slipRun + 1 } := by
      rw [State.raiseSlip_ctr, hctr, hlimit]
    have hcount : ∀ c ∉ .lineStopAdds :: noticeCounts, w.counter c = ((u.bump .arrivals).bump .untracked).counter c :=
      hw.counts
    rw [hexec, hstray]
    refine ⟨w.raiseSlip, rfl, by rw [hrun], (hslip.part .wge).trans (hw.part .wge), by rw [hrun],
      State.raiseSlip_hasCause w _ (State.addCause_has _ _ _ (.inl rfl)), ?_, ?_, fun h => ?_, fun h => ?_, hall⟩
    · rw [hslip.counter .untracked, hcount _ (by decide), State.counter_bump, if_pos rfl, State.counter_bump,
        if_neg (by decide)]
      rfl
    · rw [hslip.counter .arrivals, hcount _ (by decide), State.counter_bump, if_neg (by decide), State.counter_bump,
        if_pos rfl]
      rfl
    · rw [hrun, if_neg (by omega)]
    · have hlimit' : w.slipLimit ≤ w.ctr.slipRun + 1 := by
        rw [hlimit, hctr]
        exact h
      obtain ⟨hcause, hevents⟩ := State.raiseSlip_limit hlimit'
      refine ⟨by rw [hrun, if_pos h], hcause, ?_⟩
      rw [hevents, hcount _ (by decide), State.counter_bump, if_neg (by decide), State.counter_bump, if_neg (by decide)]
      rfl

end Sys2Proof.Machine
end

section
namespace Sys2Proof.Machine

/-! ## The encoder when nothing waits (R8 to R11) -/

theorem State.expireAll_none {s : State} (h : s.expired = none) (n : Nat) : s.expireAll n = s := by
  cases n with
  | zero => rfl
  | succ n => rw [State.expireAll, h]

theorem State.takeOutstanding_nothing {s : State} (h : s.nothingOutstanding) : s.takeOutstanding = s := by
  obtain ⟨hi, hc, hp, he⟩ := h
  simp only [State.takeOutstanding, hi, hc, List.foldl_nil, State.expireAll_none he, hp]

/-- The encoder lines at their new levels. -/
def State.encoderAt (s : State) (a b : Bool) : State := s.onPins fun p => { p with encA := a, encB := b }

/-- A change of the encoder lines while the part takes steps. -/
theorem exec_encoderStep {s : State} {a b : Bool} (hp : s.sup.phase = .running)
    (hc : a ≠ s.pins.encA ∨ b ≠ s.pins.encB) : exec (.encoderStep a b) s = .next (s.encoderChange a b) := by
  have htake : (s.taking && (a != s.pins.encA || b != s.pins.encB)) = true := by
    simpa [State.taking, hp] using hc
  rw [exec, execEncoderStep, if_pos htake]

theorem isForward_of_mem {a b a' b' : Bool} (h : (a, b, a', b') ∈ forwardChanges) :
    (a' ≠ a ∨ b' ≠ b) ∧ (a' != a && b' != b) = false ∧ isForward a b a' b' = true := by
  revert a b a' b'
  decide

/-- A reverse step is a forward step the other way. -/
theorem isForward_of_mem_reverse {a b a' b' : Bool} (h : (a', b', a, b) ∈ forwardChanges) :
    (a' ≠ a ∨ b' ≠ b) ∧ (a' != a && b' != b) = false ∧ isForward a b a' b' = false := by
  revert a b a' b'
  decide

section
variable {s : State} {a b : Bool} (hp : s.sup.phase = .running) (hn : s.nothingOutstanding)
include hp hn

theorem exec_encoderStep_forward (h : (s.pins.encA, s.pins.encB, a, b) ∈ forwardChanges) :
    exec (.encoderStep a b) s = .next (s.encoderAt a b).forwardStep := by
  obtain ⟨hne, hboth, hfwd⟩ := isForward_of_mem h
  have htake : (s.encoderAt a b).takeOutstanding = s.encoderAt a b := State.takeOutstanding_nothing hn
  rw [exec_encoderStep hp hne, State.encoderChange, ← State.encoderAt, htake, hboth, hfwd]
  rfl

theorem exec_encoderStep_reverse (h : (a, b, s.pins.encA, s.pins.encB) ∈ forwardChanges) :
    exec (.encoderStep a b) s = .next (s.encoderAt a b).reverseStep := by
  obtain ⟨hne, hboth, hrev⟩ := isForward_of_mem_reverse h
  have htake : (s.encoderAt a b).takeOutstanding = s.encoderAt a b := State.takeOutstanding_nothing hn
  rw [exec_encoderStep hp hne, State.encoderChange, ← State.encoderAt, htake, hboth, hrev]
  rfl

/-- Both lines at once are an encoder error (R8). -/
theorem exec_encoderStep_error (ha : a ≠ s.pins.encA) (hb : b ≠ s.pins.encB) :
    exec (.encoderStep a b) s = .next ((s.encoderAt a b).bump .encoderErrors) := by
  have htake : (s.encoderAt a b).takeOutstanding = s.encoderAt a b := State.takeOutstanding_nothing hn
  have hboth : (a != s.pins.encA && b != s.pins.encB) = true := by simp [ha, hb]
  rw [exec_encoderStep hp (.inl ha), State.encoderChange, ← State.encoderAt, htake, if_pos hboth]

end

/-! ## The position advances (R9, R21, R30) -/

theorem State.debounce_infeed (s : State) : s.debounce .infeed = s.onCtr fun c =>
    { c with infeed := (c.infeed.whenReached s.minBlock c.position).1,
             infeedDue := c.infeedDue ++ (c.infeed.whenReached s.minBlock c.position).2 } := by
  by_cases h : s.ctr.infeed.state = .pending ∧ s.ctr.position = s.ctr.infeed.latched + BitVec.ofNat 32 s.minBlock
  · rw [State.debounce, if_pos (by exact h)]
    simp only [State.onCtr, EyeMonitor.whenReached, if_pos h]
    rfl
  · rw [State.debounce, if_neg (by exact h)]
    simp only [State.onCtr, EyeMonitor.whenReached, if_neg h, List.append_nil]

theorem State.debounce_confirm (s : State) : s.debounce .confirm = s.onCtr fun c =>
    { c with confirm := (c.confirm.whenReached s.minBlock c.position).1,
             confirmDue := c.confirmDue ++ (c.confirm.whenReached s.minBlock c.position).2 } := by
  by_cases h : s.ctr.confirm.state = .pending ∧ s.ctr.position = s.ctr.confirm.latched + BitVec.ofNat 32 s.minBlock
  · rw [State.debounce, if_pos (by exact h)]
    simp only [State.onCtr, EyeMonitor.whenReached, if_pos h]
    rfl
  · rw [State.debounce, if_neg (by exact h)]
    simp only [State.onCtr, EyeMonitor.whenReached, if_neg h, List.append_nil]

/-- `s` one position on, with the arrivals that the eyes recognise there. -/
def State.reached (s : State) : State := s.onCtr fun c =>
  { c with
    position := c.position + 1
    infeed := (c.infeed.whenReached s.minBlock (c.position + 1)).1
    infeedDue := c.infeedDue ++ (c.infeed.whenReached s.minBlock (c.position + 1)).2
    confirm := (c.confirm.whenReached s.minBlock (c.position + 1)).1
    confirmDue := c.confirmDue ++ (c.confirm.whenReached s.minBlock (c.position + 1)).2 }

theorem State.advance_eq (s : State) :
    s.advance = s.reached.onCtr fun c => { c with pointsDue := c.pointsDue ++ s.reached.duePoints } := by
  rw [State.advance, State.debounce_infeed, State.debounce_confirm]
  rfl

/-- The points that the position brings on are those of the live entries past EN_ROUTE that lie at it. -/
theorem State.mem_duePoints {s : State} {d : PointDue} : d ∈ s.duePoints ↔ ∃ e ∈ s.ctr.queue,
    e.stage ≠ .enRoute ∧ d.tag = e.tag ∧ ∃ o, s.pointOffset e d.point = some o ∧ s.ctr.position = e.q + o := by
  have hall : ∀ p : Point, p ∈ allPoints := fun p => by cases p <;> decide
  simp only [State.duePoints, List.mem_flatMap]
  refine exists_congr fun e => and_congr_right fun _ => ?_
  by_cases hs : e.stage = .enRoute
  · simp [hs]
  · rw [if_neg hs]
    simp only [State.pointsAt, List.mem_map, List.mem_filter, beq_iff_eq, hall, true_and]
    constructor
    · rintro ⟨p, ho, rfl⟩
      exact ⟨hs, rfl, _, ho, by simp⟩
    · rintro ⟨_, ht, o, ho, hx⟩
      refine ⟨d.point, ?_, by rw [← ht]⟩
      rw [ho, hx]
      simp

theorem State.pointsAt_sorted (s : State) (e : Entry) (x : Pos) :
    (s.pointsAt e x).Pairwise fun p r => p.ctorIdx < r.ctorIdx :=
  List.Pairwise.filter _ (by decide)

/-- The points of one entry come in the order of R29's table. -/
theorem State.duePoints_sorted {s : State} (h : (s.ctr.queue.map (·.tag)).Nodup) :
    s.duePoints.Pairwise fun x y => x.tag = y.tag → x.point.ctorIdx < y.point.ctorIdx := by
  have htag : ∀ e, ∀ d ∈ (if e.stage = Stage.enRoute then []
      else (s.pointsAt e s.ctr.position).map fun p => ({ tag := e.tag, point := p } : PointDue)), d.tag = e.tag := by
    intro e d hd
    split at hd
    · cases hd
    · obtain ⟨p, _, rfl⟩ := List.mem_map.mp hd
      rfl
  rw [State.duePoints, List.pairwise_flatMap]
  refine ⟨fun e _ => ?_, ?_⟩
  · split
    · exact List.Pairwise.nil
    · refine List.pairwise_map.mpr (List.Pairwise.imp ?_ (s.pointsAt_sorted e _))
      exact fun hlt _ => hlt
  · refine (List.pairwise_map.mp h).imp fun {x y} hxy d hd d' hd' heq => ?_
    exact absurd ((htag x d hd).symm.trans (heq.trans (htag y d' hd'))) hxy

/-- Settles O16. -/
theorem forwardStepReachesPosition : Obligations.ForwardStepReachesPosition := by
  intro a b s hp hn hfwd hdebt
  have hexec := exec_encoderStep_forward hp hn hfwd
  obtain ⟨hi, hc, hd, _⟩ := hn
  have hstep : (s.encoderAt a b).forwardStep = (s.encoderAt a b).advance := if_neg (by
    intro h
    have hzero : (s.encoderAt a b).ctr.debt = 0 := hdebt
    omega)
  have hpoints : (s.encoderAt a b).advance.ctr.pointsDue = (s.encoderAt a b).reached.duePoints := by
    rw [State.advance_eq]
    exact (congrArg (· ++ _) hd).trans (List.nil_append _)
  have hctr : (s.encoderAt a b).advance.ctr = { s.ctr with
      position := s.ctr.position + 1
      infeed := (s.ctr.infeed.whenReached s.minBlock (s.ctr.position + 1)).1
      infeedDue := s.ctr.infeedDue ++ (s.ctr.infeed.whenReached s.minBlock (s.ctr.position + 1)).2
      confirm := (s.ctr.confirm.whenReached s.minBlock (s.ctr.position + 1)).1
      confirmDue := s.ctr.confirmDue ++ (s.ctr.confirm.whenReached s.minBlock (s.ctr.position + 1)).2
      pointsDue := (s.encoderAt a b).advance.ctr.pointsDue } := by
    rw [State.advance_eq]
    rfl
  rw [hi, hc, List.nil_append, List.nil_append] at hctr
  rw [hexec, hstep]
  refine ⟨_, rfl, ?_, ?_, ⟨hctr, fun d => ?_⟩, fun hnd => ?_⟩
  · rw [State.advance_eq]
    exact (((Touches.refl (cs := []) s).onPins _).onCtr _).onCtr _ |>.parts
  · rw [State.advance_eq]
    rfl
  · rw [hpoints, State.mem_duePoints]
    rfl
  · rw [hpoints]
    exact State.duePoints_sorted hnd

end Sys2Proof.Machine
end

section
namespace Sys2Proof.Machine

/-! ## The data of replies (10 R195, R196) -/

theorem bytesBE_one (n : Nat) : bytesBE 1 n = [BitVec.ofNat 8 n] := by
  simp [bytesBE]

/-- A run of a list, item by item. -/
theorem take_drop_eq_map {α : Type} (l : List α) (d : α) {off n : Nat} (h : off + n ≤ l.length) :
    (l.drop off).take n = (List.range n).map fun i => l.getD (off + i) d := by
  refine List.ext_getElem (by simp; omega) fun i hi _ => ?_
  have hi' : i < n := by simp at hi; omega
  have : off + i < l.length := by omega
  simp [List.getD, this]

theorem bytesBE_length (size v : Nat) : (bytesBE size v).length = size := by
  induction size generalizing v with
  | zero => rfl
  | succ n ih => rw [bytesBE, List.length_cons, ih]

/-- A run of an image's words, in bytes. -/
theorem Image.words_eq (img : Image) {off n : Nat} (h : off + n ≤ 256) :
    ((img.toList.drop off).take n).flatMap (fun w => bytesBE 2 w.toNat) =
      (List.range n).flatMap fun i => bytesBE 2 (img.word (off + i)) := by
  rw [take_drop_eq_map img.toList 0 (by simpa using h), List.flatMap_map]
  rfl

theorem Image.name_eq (img : Image) :
    img.name = (List.range 8).flatMap fun i => bytesBE 2 (img.word (1 + i)) := Image.words_eq img (by omega)

theorem Image.name_length (img : Image) : img.name.length = 16 := by
  rw [Image.name_eq, List.length_flatMap]
  simp [bytesBE_length]

section
variable {s : State} {r : Request} {rest : List Request} (hb : s.begins r rest)
include hb

/-- A read that its function answers with `d`. -/
theorem State.begins.reads {c : Instr} {code : Byte} {act : State → List Byte → Answer} {d data : List Byte}
    (hc : exec c s = .next (s.serve code act)) (hcode : r.code = code)
    (ha : act (s.took rest) r.args = (s.took rest).okay d) (hd : d = data) :
    exec c s = .next (replyTo r { state := s.took rest, status := .ok, data := data }) := by
  rw [hc, hb.serve hcode, ha, hd]
  rfl

end

theorem getElem_toList_getD {α : Type} {n : Nat} (v : Vector α n) (d : α) {i : Nat} (hi : i < n) :
    v.toList.getD i d = v[i] := by
  simp [List.getD, hi]

/-- Settles O52. -/
theorem readsReportTheState : Obligations.ReadsReportTheState := by
  intro s r rest hb u ok yes one absent inStage ctr wge date cck gtc slot lif sup all
  refine ⟨fun hc ha => ?_, fun g b hc ha hg => ?_, fun hc ha => ?_, fun v hc ha hv => ?_, fun off n hc ha hn hle => ?_,
    fun i hc ha => ?_, fun k off n hc ha h1 h64 hle => ?_, fun hc ha => ?_⟩
  · have hctr : reportCtr u = ctr := by
      simp only [reportCtr, ctr, bytesBE_one, List.append_assoc, List.cons_append, List.nil_append]
      rw [show u.ctr = s.ctr from rfl]
      cases s.ctr.queue.head? <;> rfl
    have hcck : reportCck u = cck := by
      simp only [reportCck, cck, bytesBE_one]
      rw [show u.cck = s.cck from rfl]
      cases s.cck.current <;> cases s.cck.previous <;> rfl
    have hgtc : ∀ left, reportGtc u left = gtc left := fun left => by
      simp only [reportGtc, gtc, bytesBE_one, State.gateActive]
      rw [show u.gtc = s.gtc from rfl]
      cases s.gtc.rejects.head? <;> cases s.gtc.gateTimer <;>
        simp only [presence, List.append_assoc, Option.map_none, Option.map_some] <;> rfl
    have hslot : ∀ x, reportSlot x = slot x := fun x => by
      have hrecipe : presence 3 (if x.state.hasRecipe then some (bytesBE 2 x.image.recipeId ++ textBytes x.image.name)
          else none) = if x.state = .verified ∨ x.state = .active ∨ x.state = .draining then
            [1] ++ bytesBE 2 (x.image.word 0) ++ [16] ++
              ((List.range 8).flatMap fun (i : Nat) => bytesBE 2 (x.image.word (1 + i)))
          else absent 3 := by
        rw [textBytes, Image.name_length, Image.name_eq, counted]
        cases x.state <;> rfl
      have hfault : (if x.state = .faulted then x.fault.map faultBytes else none) =
          (if x.state = .faulted then x.fault else none).map faultBytes := by split <;> rfl
      rw [reportSlot, hrecipe, hfault]
      simp only [slot]
      cases (if x.state = .faulted then x.fault else none) with
      | none => rfl
      | some f =>
        simp only [Option.map_some, presence, faultBytes, bytesBE_one]
        rfl
    have hlif : reportLif u = lif := by
      simp only [reportLif, lif, bytesBE_one]
      rw [show u.lif = s.lif from rfl, show u.elevation = s.elevation from rfl]
      cases s.lif.port <;> cases s.elevation <;> rfl
    have hsup : reportSup u = sup := by
      simp only [reportSup, sup]
      rw [show u.sup = s.sup from rfl]
      cases s.sup.excCode <;> rfl
    have hall : ∀ left, reportState u left = all left := fun left => by
      rw [reportState, hctr, hcck, hgtc, hslot, hslot, hlif, hsup, reportMga, bytesBE_one]
      rfl
    refine ⟨fun ht => ?_, fun n ht => ⟨u.gateLeft, ?_, ?_⟩⟩
    · refine hb.reads rfl hc (d := reportState u u.gateLeft) ?_ ?_
      · rw [ha, serveReadState, if_neg (by simp [State.gateActive, ht])]
      · rw [hall]
        simp only [all, gtc, ht]
    · rw [State.gateLeft, show u.gtc.gateTimer = some n from ht, Option.getD_some]
      exact Nat.lt_succ_iff.mp (Nat.mod_lt _ (Nat.succ_pos n))
    · have hserve : serveReadState u r.args = u.drawn.okay (all u.gateLeft) := by
        rw [ha, serveReadState, if_pos (by simp [State.gateActive, u, ht]), hall]
      rw [exec, execReadState, hb.serve hc, hserve]
      rfl
  · have hb' : blockOf g = some b := by
      rw [blockOf, hg]
      cases b <;> rfl
    refine hb.reads rfl hc (d := reportCounters u b) ?_ ?_
    · rw [ha, serveReadCounters, hb']
      rfl
    · have hgb : BitVec.ofNat 8 b.ctorIdx = g := by rw [← hg, BitVec.ofNat_toNat, BitVec.setWidth_eq]
      have hspan : b.span.1 + b.span.2 ≤ 127 := by cases b <;> decide
      have hgroup : b.span = ([(0, 18), (18, 11), (29, 17), (46, 9), (55, 19), (74, 20), (94, 19), (113, 7), (120, 7)] :
          List (Nat × Nat)).getD b.ctorIdx (0, 0) := by cases b <;> rfl
      rw [reportCounters, take_drop_eq_map u.counters.toList 0 (by simpa using hspan), List.flatMap_map, hgb, hgroup]
      rfl
  · refine hb.reads rfl hc (d := reportPlatform u) (by rw [ha]; rfl) ?_
    simp only [reportPlatform, bytesBE_one, counted, List.append_assoc, List.cons_append, List.nil_append]
    rw [show u.wge = s.wge from rfl]
    cases s.wge.output <;> rfl
  · refine hb.reads rfl hc (d := reportValve u v.toNat) ?_ ?_
    · rw [ha, serveReadValve, if_neg (by omega)]
    · simp only [reportValve, bytesBE_one, counted, List.append_assoc, List.cons_append, List.nil_append]
      rfl
  · have hlt := n.isLt
    refine hb.reads rfl hc (d := counted n.toNat ((s.setup.toList.drop off.toNat).take n.toNat)) ?_ ?_
    · rw [ha, serveReadSetup, if_neg]
      · rfl
      · rintro (h | h | h)
        · exact hn h
        · omega
        · omega
    · rw [take_drop_eq_map _ 0 (by simpa using hle), counted, BitVec.ofNat_toNat, BitVec.setWidth_eq]
      rfl
  · have hi : (BitVec.ofNat 8 (i : Nat)).toNat = i := by
      rw [BitVec.toNat_ofNat]
      omega
    refine hb.reads rfl hc (d := passEntryBytes s.lif.pass[i]) ?_ ?_
    · rw [ha, serveReadPassEntry, hi, if_neg (by omega), getElem_toList_getD _ _ i.isLt]
      rfl
    · cases s.lif.pass[i] <;> rfl
  · have hk : slotOf (if k = .s0 then 0 else 1) = some k := by cases k <;> rfl
    refine hb.reads rfl hc (d := reportRecipe (s.rcs.slot k) off.toNat n.toNat) ?_ ?_
    · rw [ha, serveReadRecipe, hk]
      dsimp only
      rw [if_neg]
      · rfl
      · rintro (rfl | h | h)
        · simp at h1
        · omega
        · omega
    · rw [reportRecipe, Image.words_eq _ hle, counted, BitVec.ofNat_toNat, BitVec.setWidth_eq]
      simp only [State.image]
      cases (s.rcs.slot k).fault <;>
        simp only [presence, faultBytes, bytesBE_one, Option.map_none, Option.map_some, List.append_assoc,
          List.cons_append, List.nil_append] <;> rfl
  · exact hb.reads rfl hc (d := reportCal u) (by rw [ha]; rfl) rfl

end Sys2Proof.Machine
end

section
namespace Sys2Proof.Machine

/-! ## The eyes (R21, R22) -/

theorem EyeMonitor.whenBlocked_busy {m : EyeMonitor} (h : m.state ≠ .clear) (d : Nat) (x : Pos) :
    m.whenBlocked d x = (m, []) := by
  unfold EyeMonitor.whenBlocked
  split
  · contradiction
  · rfl
  · rfl

theorem EyeMonitor.whenBlocked_clear {m : EyeMonitor} (h : m.state = .clear) (d : Nat) (x : Pos) :
    m.whenBlocked d x = if d = 0 then ({ state := .taken, latched := x }, [x])
      else ({ state := .pending, latched := x }, []) := by
  rw [EyeMonitor.whenBlocked, h]

theorem State.eyeBlocks_infeed (s : State) : s.eyeBlocks .infeed = s.onCtr fun c =>
    { c with infeed := (s.ctr.infeed.whenBlocked s.minBlock s.ctr.position).1,
             infeedDue := c.infeedDue ++ (s.ctr.infeed.whenBlocked s.minBlock s.ctr.position).2 } := by
  by_cases hm : s.ctr.infeed.state = .clear
  · rw [State.eyeBlocks, if_neg (by exact not_not.mpr hm), EyeMonitor.whenBlocked_clear hm]
    split
    · rfl
    · simp [State.setMonitor]
  · rw [State.eyeBlocks, if_pos (by exact hm), EyeMonitor.whenBlocked_busy hm]
    simp [State.onCtr]

theorem State.eyeBlocks_confirm (s : State) : s.eyeBlocks .confirm = s.onCtr fun c =>
    { c with confirm := (s.ctr.confirm.whenBlocked s.minBlock s.ctr.position).1,
             confirmDue := c.confirmDue ++ (s.ctr.confirm.whenBlocked s.minBlock s.ctr.position).2 } := by
  by_cases hm : s.ctr.confirm.state = .clear
  · rw [State.eyeBlocks, if_neg (by exact not_not.mpr hm), EyeMonitor.whenBlocked_clear hm]
    split
    · rfl
    · simp [State.setMonitor]
  · rw [State.eyeBlocks, if_pos (by exact hm), EyeMonitor.whenBlocked_busy hm]
    simp [State.onCtr]

/-! ## Start-up (R183) -/

/-- The first frame of a part that has sent nothing is sent at once. -/
theorem State.arbitrate_first {s : State} {d k : Byte} {payload : List Byte} {x : Bool}
    (hl : s.lif = { Lif.reset with notice := [.own d k payload x] }) (hb : s.bypassed = false)
    (he : s.elevation = none) : s.arbitrate.lif =
      { Lif.reset with port := .sending .notice (s.frameToSend (.own d k payload x)) true x, seq := 1 } := by
  have hnext : s.nextClass = some .notice := by
    rw [State.nextClass, he, hl]
    rfl
  have hidle : ¬ (s.bypassed || s.lif.port != .free) = true := by
    rw [hb, hl, Bool.false_or]
    exact Bool.false_ne_true
  have hsend : s.startSending .notice = s.onLif fun l =>
      { l.setQueue .notice [] with
        port := .sending .notice (s.frameToSend (.own d k payload x)) true x
        seq := l.seq + 1 } := by
    rw [State.startSending, show s.lif.queue .notice = [.own d k payload x] by rw [hl]; rfl]
  rw [State.arbitrate, if_neg hidle, hnext]
  dsimp only
  rw [hsend, State.onLif_lif, hl]
  rfl

theorem State.join_first {s : State} {d k : Byte} {payload : List Byte} {x : Bool} (hl : s.lif = Lif.reset)
    (hb : s.bypassed = false) (he : s.elevation = none) : (s.join .notice (.own d k payload x)).lif =
      { Lif.reset with port := .sending .notice (s.frameToSend (.own d k payload x)) true x, seq := 1 } := by
  have hv : (s.onLif fun l => l.setQueue .notice (l.queue .notice ++ [.own d k payload x])).lif =
      { Lif.reset with notice := [.own d k payload x] } := by
    rw [State.onLif_lif, hl]
    rfl
  have hframe : (s.onLif fun l => l.setQueue .notice (l.queue .notice ++ [.own d k payload x])).frameToSend
      (.own d k payload x) = s.frameToSend (.own d k payload x) := by
    simp only [State.frameToSend, hv, hl]
    rfl
  have hsent := State.arbitrate_first hv hb he
  rw [hframe] at hsent
  exact hsent

/-- A notice placed by a part that has sent nothing is the first frame it sends. -/
theorem State.placeNotice_first {s : State} (hl : s.lif = Lif.reset) (hm : s.mga = Mga.reset)
    (hb : s.bypassed = false) (he : s.elevation = none) {d : Byte} (hd : d ≠ 0) (n : Notice) :
    (s.placeNotice d n).lif = { Lif.reset with
        port := .sending .notice (s.frameToSend (.own d 0x42 ([n.kind, 0, 0] ++ n.data) false)) true false
        seq := 1 } ∧
      (s.placeNotice d n).mga = { Mga.reset with noticeNumber := 1 } := by
  have hroom : s.queueFull .notice = false := by
    rw [State.queueFull, hl]
    rfl
  rw [State.placeNotice, if_neg hd, hroom, hm]
  simp only [Bool.false_eq_true, if_false, State.bump_lif, State.bump_mga, State.join_mga, State.onMga_mga, hm]
  refine ⟨?_, rfl⟩
  exact State.join_first (s := s.onMga fun m => { m with noticeNumber := m.noticeNumber + 1, dropCount := 0 }) hl hb he

theorem State.watchEye_infeed {s : State} (hm : s.minBlock = 0) (hlow : s.infeedBlockedLow = false) :
    s.watchEye .infeed = s.onCtr fun c =>
      { c with
        infeed := (if s.pins.eyeIn then s.ctr.infeed.whenBlocked 0 s.ctr.position else (s.ctr.infeed, [])).1
        infeedDue := c.infeedDue ++
          (if s.pins.eyeIn then s.ctr.infeed.whenBlocked 0 s.ctr.position else (s.ctr.infeed, [])).2 } := by
  have hb : s.eyeBlocked .infeed = s.pins.eyeIn := by
    rw [State.eyeBlocked, State.infeedBlocked, hlow, Bool.bne_false]
  rw [State.watchEye, hb, State.eyeBlocks_infeed, hm]
  cases s.pins.eyeIn
  · simp [State.onCtr]
  · rfl

theorem State.watchEye_confirm {s : State} (hm : s.minBlock = 0) (hlow : s.confirmBlockedLow = false) :
    s.watchEye .confirm = s.onCtr fun c =>
      { c with
        confirm := (if s.pins.eyeConf then s.ctr.confirm.whenBlocked 0 s.ctr.position else (s.ctr.confirm, [])).1
        confirmDue := c.confirmDue ++
          (if s.pins.eyeConf then s.ctr.confirm.whenBlocked 0 s.ctr.position else (s.ctr.confirm, [])).2 } := by
  have hb : s.eyeBlocked .confirm = s.pins.eyeConf := by
    rw [State.eyeBlocked, State.confirmBlocked, hlow, Bool.bne_false]
  rw [State.watchEye, hb, State.eyeBlocks_confirm, hm]
  cases s.pins.eyeConf
  · simp [State.onCtr]
  · rfl

/-- The inputs watched under the setup's defaults (R22, R122). -/
theorem State.watchInputs_defaults {s : State} (h : s.setup = SetupImage.defaults) : s.watchInputs =
    (s.onSup fun u => { u with
      phase := .running
      binFull := { active := false, timing := s.pins.binFull }
      airOk := { active := true, timing := !s.pins.airOk } }).onCtr fun c => { c with
        infeed := (if s.pins.eyeIn then s.ctr.infeed.whenBlocked 0 s.ctr.position else (s.ctr.infeed, [])).1
        infeedDue := c.infeedDue ++
          (if s.pins.eyeIn then s.ctr.infeed.whenBlocked 0 s.ctr.position else (s.ctr.infeed, [])).2
        confirm := (if s.pins.eyeConf then s.ctr.confirm.whenBlocked 0 s.ctr.position else (s.ctr.confirm, [])).1
        confirmDue := c.confirmDue ++
          (if s.pins.eyeConf then s.ctr.confirm.whenBlocked 0 s.ctr.position else (s.ctr.confirm, [])).2 } := by
  have hmin : ∀ u : State, u.setup = s.setup → u.minBlock = 0 := fun u hu => by
    rw [State.minBlock, hu, h]
    decide
  have hin : ∀ u : State, u.setup = s.setup → u.infeedBlockedLow = false := fun u hu => by
    rw [State.infeedBlockedLow, hu, h]
    decide
  have hconf : ∀ u : State, u.setup = s.setup → u.confirmBlockedLow = false := fun u hu => by
    rw [State.confirmBlockedLow, hu, h]
    decide
  have hbin : s.binReads = s.pins.binFull := by
    rw [State.binReads, State.binActiveLow, h, show (setupNum SetupImage.defaults 42 1 == 1) = false by decide,
      Bool.bne_false]
  have hair : s.airReads = s.pins.airOk := by
    rw [State.airReads, State.airActiveLow, h, show (setupNum SetupImage.defaults 43 1 == 1) = false by decide,
      Bool.bne_false]
  rw [State.watchInputs, hbin, hair]
  refine (congrArg (State.watchEye · .confirm) (State.watchEye_infeed ?_ ?_)).trans (State.watchEye_confirm ?_ ?_)
  · exact hmin _ rfl
  · exact hin _ rfl
  · exact hmin _ rfl
  · exact hconf _ rfl

/-- A notice placed while the port is busy joins the NOTICE queue. -/
theorem State.placeNotice_waits {s : State} {d : Byte} (hd : d ≠ 0) (hroom : s.lif.notice.length < 16)
    (hp : s.lif.port ≠ .free) (n : Notice) : (s.placeNotice d n).lif = { s.lif with
      notice := s.lif.notice ++ [.own d 0x42 ([n.kind, s.mga.noticeNumber, s.mga.dropCount] ++ n.data) false] } := by
  have hfull : s.queueFull .notice = false := by
    rw [Bool.eq_false_iff, ne_eq, State.queueFull_iff]
    exact Nat.not_le.mpr hroom
  rw [State.placeNotice, if_neg hd, hfull, if_neg Bool.false_ne_true]
  exact congrArg State.lif (State.join_waits (s := s.onMga fun m =>
    { m with noticeNumber := m.noticeNumber + 1, dropCount := 0 }) (.inl hp) .notice _)

/-- Settles O14. -/
theorem startUpEndsWithHello : Obligations.StartUpEndsWithHello := by
  intro s hp hlo hhi hlif hmga hsetup
  have hexec : exec .startUpCompletion s = .next s.watchInputs.sayHello := by
    rw [exec, execStartUpCompletion, if_pos hp]
  have hwatch := State.watchInputs_defaults hsetup
  have hbypass : s.watchInputs.bypassed = false := by
    rw [hwatch]
    simp [State.bypassed, State.taking, State.addressed, hlo, hhi]
  have hset : s.watchInputs.setup = SetupImage.defaults := by rw [hwatch]; exact hsetup
  have hel : s.watchInputs.elevation = none := by
    rw [State.elevation, hset]
    decide
  have hl : s.watchInputs.lif = Lif.reset := by rw [hwatch]; exact hlif
  have hm : s.watchInputs.mga = Mga.reset := by rw [hwatch]; exact hmga
  let n : Notice := .hello s.sup.resetCause s.calState s.ownStation s.sup.calwe
  obtain ⟨htl, htm⟩ := State.placeNotice_first hl hm hbypass hel (d := 63) (by decide) n
  let t := s.watchInputs.placeNotice 63 n
  have hsay : s.watchInputs.sayHello = if s.sup.storeValid then t else t.notify (.calState .invalid s.sup.store.audit) := by
    rw [State.sayHello]
    simp only [t, n, hwatch]
    rfl
  have hport : t.lif.port ≠ .free := by
    rw [show t.lif = _ from htl]
    exact fun h => by cases h
  have htouch : Touches [.lif, .mga, .counters] noticeCounts s.watchInputs t :=
    (Touches.refl _).placeNotice 63 n
  have hnotice : s.sup.storeValid = false → (t.notify (.calState .invalid s.sup.store.audit)).lif =
      { t.lif with notice := [.own 63 0x42 ([0x0A, 1, 0, 0] ++ bytesBE 4 s.sup.store.audit.toNat) false] } := fun _ => by
    have hst : t.noticeStation = 63 := by
      rw [State.noticeStation, show t.setup = s.watchInputs.setup from htouch.part .setup, hset]
      decide
    have hempty : t.lif.notice = [] := by
      rw [show t.lif = _ from htl]
      rfl
    rw [State.notify, hst, State.placeNotice_waits (by decide) (by rw [hempty]; decide) hport, hempty,
      show t.mga = _ from htm]
    rfl
  have hsaid : Touches [.lif, .mga, .counters] noticeCounts s.watchInputs s.watchInputs.sayHello := by
    rw [hsay]
    split
    · exact htouch
    · exact htouch.notify _
  have hlast : s.watchInputs.sayHello.lif = { t.lif with notice := if s.sup.storeValid then []
      else [.own 63 0x42 ([0x0A, 1, 0, 0] ++ bytesBE 4 s.sup.store.audit.toNat) false] } := by
    rw [hsay]
    cases hv : s.sup.storeValid
    · exact hnotice hv
    · rw [if_pos rfl, if_pos rfl, show t.lif = _ from htl]
      rfl
  have hsup : s.watchInputs.sayHello.sup = s.watchInputs.sup := hsaid.part .sup
  have hctr : s.watchInputs.sayHello.ctr = s.watchInputs.ctr := hsaid.part .ctr
  refine ⟨_, hexec, ?_, ?_, ?_, ?_, ?_, ?_, ?_⟩
  · rw [hsup, hwatch]
    rfl
  · rw [hctr, hwatch]
    rfl
  · have hown : s.watchInputs.ownStation = s.ownStation := by
      rw [hwatch]
      rfl
    have hhop : s.watchInputs.hopStart = 63 := by
      rw [State.hopStart, hset]
      decide
    rw [hlast, show t.lif = _ from htl, State.frameToSend, hown, hhop, hl]
    rfl
  · rw [hlast]
  · rw [hlast, show t.lif = _ from htl]
  · rw [State.bypassed, State.taking, State.addressed, hsup]
    exact hbypass
  · have hfirst : Touches [.sup, .ctr, .lif, .mga, .counters] noticeCounts s s.watchInputs := by
      rw [hwatch]
      exact ((Touches.refl s).onSup _).onCtr _
    exact (hfirst.trans (hsaid.mono (by decide) (List.Subset.refl _))).parts

end Sys2Proof.Machine
end

section
namespace Sys2Proof.Machine

/-! ## The points gone by at an arrival (R26, R29) -/

/-- A point lies before another: by its distance, and at one distance by R29's table. -/
def Before (x y : Pos × Point) : Prop :=
  x.1.toNat < y.1.toNat ∨ (x.1 = y.1 ∧ x.2.ctorIdx < y.2.ctorIdx)

theorem insertPoint_perm (x : Pos × Point) (l : List (Pos × Point)) : (insertPoint x l).Perm (x :: l) := by
  induction l with
  | nil => exact .refl _
  | cons y ys ih =>
    unfold insertPoint
    split
    · exact .refl _
    · exact (ih.cons y).trans (.swap x y ys)

/-- A point of a later row than those inserted before it takes its place among them. -/
theorem insertPoint_sorted {x : Pos × Point} {l : List (Pos × Point)} (hl : l.Pairwise Before)
    (hx : ∀ y ∈ l, y.2.ctorIdx < x.2.ctorIdx) : (insertPoint x l).Pairwise Before := by
  induction l with
  | nil => exact List.pairwise_singleton _ _
  | cons y ys ih =>
    obtain ⟨hy, hys⟩ := List.pairwise_cons.mp hl
    unfold insertPoint
    split
    · rename_i hlt
      refine List.pairwise_cons.mpr ⟨fun z hz => .inl ?_, hl⟩
      rcases List.mem_cons.mp hz with rfl | hz
      · exact hlt
      · rcases hy z hz with h | ⟨h, _⟩
        · omega
        · rw [← h]
          exact hlt
    · rename_i hge
      refine List.pairwise_cons.mpr ⟨fun z hz => ?_, ih hys fun z hz => hx z (List.mem_cons_of_mem _ hz)⟩
      rcases List.mem_cons.mp ((insertPoint_perm x ys).mem_iff.mp hz) with rfl | hz
      · by_cases heq : y.1 = z.1
        · exact .inr ⟨heq, hx y List.mem_cons_self⟩
        · have : y.1.toNat ≠ z.1.toNat := fun h => heq (BitVec.eq_of_toNat_eq h)
          exact .inl (by omega)
      · exact hy z hz

/-- Points of ascending rows inserted one after another. -/
theorem foldl_insertPoint (l : List (Pos × Point)) : ∀ acc : List (Pos × Point),
    l.Pairwise (fun x y => x.2.ctorIdx < y.2.ctorIdx) → (∀ x ∈ acc, ∀ y ∈ l, x.2.ctorIdx < y.2.ctorIdx) →
    acc.Pairwise Before → (l.foldl (fun acc x => insertPoint x acc) acc).Pairwise Before ∧
      (l.foldl (fun acc x => insertPoint x acc) acc).Perm (acc ++ l) := by
  induction l with
  | nil => exact fun acc _ _ ha => ⟨ha, by simp⟩
  | cons x l ih =>
    intro acc hl hacc ha
    obtain ⟨hx, hl⟩ := List.pairwise_cons.mp hl
    have hperm := insertPoint_perm x acc
    obtain ⟨hs, hp⟩ := ih (insertPoint x acc) hl (fun y hy z hz => by
        rcases List.mem_cons.mp (hperm.mem_iff.mp hy) with rfl | hy
        · exact hx z hz
        · exact hacc y hy z (List.mem_cons_of_mem _ hz))
      (insertPoint_sorted ha fun y hy => hacc y hy x List.mem_cons_self)
    exact ⟨hs, hp.trans ((hperm.append_right l).trans List.perm_middle.symm)⟩

/-- The points of an entry at or before the present position, each with its distance. -/
def State.goneBy (s : State) (e : Entry) : List (Pos × Point) :=
  (allPoints.filterMap fun p => (s.pointOffset e p).map fun d => (d, p)).filter fun x =>
    atOrAfter s.ctr.position (e.q + x.1)

theorem State.mem_goneBy {s : State} {e : Entry} {x : Pos × Point} : x ∈ s.goneBy e ↔
    s.pointOffset e x.2 = some x.1 ∧ atOrAfter s.ctr.position (e.q + x.1) = true := by
  have hall : ∀ p : Point, p ∈ allPoints := fun p => by cases p <;> decide
  obtain ⟨d, p⟩ := x
  simp only [State.goneBy, List.mem_filter, List.mem_filterMap, hall, true_and, Option.map_eq_some_iff]
  refine and_congr_left fun _ => ⟨?_, fun h => ⟨p, d, h, rfl⟩⟩
  rintro ⟨p', d', h, heq⟩
  cases heq
  exact h

theorem State.goneBy_rows (s : State) (e : Entry) :
    (s.goneBy e).Pairwise fun x y => x.2.ctorIdx < y.2.ctorIdx := by
  refine List.Pairwise.filter _ (List.pairwise_filterMap.mpr ?_)
  have hrows : allPoints.Pairwise fun p r => p.ctorIdx < r.ctorIdx := by decide
  refine hrows.imp fun {p r} hlt x hx y hy => ?_
  obtain ⟨_, _, rfl⟩ := Option.map_eq_some_iff.mp hx
  obtain ⟨_, _, rfl⟩ := Option.map_eq_some_iff.mp hy
  exact hlt

/-- The points gone by are those of `goneBy`, sorted. -/
theorem State.pointsGoneBy_eq (s : State) (e : Entry) : ∃ l : List (Pos × Point),
    s.pointsGoneBy e = l.map Prod.snd ∧ l.Pairwise Before ∧ l.Perm (s.goneBy e) := by
  obtain ⟨hs, hp⟩ := foldl_insertPoint (s.goneBy e) [] (s.goneBy_rows e) (fun x hx => by cases hx) List.Pairwise.nil
  exact ⟨_, rfl, hs, hp⟩

theorem Point.exec_command (s : State) (p : Point) (tag : Tag) :
    exec (p.command tag) s = .next (s.atPoint tag p p.act) := by
  cases p <;> rfl

/-- A late announcement, written as a test. -/
theorem State.announce_eq (s : State) (tag : Tag) (p : Point) :
    s.announce tag p = if s.entry tag = none then s else p.act s tag := by
  unfold State.announce
  cases s.entry tag <;> rfl

theorem State.announceGoneBy_eq {s : State} {e : Entry} (h : s.entry e.tag = some e) :
    s.announceGoneBy e.tag = (s.pointsGoneBy e).foldl (fun t p => t.announce e.tag p) s := by
  rw [State.announceGoneBy, h]

/-- Settles O23. -/
theorem goneByPointsComeInOrder : Obligations.GoneByPointsComeInOrder := by
  refine ⟨fun s e => ?_, fun s e he => ?_, fun s e p h => ?_⟩
  · obtain ⟨l, hl, hsorted, hperm⟩ := s.pointsGoneBy_eq e
    have hoff : ∀ x ∈ l, s.pointOffset e x.2 = some x.1 ∧ atOrAfter s.ctr.position (e.q + x.1) = true :=
      fun x hx => State.mem_goneBy.mp (hperm.mem_iff.mp hx)
    refine ⟨?_, fun p => ?_, ?_⟩
    · rw [hl, (hperm.map _).nodup_iff]
      refine List.pairwise_map.mpr ((s.goneBy_rows e).imp fun {x y} hlt heq => ?_)
      rw [heq] at hlt
      exact absurd hlt (lt_irrefl _)
    · rw [hl, List.mem_map]
      constructor
      · rintro ⟨x, hx, rfl⟩
        exact ⟨x.1, hoff x hx⟩
      · rintro ⟨d, hd, ha⟩
        exact ⟨(d, p), hperm.mem_iff.mpr (State.mem_goneBy.mpr ⟨hd, ha⟩), rfl⟩
    · rw [hl, List.pairwise_map]
      refine hsorted.imp_of_mem fun {x y} hx hy hb d d' hd hd' => ?_
      obtain ⟨hxd, _⟩ := hoff x hx
      obtain ⟨hyd, _⟩ := hoff y hy
      rw [hxd] at hd
      rw [hyd] at hd'
      cases hd
      cases hd'
      exact hb
  · rw [State.announceGoneBy_eq he]
    simp only [State.announce_eq]
  · rw [Point.exec_command, h.atPoint]

end Sys2Proof.Machine
end

section
/-!
The encoder lines and the eyes are read at their own changes only: what the position brings on comes the same
whatever the pins are.
-/

namespace Sys2Proof.Machine

/-- `s` with other pins. -/
def State.withPins (s : State) (p : Pins) : State := { s with pins := p }

namespace State

variable (s : State) (p : Pins)

/-! ## What reads no pin -/

@[simp] theorem withPins_sup : (s.withPins p).sup = s.sup := rfl
@[simp] theorem withPins_lif : (s.withPins p).lif = s.lif := rfl
@[simp] theorem withPins_mga : (s.withPins p).mga = s.mga := rfl
@[simp] theorem withPins_setup : (s.withPins p).setup = s.setup := rfl
@[simp] theorem withPins_ctr : (s.withPins p).ctr = s.ctr := rfl
@[simp] theorem withPins_wge : (s.withPins p).wge = s.wge := rfl
@[simp] theorem withPins_cck : (s.withPins p).cck = s.cck := rfl
@[simp] theorem withPins_drg : (s.withPins p).drg = s.drg := rfl
@[simp] theorem withPins_gtc : (s.withPins p).gtc = s.gtc := rfl
@[simp] theorem withPins_rcs : (s.withPins p).rcs = s.rcs := rfl
@[simp] theorem withPins_entry (tag : Tag) : (s.withPins p).entry tag = s.entry tag := rfl
@[simp] theorem withPins_record (tag : Tag) : (s.withPins p).record tag = s.record tag := rfl
@[simp] theorem withPins_oldestEnRoute : (s.withPins p).oldestEnRoute = s.oldestEnRoute := rfl
@[simp] theorem withPins_expired : (s.withPins p).expired = s.expired := rfl
@[simp] theorem withPins_valve (v : Nat) : (s.withPins p).valve v = s.valve v := rfl
@[simp] theorem withPins_inert (v : Nat) : (s.withPins p).inert v = s.inert v := rfl
@[simp] theorem withPins_image (k : SlotId) : (s.withPins p).image k = s.image k := rfl
@[simp] theorem withPins_activeSlot : (s.withPins p).activeSlot = s.activeSlot := rfl
@[simp] theorem withPins_queueFull (c : TxClass) : (s.withPins p).queueFull c = s.queueFull c := rfl
@[simp] theorem withPins_hasCause (c : LineStopCause) : (s.withPins p).hasCause c = s.hasCause c := rfl
@[simp] theorem withPins_noticeStation : (s.withPins p).noticeStation = s.noticeStation := rfl
@[simp] theorem withPins_readerStation : (s.withPins p).readerStation = s.readerStation := rfl
@[simp] theorem withPins_fillerStation : (s.withPins p).fillerStation = s.fillerStation := rfl
@[simp] theorem withPins_slipLimit : (s.withPins p).slipLimit = s.slipLimit := rfl
@[simp] theorem withPins_trackingRuns : (s.withPins p).trackingRuns = s.trackingRuns := rfl
@[simp] theorem withPins_calAbsent : (s.withPins p).calAbsent = s.calAbsent := rfl
@[simp] theorem withPins_confirmEnable : (s.withPins p).confirmEnable = s.confirmEnable := rfl
@[simp] theorem withPins_resultEnable : (s.withPins p).resultEnable = s.resultEnable := rfl
@[simp] theorem withPins_taking : (s.withPins p).taking = s.taking := rfl

/-- Both branches with other pins. -/
theorem ite_withPins (c : Prop) [Decidable c] (s t : State) (p : Pins) :
    (if c then s else t).withPins p = if c then s.withPins p else t.withPins p :=
  apply_ite (State.withPins · p) c s t

/-! ## The updates -/

@[simp] theorem withPins_onSup (f : Sup → Sup) : (s.withPins p).onSup f = (s.onSup f).withPins p := rfl
@[simp] theorem withPins_onLif (f : Lif → Lif) : (s.withPins p).onLif f = (s.onLif f).withPins p := rfl
@[simp] theorem withPins_onMga (f : Mga → Mga) : (s.withPins p).onMga f = (s.onMga f).withPins p := rfl
@[simp] theorem withPins_onCtr (f : Ctr → Ctr) : (s.withPins p).onCtr f = (s.onCtr f).withPins p := rfl
@[simp] theorem withPins_onWge (f : Wge → Wge) : (s.withPins p).onWge f = (s.onWge f).withPins p := rfl
@[simp] theorem withPins_onCck (f : Cck → Cck) : (s.withPins p).onCck f = (s.onCck f).withPins p := rfl
@[simp] theorem withPins_onGtc (f : Gtc → Gtc) : (s.withPins p).onGtc f = (s.onGtc f).withPins p := rfl
@[simp] theorem withPins_onRcs (f : Rcs → Rcs) : (s.withPins p).onRcs f = (s.onRcs f).withPins p := rfl
@[simp] theorem withPins_onValve (v : Nat) (f : Valve → Valve) :
    (s.withPins p).onValve v f = (s.onValve v f).withPins p := rfl
@[simp] theorem withPins_onEntry (tag : Tag) (f : Entry → Entry) :
    (s.withPins p).onEntry tag f = (s.onEntry tag f).withPins p := rfl
@[simp] theorem withPins_onRecord (tag : Tag) (f : Occupancy → Occupancy) :
    (s.withPins p).onRecord tag f = (s.onRecord tag f).withPins p := rfl
@[simp] theorem withPins_bump (c : Counter) : (s.withPins p).bump c = (s.bump c).withPins p := rfl

/-! ## Frames and notices -/

theorem withPins_startSending (c : TxClass) : (s.withPins p).startSending c = (s.startSending c).withPins p := by
  unfold startSending
  rw [withPins_lif]
  split
  · rfl
  · dsimp only
    split <;> rfl

theorem withPins_arbitrate : (s.withPins p).arbitrate = s.arbitrate.withPins p := by
  unfold arbitrate
  rw [show (s.withPins p).bypassed = s.bypassed from rfl, withPins_lif,
    show (s.withPins p).nextClass = s.nextClass from rfl]
  split
  · rfl
  · split
    · rfl
    · exact withPins_startSending s p _

@[simp] theorem withPins_join (c : TxClass) (x : Queued) : (s.withPins p).join c x = (s.join c x).withPins p :=
  withPins_arbitrate (s.onLif fun l => l.setQueue c (l.queue c ++ [x])) p

@[simp] theorem withPins_notify (n : Notice) : (s.withPins p).notify n = (s.notify n).withPins p := by
  simp only [notify, placeNotice, withPins_noticeStation, withPins_queueFull, withPins_mga, withPins_onMga,
    withPins_bump, withPins_join]
  split_ifs <;> rfl

@[simp] theorem withPins_addCause (c : LineStopCause) : (s.withPins p).addCause c = (s.addCause c).withPins p := by
  simp only [addCause, withPins_hasCause, withPins_sup, withPins_onSup, withPins_notify, withPins_bump]
  split_ifs <;> rfl

@[simp] theorem withPins_alert (v : Nat) (x : AlertReason) : (s.withPins p).alert v x = (s.alert v x).withPins p := by
  simp only [alert, alertWith, withPins_valve, withPins_notify, withPins_bump,
    show (s.withPins p).noticeFits = s.noticeFits from rfl]
  split_ifs <;> rfl

@[simp] theorem withPins_sendTrim (v : Nat) : (s.withPins p).sendTrim v = (s.sendTrim v).withPins p := by
  simp only [sendTrim, withPins_valve, withPins_queueFull, withPins_fillerStation, withPins_join, withPins_bump]
  split_ifs <;> rfl

@[simp] theorem withPins_raiseSlip : (s.withPins p).raiseSlip = s.raiseSlip.withPins p := by
  simp only [raiseSlip, withPins_slipLimit, withPins_ctr, withPins_onCtr, withPins_notify, withPins_addCause,
    withPins_bump]
  split_ifs <;> rfl

/-! ## Entries -/

@[simp] theorem withPins_addEntry (e : Entry) : (s.withPins p).addEntry e = (s.addEntry e).withPins p := by
  unfold addEntry
  cases e.slot <;> rfl

@[simp] theorem withPins_releaseSlot (slot : Option SlotId) (m : DrainMoment) :
    (s.withPins p).releaseSlot slot m = (s.releaseSlot slot m).withPins p := by
  cases slot with
  | none => rfl
  | some k =>
    simp only [releaseSlot, drainCheck_eq, withPins_onRcs, withPins_rcs, withPins_image, withPins_notify, withPins_bump]
    split_ifs <;> rfl

@[simp] theorem withPins_sendCanResult (e : Entry) : (s.withPins p).sendCanResult e = (s.sendCanResult e).withPins p := by
  simp only [sendCanResult, withPins_resultEnable, withPins_noticeStation, withPins_gtc, withPins_image, withPins_ctr,
    withPins_onGtc, withPins_queueFull, withPins_bump, withPins_join]
  split_ifs <;> rfl

@[simp] theorem withPins_retire (out : ExitOutcome) (tag : Tag) :
    (s.withPins p).retire out tag = (s.retire out tag).withPins p := by
  simp only [retire, withPins_entry]
  split
  · rfl
  · simp only [withPins_onCtr, withPins_onWge, withPins_releaseSlot, withPins_sendCanResult]
    split_ifs <;> rfl

@[simp] theorem withPins_retireCounted (out : ExitOutcome) (tag : Tag) :
    (s.withPins p).retireCounted out tag = (s.retireCounted out tag).withPins p := by
  simp only [retireCounted, withPins_retire, withPins_bump]

@[simp] theorem withPins_countValve (v : Option Nat) (f : Valve → Valve) :
    (s.withPins p).countValve v f = (s.countValve v f).withPins p := by
  cases v with
  | none => rfl
  | some v =>
    by_cases h : s.inert v = true <;> simp [countValve, h]

@[simp] theorem withPins_expire (e : Entry) : (s.withPins p).expire e = (s.expire e).withPins p := by
  simp only [expire, withPins_retire, withPins_bump, withPins_countValve, withPins_raiseSlip]

theorem withPins_expireAll (n : Nat) : ∀ s : State, (s.withPins p).expireAll n = (s.expireAll n).withPins p := by
  induction n with
  | zero => exact fun _ => rfl
  | succ n ih =>
    intro s
    simp only [expireAll, withPins_expired]
    split
    · rfl
    · rw [withPins_expire, ih]

/-! ## The code check, the platform and the valves -/

@[simp] theorem withPins_readerRun (tag : Tag) (c : CodeClass) :
    (s.withPins p).readerRun tag c = (s.readerRun tag c).withPins p := by
  unfold readerRun
  rw [show (s.withPins p).readerFaultLimit = s.readerFaultLimit from rfl,
    show (s.withPins p).readerLineStop = s.readerLineStop from rfl]
  split
  all_goals simp only [withPins_cck, withPins_onCck, withPins_notify, withPins_addCause]
  all_goals split_ifs <;> rfl

@[simp] theorem withPins_writeCode (tag : Tag) (c : CodeResult) :
    (s.withPins p).writeCode tag c = (s.writeCode tag c).withPins p := by
  simp only [writeCode, storeCode, withPins_onEntry, withPins_bump, withPins_readerRun]

@[simp] theorem withPins_writeWeigh (tag : Tag) (w : WeighResult) :
    (s.withPins p).writeWeigh tag w = (s.writeWeigh tag w).withPins p := rfl

@[simp] theorem withPins_crowded (tag : Tag) : (s.withPins p).crowded tag = (s.crowded tag).withPins p := rfl

@[simp] theorem withPins_handOff (tag : Tag) (slot : Option SlotId) :
    (s.withPins p).handOff tag slot = (s.handOff tag slot).withPins p := by
  simp only [handOff, withPins_sup, withPins_calAbsent, withPins_wge, withPins_writeWeigh, withPins_crowded,
    withPins_onWge, ite_withPins]
  rfl

@[simp] theorem withPins_evaluate (v : Nat) (img : Image) :
    (s.withPins p).evaluate v img = (s.evaluate v img).withPins p := by
  have htrim : ∀ (s : State) (x : Int), (s.withPins p).applyTrim v x = (s.applyTrim v x).withPins p := fun s x => by
    simp only [applyTrim, withPins_valve, withPins_onValve, withPins_sendTrim, withPins_bump]
    split_ifs <;> rfl
  have hsat : ∀ (s : State) (x : Int), (s.withPins p).saturation v img x = (s.saturation v img x).withPins p :=
    fun s x => by
      simp only [saturation, withPins_valve, withPins_onValve, withPins_alert]
      split_ifs <;> rfl
  simp only [evaluate, withPins_valve, withPins_onValve, withPins_bump, htrim, hsat]
  split_ifs <;> rfl

@[simp] theorem withPins_takeNet (tag : Tag) (v : Nat) (img : Image) (net : Int) :
    (s.withPins p).takeNet tag v img net = (s.takeNet tag v img net).withPins p := by
  have herratic : ∀ s : State, (s.withPins p).erraticCheck v img = (s.erraticCheck v img).withPins p := fun s => by
    simp only [erraticCheck, withPins_valve, withPins_onValve, withPins_alert]
    split_ifs <;> rfl
  simp only [takeNet, withPins_valve, withPins_onValve, withPins_onEntry, withPins_bump, herratic, withPins_evaluate]
  split_ifs <;> rfl

@[simp] theorem withPins_testOffer (e : Entry) (v : Nat) (w : WeighResult) :
    (s.withPins p).testOffer e v w = (s.testOffer e v w).withPins p := by
  simp only [testOffer, withPins_sup, withPins_activeSlot, withPins_valve, withPins_image, withPins_onValve,
    withPins_bump, withPins_takeNet]
  cases e.slot <;> simp only [ite_withPins]

@[simp] theorem withPins_offer (e : Entry) (w : WeighResult) :
    (s.withPins p).offer e w = (s.offer e w).withPins p := by
  unfold offer
  split
  · simp only [withPins_inert, withPins_onValve, ← ite_withPins, withPins_testOffer]
  · rfl

/-! ## The acts of the points -/

theorem withPins_readTrigger (tag : Tag) : (s.withPins p).readTrigger tag = (s.readTrigger tag).withPins p := by
  simp only [readTrigger, withPins_entry]
  split
  · rfl
  · simp only [withPins_sup, withPins_readerStation, withPins_queueFull, withPins_writeCode, withPins_bump,
      withPins_join, withPins_onEntry, show ∀ e, (s.withPins p).checksCode e = s.checksCode e from fun _ => rfl]
    split_ifs <;> rfl

theorem withPins_platformEntry (tag : Tag) :
    (s.withPins p).platformEntry tag = (s.platformEntry tag).withPins p := by
  have hdiscard : ∀ s : State, (s.withPins p).discardEmpty = s.discardEmpty.withPins p := fun s => by
    simp only [discardEmpty, clearEmpty, withPins_wge, withPins_onWge, withPins_bump, ite_withPins]
    rfl
  simp only [platformEntry, withPins_record]
  split
  · rfl
  · rw [withPins_onWge, hdiscard]

theorem withPins_settle (tag : Tag) : (s.withPins p).settle tag = (s.settle tag).withPins p := by
  simp only [settle, withPins_record, withPins_wge, withPins_onRecord]
  split <;> rfl

theorem withPins_endWindow (tag : Tag) : (s.withPins p).endWindow tag = (s.endWindow tag).withPins p := by
  simp only [endWindow, withPins_record, withPins_entry, withPins_onRecord,
    show ∀ e a, (s.withPins p).weighResult e a = s.weighResult e a from fun _ _ => rfl]
  split
  · rfl
  · split
    · rfl
    · rw [withPins_writeWeigh, withPins_offer]

theorem withPins_decisionPoint (tag : Tag) :
    (s.withPins p).decisionPoint tag = (s.decisionPoint tag).withPins p := by
  have hclose : (s.withPins p).closeCode tag = (s.closeCode tag).withPins p := by
    simp only [closeCode, withPins_entry, withPins_writeCode, withPins_bump]
    split
    · rfl
    · split_ifs <;> rfl
  have hqueue : ∀ (s : State) (e : Entry), (s.withPins p).queueReject e = (s.queueReject e).withPins p := fun s e => by
    simp only [queueReject, withPins_gtc, withPins_onGtc, withPins_onEntry, withPins_addCause, withPins_bump,
      show ∀ tag, (s.withPins p).rank tag = s.rank tag from fun _ => rfl,
      show ∀ e, (s.withPins p).firePos e = s.firePos e from fun _ => rfl]
    split_ifs <;> rfl
  have hdecide : ∀ s : State, (s.withPins p).decideEntry tag = (s.decideEntry tag).withPins p := fun s => by
    simp only [decideEntry, withPins_entry]
    split
    · rfl
    · simp only [withPins_onEntry, withPins_bump, hqueue, withPins_countValve,
        show ∀ e, (s.withPins p).selectionFor e = s.selectionFor e from fun _ => rfl]
      split <;> rfl
  rw [decisionPoint, hclose, hdecide]
  rfl

theorem withPins_gatePoint (tag : Tag) : (s.withPins p).gatePoint tag = (s.gatePoint tag).withPins p := by
  have hfire : ∀ s : State, (s.withPins p).fireGate = s.fireGate.withPins p := fun s => by
    simp only [fireGate, withPins_bump, show ∀ s : State, (s.withPins p).gateActive = s.gateActive
      from fun _ => rfl, show (s.withPins p).gatePulse = s.gatePulse from rfl]
    split_ifs <;> rfl
  have hacts : ∀ e, (s.withPins p).gateActs e = (s.gateActs e).withPins p := fun e => by
    simp only [gateActs, withPins_gtc, withPins_onGtc, withPins_bump, hfire]
    split_ifs <;> rfl
  simp only [gatePoint, withPins_entry, withPins_confirmEnable]
  split
  · rfl
  · simp only [hacts, withPins_onEntry, withPins_retireCounted]
    split_ifs <;> rfl

theorem withPins_confirmCloses (tag : Tag) :
    (s.withPins p).confirmCloses tag = (s.confirmCloses tag).withPins p := by
  simp only [confirmCloses, withPins_entry, withPins_retireCounted]
  split <;> rfl

@[simp] theorem withPins_act (point : Point) (tag : Tag) :
    point.act (s.withPins p) tag = (point.act s tag).withPins p := by
  cases point
  case readTrigger => exact s.withPins_readTrigger p tag
  case platformEntry => exact s.withPins_platformEntry p tag
  case settle => exact s.withPins_settle p tag
  case endOfWindow => exact s.withPins_endWindow p tag
  case exit => rfl
  case decision => exact s.withPins_decisionPoint p tag
  case gate => exact s.withPins_gatePoint p tag
  case confirmClose => exact s.withPins_confirmCloses p tag

@[simp] theorem withPins_atPoint (tag : Tag) (point : Point) :
    (s.withPins p).atPoint tag point point.act = (s.atPoint tag point point.act).withPins p := by
  simp only [atPoint, withPins_taking, withPins_onCtr, withPins_act,
    show (s.withPins p).pointIsDue tag point = s.pointIsDue tag point from rfl]
  split_ifs <;> rfl

/-! ## Arrivals -/

theorem withPins_foldl {α : Type} {op : State → α → State}
    (h : ∀ s a, op (s.withPins p) a = (op s a).withPins p) (l : List α) :
    ∀ s : State, l.foldl op (s.withPins p) = (l.foldl op s).withPins p := by
  induction l with
  | nil => exact fun _ => rfl
  | cons a l ih =>
    intro s
    rw [List.foldl_cons, h, ih, List.foldl_cons]

@[simp] theorem withPins_arrived (tag : Tag) (slot : Option SlotId) :
    (s.withPins p).arrived tag slot = (s.arrived tag slot).withPins p := by
  have hannounce : ∀ (s : State) (x : Point), (s.withPins p).announce tag x = (s.announce tag x).withPins p :=
    fun s x => by
      simp only [announce, withPins_entry, withPins_act]
      split <;> rfl
  simp only [arrived, withPins_handOff, announceGoneBy, withPins_entry]
  split
  · rfl
  · exact withPins_foldl p hannounce _ _

@[simp] theorem withPins_infeedArrives (q : Pos) : (s.withPins p).infeedArrives q = (s.infeedArrives q).withPins p := by
  have hpair : ∀ (s : State) (e : Entry), (s.withPins p).pair e q = (s.pair e q).withPins p := fun s e => by
    simp only [pair, withPins_onEntry, withPins_onCtr, withPins_bump, withPins_arrived]
  have hstray : ∀ s : State, (s.withPins p).strayArrives q = (s.strayArrives q).withPins p := fun s => by
    simp only [strayArrives, withPins_ctr, withPins_activeSlot, withPins_cck, withPins_addEntry, withPins_bump,
      withPins_raiseSlip, withPins_arrived, withPins_addCause, show (s.withPins p).freeIndex = s.freeIndex from rfl,
      show ∀ i, (s.withPins p).tagOf i = s.tagOf i from fun _ => rfl]
    split_ifs <;> rfl
  simp only [infeedArrives, withPins_trackingRuns, withPins_oldestEnRoute, withPins_bump, hpair, hstray,
    show ∀ e, (s.withPins p).windowLow e = s.windowLow e from fun _ => rfl]
  split_ifs
  · rfl
  · split
    · rfl
    · split_ifs <;> rfl

@[simp] theorem withPins_confirmArrives (y : Pos) :
    (s.withPins p).confirmArrives y = (s.confirmArrives y).withPins p := by
  have hentry : ∀ e, (s.withPins p).confirmEntry e = (s.confirmEntry e).withPins p := fun e => by
    simp only [confirmEntry, withPins_retireCounted, withPins_addCause]
    split_ifs <;> rfl
  simp only [confirmArrives, withPins_trackingRuns, withPins_confirmEnable, withPins_bump, hentry,
    show (s.withPins p).candidate y = s.candidate y from rfl]
  split_ifs
  · rfl
  · rfl
  · split <;> rfl

/-- What the position has brought on is taken in the same way whatever the pins are. -/
theorem withPins_takeOutstanding : (s.withPins p).takeOutstanding = s.takeOutstanding.withPins p := by
  have hinfeed : ∀ s : State, (s.withPins p).takeInfeed = s.takeInfeed.withPins p := fun s =>
    withPins_foldl p (fun t q => by rw [withPins_onCtr, withPins_infeedArrives]) _ s
  have hconfirm : ∀ s : State, (s.withPins p).takeConfirm = s.takeConfirm.withPins p := fun s =>
    withPins_foldl p (fun t y => by rw [withPins_onCtr, withPins_confirmArrives]) _ s
  have hexpire : ∀ s : State, (s.withPins p).takeExpiries = s.takeExpiries.withPins p := fun s =>
    withPins_expireAll p _ s
  have hpoints : ∀ s : State, (s.withPins p).takePoints = s.takePoints.withPins p := fun s =>
    withPins_foldl p (fun t (d : PointDue) => t.withPins_atPoint p d.tag d.point) _ s
  rw [takeOutstanding_eq, takeOutstanding_eq, hinfeed, hconfirm, hexpire, hpoints]

end State

end Sys2Proof.Machine
end

section
namespace Sys2Proof.Machine

/-! ## The cans not yet arrived (R1, R27) -/

/-- The EN_ROUTE entries, without the results written into them. -/
def State.waiting (s : State) : List Entry := (s.ctr.queue.map Entry.core).filter fun e => e.stage == .enRoute

/-- Every entry of a tag has arrived. -/
def State.pastCans (s : State) (tag : Tag) : Prop := ∀ e ∈ s.ctr.queue, e.tag = tag → e.stage ≠ .enRoute

theorem State.waiting_head (s : State) : s.waiting.head? = s.oldestEnRoute.map Entry.core := by
  rw [State.waiting, List.filter_map, List.head?_map, List.head?_filter]
  rfl

/-- The expiry of the oldest EN_ROUTE entry depends on the position and on the cans not yet arrived. -/
theorem State.expired_none_of {s t : State} (h : SameCourse s t) (hw : t.waiting = s.waiting)
    (hs : s.expired = none) : t.expired = none := by
  have hhead : t.oldestEnRoute.map Entry.core = s.oldestEnRoute.map Entry.core := by
    rw [← State.waiting_head, ← State.waiting_head, hw]
  rw [State.expired, Option.filter_eq_none_iff] at hs ⊢
  intro e he
  rw [he, Option.map_some, eq_comm, Option.map_eq_some_iff] at hhead
  obtain ⟨x, hx, hxe⟩ := hhead
  have hexp : s.expiryPos x = t.expiryPos e := by
    rw [State.expiryPos, State.expiryPos, State.arrivalTolerance, State.arrivalTolerance, h.setup]
    have hpos : x.core.expected = e.core.expected := by rw [hxe]
    exact congrArg (· + dist (setupNum s.setup 8 2) + 1) hpos
  rw [h.position, ← hexp]
  exact hs x hx

theorem State.pastCans_iff (s : State) (tag : Tag) :
    s.pastCans tag ↔ ∀ e ∈ s.ctr.queue.map Entry.core, e.tag = tag → e.stage ≠ .enRoute := by
  simp only [State.pastCans, List.forall_mem_map]
  rfl

theorem Act.pastCans {T : Tag → Prop} {s t : State} (h : Act T s t) {tag : Tag} (hs : s.pastCans tag) :
    t.pastCans tag := by
  cases h with
  | same h => rwa [State.pastCans_iff, h.queue, ← State.pastCans_iff]
  | mark m hT f hf =>
    intro e he htag
    obtain ⟨x, hx, rfl⟩ := List.mem_map.mp he
    by_cases hm : (x.tag == m) = true
    · rw [if_pos hm]
      exact (hf x).2.2
    · rw [if_neg hm] at htag ⊢
      exact hs x hx htag
  | leave e he hT =>
    intro x hx htag
    rw [State.unslot_ctr] at hx
    exact hs x (List.mem_of_mem_filter hx) htag
  | _ => exact hs

/-- What happens to cans that have arrived leaves the others where they are. -/
theorem Act.waiting {T : Tag → Prop} {s t : State} (h : Act T s t) (hs : ∀ tag, T tag → s.pastCans tag) :
    t.waiting = s.waiting := by
  cases h with
  | same h => rw [State.waiting, h.queue, State.waiting]
  | mark m hT f hf =>
    simp only [State.waiting, State.onEntry, State.onCtr, List.filter_map, List.map_map]
    have hstage : ∀ x ∈ s.ctr.queue, x.tag = m →
        (f x).core.stage ≠ .enRoute ∧ x.core.stage ≠ .enRoute := fun x hx hxm =>
      ⟨(hf x).2.2, hs m hT x hx hxm⟩
    have hfilter : s.ctr.queue.filter ((fun e : Entry => e.stage == .enRoute) ∘
        (Entry.core ∘ fun e => if e.tag == m then f e else e)) =
        s.ctr.queue.filter ((fun e : Entry => e.stage == .enRoute) ∘ Entry.core) := by
      refine List.filter_congr fun x hx => ?_
      by_cases hxm : x.tag = m
      · obtain ⟨h1, h2⟩ := hstage x hx hxm
        simp [hxm, h1, h2]
      · simp [hxm]
    rw [hfilter]
    refine List.map_congr_left fun x hx => ?_
    obtain ⟨hx, hstage'⟩ := List.mem_filter.mp hx
    have hxm : x.tag ≠ m := fun hxm => (hstage x hx hxm).2 (by simpa using hstage')
    simp [hxm]
  | leave e he hT =>
    simp only [State.waiting, State.unslot_ctr, State.dropped, List.filter_map, List.filter_filter]
    refine congrArg _ (List.filter_congr fun x hx => ?_)
    by_cases hxe : x.tag = e.tag
    · have := hs _ hT x hx hxe
      have : x.core.stage ≠ .enRoute := this
      simp [this]
    · simp [hxe]
  | _ => rfl

theorem Acts.pastCans {T : Tag → Prop} {s t : State} (h : Acts T s t) {tag : Tag} (hs : s.pastCans tag) :
    t.pastCans tag := by
  induction h with
  | refl => exact hs
  | tail _ h ih => exact h.pastCans ih

theorem Acts.waiting {T : Tag → Prop} {s t : State} (h : Acts T s t) (hs : ∀ tag, T tag → s.pastCans tag) :
    t.waiting = s.waiting := by
  induction h with
  | refl => rfl
  | tail g h ih => exact (h.waiting fun tag hT => Acts.pastCans g (hs tag hT)).trans ih

/-- A point of a can that has arrived brings no expiry. -/
theorem State.expired_point {s : State} {tag : Tag} (hpast : s.pastCans tag) (hs : s.expired = none) (p : Point) :
    (p.act s tag).expired = none := by
  have h : Acts (Eq tag) s (p.act s tag) := Acts.point .refl p rfl
  exact State.expired_none_of h.course (h.waiting fun _ ht => ht ▸ hpast) hs

/-! ## Arrivals -/

theorem State.addEntry_pastCans {s : State} {e : Entry} (he : e.stage ≠ .enRoute) {tag : Tag} (hs : s.pastCans tag) :
    (s.addEntry e).pastCans tag := by
  intro x hx htag
  rw [State.addEntry_ctr] at hx
  rcases List.mem_cons.mp ((insertEntry_perm _ _).mem_iff.mp hx) with rfl | hx
  · exact he
  · exact hs x hx htag

theorem State.strayArrives_pastCans (s : State) (q : Pos) {tag : Tag} (hs : s.pastCans tag) :
    (s.strayArrives q).pastCans tag := by
  by_cases h : s.ctr.queue.length < 256
  · rw [State.strayArrives_room h]
    exact (s.stray_acts (s.strayEntry q) _ _).pastCans (State.addEntry_pastCans (e := s.strayEntry q) nofun hs)
  · unfold State.strayArrives
    rw [if_neg h]
    exact (Act.same (T := AnyCan) s.untracked_sameCans).pastCans hs

/-- A can that has arrived has arrived, whatever arrives after it. -/
theorem State.infeedArrives_pastCans (s : State) (q : Pos) {tag : Tag} (hs : s.pastCans tag) :
    (s.infeedArrives q).pastCans tag := by
  have hb : ∀ c, (s.bump c).pastCans tag := fun c => hs
  unfold State.infeedArrives
  split
  · exact hb _
  · dsimp only
    split
    · exact State.strayArrives_pastCans _ q (hb _)
    · split
      · rename_i e he _
        exact (State.pair_acts (s.bump .arrivals) (List.mem_of_find?_eq_some he) q).pastCans (hb _)
      · exact State.strayArrives_pastCans _ q (hb _)

/-! ## What is outstanding, taken in order (log 6) -/

theorem State.expired_mem {s : State} {e : Entry} (h : s.expired = some e) : e ∈ s.ctr.queue :=
  List.mem_of_find?_eq_some (Option.filter_eq_some_iff.mp h).1

/-- An expiry leaves fewer entries. -/
theorem State.expire_length {s : State} {e : Entry} (he : e ∈ s.ctr.queue) :
    (s.expire e).ctr.queue.length < s.ctr.queue.length := by
  have hsame : SameCans (s.retire .missing e.tag) (s.expire e) :=
    SameCans.raiseSlip (((SameCans.refl _).bump _).countValve _ _ fun _ => rfl)
  have hlen := congrArg List.length hsame.queue
  rw [List.length_map, List.length_map, State.retire_queue] at hlen
  rw [hlen]
  refine lt_of_le_of_ne (List.length_filter_le _ _) fun h => ?_
  have := List.length_filter_eq_length_iff.mp h e he
  simp at this

/-- As many expiries are taken as there are, whatever the bound above their number. -/
theorem State.expireAll_enough (n : Nat) : ∀ (s : State) (m : Nat), s.ctr.queue.length ≤ n → n ≤ m →
    s.expireAll m = s.expireAll n ∧ (s.expireAll n).expired = none := by
  induction n with
  | zero =>
    intro s m h _
    have hq : s.ctr.queue = [] := List.eq_nil_of_length_eq_zero (Nat.le_zero.mp h)
    have hnone : s.expired = none := by rw [State.expired, State.oldestEnRoute, hq]; rfl
    rw [State.expireAll_none hnone, State.expireAll_none hnone]
    exact ⟨rfl, hnone⟩
  | succ n ih =>
    intro s m h hm
    obtain ⟨m, rfl⟩ : ∃ k, m = k + 1 := ⟨m - 1, by omega⟩
    cases hs : s.expired with
    | none =>
      rw [State.expireAll_none hs, State.expireAll_none hs]
      exact ⟨rfl, hs⟩
    | some e =>
      have hlen := State.expire_length (State.expired_mem hs)
      simp only [State.expireAll, hs]
      exact ih (s.expire e) m (by omega) (by omega)

theorem State.takeExpiries_expired (s : State) : s.takeExpiries.expired = none :=
  (State.expireAll_enough _ s _ le_rfl le_rfl).2

/-- The first expiry is taken, then the others. -/
theorem State.takeExpiries_some {s : State} {e : Entry} (h : s.expired = some e) :
    s.takeExpiries = (s.expire e).takeExpiries := by
  have hlen := State.expire_length (State.expired_mem h)
  obtain ⟨n, hn⟩ : ∃ n, s.ctr.queue.length = n + 1 := ⟨s.ctr.queue.length - 1, by omega⟩
  rw [State.takeExpiries, hn, State.expireAll, h]
  exact (State.expireAll_enough _ (s.expire e) n le_rfl (by omega)).1

theorem State.takeExpiries_none {s : State} (h : s.expired = none) : s.takeExpiries = s :=
  State.expireAll_none h _

theorem SameCourse.pointsDue_mem {s t : State} (h : SameCourse s t) {d : PointDue} (hd : d ∈ t.ctr.pointsDue) :
    d ∈ s.ctr.pointsDue := by
  obtain ⟨stays, hp⟩ := h.points
  rw [hp] at hd
  exact List.mem_of_mem_filter hd

/-- The points due are those of cans that have arrived. -/
def State.pointsPast (s : State) : Prop := ∀ d ∈ s.ctr.pointsDue, s.pastCans d.tag

theorem State.takePoints_expired {s : State} (hp : s.sup.phase = .running) (hpast : s.pointsPast)
    (hs : s.expired = none) : s.takePoints.expired = none := by
  refine (State.takePoints_keeps (P := fun u => u.pointsPast ∧ u.expired = none) ?_ s hp ⟨hpast, hs⟩).1.2
  rintro u d rest _ hd ⟨hu, he⟩
  have hacts : Acts (Eq d.tag) (u.onCtr fun c => { c with pointsDue := rest })
      (d.point.act (u.onCtr fun c => { c with pointsDue := rest }) d.tag) := Acts.point .refl d.point rfl
  refine ⟨fun x hx => ?_, State.expired_point (s := u.onCtr fun c => { c with pointsDue := rest }) ?_ he d.point⟩
  · refine hacts.pastCans (hu x ?_)
    rw [hd]
    exact List.mem_cons_of_mem _ (hacts.course.pointsDue_mem hx)
  · exact hu d (hd ▸ List.mem_cons_self)

/-- With the points of cans that have arrived, nothing expired stays behind. -/
theorem State.takeOutstanding_expired {s : State} (hp : s.sup.phase = .running) (hpast : s.pointsPast) :
    s.takeOutstanding.expired = none := by
  have hin : s.takeInfeed.pointsPast :=
    (State.takeInfeed_keeps (P := State.pointsPast) (fun u q rest _ hu d hd =>
      State.infeedArrives_pastCans (u.onCtr fun c => { c with infeedDue := rest }) q
        (hu d ((State.infeedArrives_course (u.onCtr fun c => { c with infeedDue := rest }) q).pointsDue_mem hd)))
      s hpast).1
  have hacts : ∀ {u v : State}, Acts AnyCan u v → u.pointsPast → v.pointsPast := fun h hu d hd =>
    h.pastCans (hu d (h.course.pointsDue_mem hd))
  have hconf : s.takeInfeed.takeConfirm.pointsPast :=
    (State.takeConfirm_keeps (P := State.pointsPast) (fun u y rest _ hu =>
      hacts (Acts.confirmArrives (t := u.onCtr fun c => { c with confirmDue := rest }) .refl anyCan y) hu) _ hin).1
  have hexp : s.takeInfeed.takeConfirm.takeExpiries.pointsPast := hacts (Acts.expireAll .refl anyCan _) hconf
  exact State.takePoints_expired (State.takeExpiries_stand hp).2 hexp (State.takeExpiries_expired _)

/-- In order, the points due are those of cans that have arrived. -/
theorem State.cansInOrder.pointsPast {s : State} (hs : s.cansInOrder) (hb : s.booksAgree) : s.pointsPast := by
  obtain ⟨_, _, _, _, _, _, hdue, _⟩ := hs
  obtain ⟨_, hnd, _⟩ := hb
  intro d hd x hx hxd
  obtain ⟨e, he, hed, hstage, _⟩ := hdue d hd
  have hxe : x = e := List.inj_on_of_nodup_map hnd hx he (congrArg tagIndex (hxd.trans hed.symm))
  exact hxe ▸ hstage

end Sys2Proof.Machine
end

section
namespace Sys2Proof.Machine

/-! ## The first thing outstanding, and the rest after it (log 6) -/

/-- What is first among what is outstanding. -/
theorem State.firstOutstanding_cases {s : State} {first : Instr} (h : s.firstOutstanding = some first) :
    (∃ q rest, s.ctr.infeedDue = q :: rest ∧ first = .infeedArrival) ∨
    (s.ctr.infeedDue = [] ∧ ∃ y rest, s.ctr.confirmDue = y :: rest ∧ first = .confirmArrival) ∨
    (s.ctr.infeedDue = [] ∧ s.ctr.confirmDue = [] ∧ ∃ e, s.expired = some e ∧ first = .missingExpiry) ∨
    (s.ctr.infeedDue = [] ∧ s.ctr.confirmDue = [] ∧ s.expired = none ∧
      ∃ d rest, s.ctr.pointsDue = d :: rest ∧ first = d.point.command d.tag) := by
  unfold State.firstOutstanding at h
  cases hi : s.ctr.infeedDue with
  | cons q rest => exact .inl ⟨q, rest, rfl, by simpa [hi] using h.symm⟩
  | nil =>
    cases hc : s.ctr.confirmDue with
    | cons y rest => exact .inr (.inl ⟨rfl, y, rest, rfl, by simpa [hi, hc] using h.symm⟩)
    | nil =>
      cases he : s.expired with
      | some e => exact .inr (.inr (.inl ⟨rfl, rfl, e, rfl, by simpa [hi, hc, he] using h.symm⟩))
      | none =>
        cases hd : s.ctr.pointsDue with
        | nil => simp [hi, hc, he, hd] at h
        | cons d rest => exact .inr (.inr (.inr ⟨rfl, rfl, rfl, d, rest, rfl, by simpa [hi, hc, he, hd] using h.symm⟩))

/-- The first thing outstanding is taken by its command, and then the rest are taken as they would have been. -/
theorem State.takeOutstanding_first {s t : State} {first : Instr} (hp : s.sup.phase = .running)
    (hs : s.expired = none → s.booksAgree ∧ s.cansInOrder) (hf : s.firstOutstanding = some first)
    (ht : exec first s = .next t) : SameStand s t ∧ s.takeOutstanding = t.takeOutstanding := by
  have htaking : s.taking = true := by simp [State.taking, hp]
  rw [State.takeOutstanding_eq, State.takeOutstanding_eq]
  rcases State.firstOutstanding_cases hf with ⟨q, rest, hi, rfl⟩ | ⟨hi, y, rest, hc, rfl⟩ | ⟨hi, hc, e, he, rfl⟩ |
    ⟨hi, hc, he, d, rest, hd, rfl⟩
  · have hexec : exec .infeedArrival s = .next ((s.onCtr fun c => { c with infeedDue := rest }).infeedArrives q) :=
      execInfeedArrival_eq hp hi
    cases hexec.symm.trans ht
    have hcourse := State.infeedArrives_course (s.onCtr fun c => { c with infeedDue := rest }) q
    exact ⟨{ hcourse.stand with }, by rw [State.takeInfeed_cons hi]⟩
  · have hexec : exec .confirmArrival s = .next ((s.onCtr fun c => { c with confirmDue := rest }).confirmArrives y) := by
      rw [exec, execConfirmArrival, htaking, hc]
    cases hexec.symm.trans ht
    have hcourse := State.confirmArrives_course (s.onCtr fun c => { c with confirmDue := rest }) y
    refine ⟨{ hcourse.stand with }, ?_⟩
    rw [State.takeInfeed_nil hi, State.takeInfeed_nil (hcourse.infeedDue.trans hi), State.takeConfirm_cons hc]
  · have hexec : exec .missingExpiry s = .next (s.expire e) := by
      rw [exec, execMissingExpiry, htaking, he]
    cases hexec.symm.trans ht
    have hcourse : SameCourse s (s.expire e) := (Acts.expire .refl (anyCan _)).course
    refine ⟨hcourse.stand, ?_⟩
    rw [State.takeInfeed_nil hi, State.takeInfeed_nil (hcourse.infeedDue.trans hi), State.takeConfirm_nil hc,
      State.takeConfirm_nil (hcourse.confirmDue.trans hc), State.takeExpiries_some he]
  · obtain ⟨hbooks, horder⟩ := hs he
    have hpast : s.pastCans d.tag := horder.pointsPast hbooks d (hd ▸ List.mem_cons_self)
    rw [Point.exec_command, State.atPoint_head hp hd] at ht
    cases ht
    have hcourse := State.point_course (s.onCtr fun c => { c with pointsDue := rest }) d.point d.tag
    have hstill := State.expired_point (s := s.onCtr fun c => { c with pointsDue := rest }) hpast he d.point
    refine ⟨{ hcourse.stand with }, ?_⟩
    rw [State.takeInfeed_nil hi, State.takeInfeed_nil (hcourse.infeedDue.trans hi), State.takeConfirm_nil hc,
      State.takeConfirm_nil (hcourse.confirmDue.trans hc), State.takeExpiries_none he,
      State.takeExpiries_none hstill, State.takePoints_cons hp hd]

/-! ## The encoder (R8 to R10) -/

/-- A change of the encoder lines reads the state that is left once nothing is outstanding, and the old levels. -/
theorem State.encoderChange_congr {s t : State} (a b : Bool) (hpins : t.pins = s.pins)
    (h : s.takeOutstanding = t.takeOutstanding) : s.encoderChange a b = t.encoderChange a b := by
  have hs : ∀ u : State, (u.onPins fun p => { p with encA := a, encB := b }) =
      u.withPins { u.pins with encA := a, encB := b } := fun _ => rfl
  rw [State.encoderChange, State.encoderChange, hs, hs, State.withPins_takeOutstanding,
    State.withPins_takeOutstanding, hpins, h]

theorem exec_encoderStep_first {s t : State} {first : Instr} {a b : Bool} (hp : s.sup.phase = .running)
    (hab : a ≠ s.pins.encA ∨ b ≠ s.pins.encB) (hs : s.expired = none → s.booksAgree ∧ s.cansInOrder)
    (hf : s.firstOutstanding = some first) (ht : exec first s = .next t) :
    exec (.encoderStep a b) s = exec (.encoderStep a b) t := by
  obtain ⟨hstand, htake⟩ := State.takeOutstanding_first hp hs hf ht
  rw [exec_encoderStep hp hab, exec_encoderStep (hstand.phase.trans hp) (by rwa [hstand.pins]),
    State.encoderChange_congr a b hstand.pins htake]

theorem State.trackingRuns_of {s : State} (h : s.ctr.run = .running) : s.trackingRuns = true := by
  simp [State.trackingRuns, h]

theorem State.trackingRuns_stopped {s : State} (h : s.ctr.run = .stopped) : s.trackingRuns = false := by
  simp [State.trackingRuns, h]

/-- A conveyor reversal fault before it is counted. -/
def State.reversed (s : State) : State :=
  ((s.flush).onCtr fun c => { c with run := .stopped }).addCause .conveyorReversed

theorem State.reversed_touches (s : State) :
    Touches (.sup :: flushParts) (.lineStopAdds :: flushCounts) s s.reversed := by
  have hflush : Touches (.sup :: flushParts) (.lineStopAdds :: flushCounts) s s.flush :=
    s.flush_touches.mono (List.subset_cons_self _ _) (List.subset_cons_self _ _)
  exact (hflush.onCtr _).addCause _

/-- A conveyor reversal fault empties the tracking and stops it (R10). -/
theorem State.reversalFault_ctr (s : State) :
    s.reversalFault.ctr = { s.ctr with queue := [], slipRun := 0, pointsDue := [], run := .stopped } := by
  rw [State.reversalFault, State.bump_ctr, State.addCause_ctr, State.onCtr_ctr, State.flush_ctr]

theorem State.reversalFault_gtc (s : State) : s.reversalFault.gtc = { s.gtc with rejects := [] } := by
  rw [State.reversalFault, State.bump_gtc, State.addCause_gtc, State.onCtr_gtc, State.flush_gtc]

theorem State.reversalFault_wge (s : State) : s.reversalFault.wge = { s.wge with records := [] } := by
  rw [State.reversalFault, State.bump_wge, State.addCause_wge, State.onCtr_wge, State.flush_wge]

theorem State.reversalFault_counter (s : State) :
    s.reversalFault.counter .reversalFaults = satInc (s.counter .reversalFaults) := by
  rw [State.reversalFault, State.counter_bump, if_pos rfl]
  exact congrArg satInc (s.reversed_touches.counts .reversalFaults (by decide))

theorem State.reversalFault_cause (s : State) : s.reversalFault.hasCause .conveyorReversed = true :=
  State.addCause_has (s.flush.onCtr fun c => { c with run := .stopped }) .conveyorReversed .conveyorReversed (.inl rfl)

/-- Settles O15. -/
theorem encoderStepsKeepReverseDebt : Obligations.EncoderStepsKeepReverseDebt := by
  refine ⟨fun a b s hp hn => ⟨exec_encoderStep_error hp hn, fun hf hdebt => ?_, fun hr hdebt => ?_,
    fun hr hdebt hrun => ?_, fun hr hdebt hrun => ?_⟩,
    fun a b s t first hp hab hs hf ht => exec_encoderStep_first hp hab hs hf ht⟩
  · rw [exec_encoderStep_forward hp hn hf, State.forwardStep, if_pos (by exact hdebt)]
    rfl
  · rw [exec_encoderStep_reverse hp hn hr, State.reverseStep, if_pos (by exact hdebt)]
    rfl
  · have hfull : ¬ (s.encoderAt a b).ctr.debt < 4095 := by
      change ¬ s.ctr.debt < 4095
      omega
    have hstop : ¬ (s.encoderAt a b).trackingRuns = true := by
      rw [State.trackingRuns_stopped (by exact hrun)]
      exact Bool.false_ne_true
    rw [exec_encoderStep_reverse hp hn hr, State.reverseStep, if_neg hfull, if_neg hstop]
    rfl
  · have hfull : ¬ (s.encoderAt a b).ctr.debt < 4095 := by
      change ¬ s.ctr.debt < 4095
      omega
    have hctr := (s.encoderAt a b).reversalFault_ctr
    rw [exec_encoderStep_reverse hp hn hr, State.reverseStep, if_neg hfull,
      if_pos (State.trackingRuns_of (by exact hrun))]
    refine ⟨_, rfl, by rw [hctr], by rw [hctr]; exact hdebt, by rw [hctr]; rfl, by rw [hctr], ?_, ?_, ?_, ?_, ?_, ?_⟩
    · rw [State.reversalFault_gtc]
    · rw [State.reversalFault_wge]
    · exact State.reversalFault_cause _
    · exact State.reversalFault_counter _
    · rw [State.reversalFault_gtc]
      rfl
    · have hfirst : Touches [.pins, .sup, .lif, .mga, .ctr, .wge, .gtc, .rcs, .counters]
          (.reversalFaults :: .lineStopAdds :: flushCounts) s (s.encoderAt a b) := (Touches.refl s).onPins _
      have hrest := (s.encoderAt a b).reversed_touches.mono
        (ps' := [.pins, .sup, .lif, .mga, .ctr, .wge, .gtc, .rcs, .counters])
        (cs' := .reversalFaults :: .lineStopAdds :: flushCounts) (by decide) (List.subset_cons_self _ _)
      exact ((hfirst.trans hrest).bump .reversalFaults).parts

end Sys2Proof.Machine
end

section
namespace Sys2Proof.Machine

/-! ## The eyes (R21, R23) -/

/-- The pin of an eye at its new level. -/
def State.eyeAt (s : State) : Eye → Bool → State
  | .infeed, level => s.withPins { s.pins with eyeIn := level }
  | .confirm, level => s.withPins { s.pins with eyeConf := level }

/-- The level of an eye's pin. -/
def State.eyeLevel (s : State) : Eye → Bool
  | .infeed => s.pins.eyeIn
  | .confirm => s.pins.eyeConf

/-- The command of a change at an eye. -/
def Eye.change (level : Bool) : Eye → Instr
  | .infeed => .infeedEyeChange level
  | .confirm => .confirmEyeChange level

theorem exec_eyeChange {s : State} {eye : Eye} {level : Bool} (hp : s.sup.phase = .running)
    (hl : level ≠ s.eyeLevel eye) : exec (eye.change level) s = .next ((s.eyeAt eye level).eyeChanged eye) := by
  have htake : (s.taking && level != s.eyeLevel eye) = true := by simp [State.taking, hp, hl]
  cases eye
  · exact congrArg Host.Outcome.next (if_pos htake)
  · exact congrArg Host.Outcome.next (if_pos htake)

/-- Where the blocking is no arrival, or nothing waits, only the eye's monitor moves. -/
theorem State.eyeChanged_blocks {s : State} {eye : Eye} (hb : s.eyeBlocked eye = true)
    (h : 0 < s.minBlock ∨ (s.monitor eye).state ≠ .clear ∨ s.nothingOutstanding) :
    s.eyeChanged eye = s.eyeBlocks eye := by
  rw [State.eyeChanged, if_pos hb]
  split
  · rename_i hnow
    rcases h with h | h | h
    · omega
    · exact absurd hnow.2 h
    · rw [State.takeOutstanding_nothing h]
  · rfl

/-- The blocking is itself an arrival: what waits is taken first. -/
theorem State.eyeChanged_arrival {s : State} {eye : Eye} (hb : s.eyeBlocked eye = true) (hm : s.minBlock = 0)
    (hc : (s.monitor eye).state = .clear) : s.eyeChanged eye = s.takeOutstanding.eyeBlocks eye := by
  rw [State.eyeChanged, if_pos hb, if_pos ⟨hm, hc⟩]

theorem State.eyeChanged_clears {s : State} {eye : Eye} (hb : s.eyeBlocked eye = false) :
    s.eyeChanged eye = s.eyeClears eye := by
  rw [State.eyeChanged, if_neg (by rw [hb]; exact Bool.false_ne_true)]

/-- An eye that clears puts its monitor back, and a pending block was a splash. -/
theorem State.eyeClears_eq (s : State) (eye : Eye) : s.eyeClears eye =
    if (s.monitor eye).state = .pending then
      (s.setMonitor eye { s.monitor eye with state := .clear }).bump eye.splashCounter
    else s.setMonitor eye { s.monitor eye with state := .clear } := by
  unfold State.eyeClears
  cases h : (s.monitor eye).state with
  | clear =>
    have hm : { s.monitor eye with state := .clear } = s.monitor eye := by rw [← h]
    rw [hm]
    cases eye <;> rfl
  | pending => rfl
  | taken => rfl

section
variable {s : State} {eye : Eye} {level : Bool} (hp : s.sup.phase = .running) (hl : level ≠ s.eyeLevel eye)
  (hb : (s.eyeAt eye level).eyeBlocked eye = true) (hm : s.minBlock = 0) (hc : (s.monitor eye).state = .clear)
include hp hl hb hm hc

/-- The blocking as an arrival, taken on the state that has nothing outstanding. -/
theorem exec_eyeChange_arrival :
    exec (eye.change level) s = .next ((s.eyeAt eye level).takeOutstanding.eyeBlocks eye) := by
  rw [exec_eyeChange hp hl]
  cases eye
  · exact congrArg Host.Outcome.next (State.eyeChanged_arrival hb hm hc)
  · exact congrArg Host.Outcome.next (State.eyeChanged_arrival hb hm hc)

theorem exec_eyeChange_first {t : State} {first : Instr} (hs : s.expired = none → s.booksAgree ∧ s.cansInOrder)
    (hf : s.firstOutstanding = some first) (ht : exec first s = .next t) :
    exec (eye.change level) s = exec (eye.change level) t := by
  obtain ⟨hstand, htake⟩ := State.takeOutstanding_first hp hs hf ht
  obtain ⟨hphase, hsetup, hpins, _, hinfeed, hconfirm, _⟩ := hstand
  have hm' : t.minBlock = 0 := by rw [State.minBlock, hsetup]; exact hm
  rw [exec_eyeChange_arrival hp hl hb hm hc]
  cases eye
  · have hb' : (t.eyeAt .infeed level).eyeBlocked .infeed = true := by
      rw [State.eyeAt, State.eyeBlocked, State.infeedBlocked, State.infeedBlockedLow, State.withPins_setup, hpins, hsetup]
      exact hb
    rw [exec_eyeChange_arrival (hphase.trans hp) (by rw [State.eyeLevel, hpins]; exact hl) hb' hm'
      (by rw [State.monitor, hinfeed]; exact hc), State.eyeAt, State.eyeAt, State.withPins_takeOutstanding,
      State.withPins_takeOutstanding, hpins, htake]
  · have hb' : (t.eyeAt .confirm level).eyeBlocked .confirm = true := by
      rw [State.eyeAt, State.eyeBlocked, State.confirmBlocked, State.confirmBlockedLow, State.withPins_setup, hpins,
        hsetup]
      exact hb
    rw [exec_eyeChange_arrival (hphase.trans hp) (by rw [State.eyeLevel, hpins]; exact hl) hb' hm'
      (by rw [State.monitor, hconfirm]; exact hc), State.eyeAt, State.eyeAt, State.withPins_takeOutstanding,
      State.withPins_takeOutstanding, hpins, htake]

end

/-- The arrivals that a blocking at distance 0 leaves waiting. -/
def Eye.arrivals (x : Pos) : Eye → List Pos × List Pos
  | .infeed => ([x], [])
  | .confirm => ([], [x])

/-- On a state with nothing outstanding a blocking at distance 0 is the one arrival that waits. -/
theorem State.eyeBlocks_alone {s : State} {eye : Eye} (hm : s.minBlock = 0) (hc : (s.monitor eye).state = .clear)
    (hi : s.ctr.infeedDue = []) (hd : s.ctr.confirmDue = []) :
    (s.eyeBlocks eye).ctr.position = s.ctr.position ∧
      ((s.eyeBlocks eye).ctr.infeedDue, (s.eyeBlocks eye).ctr.confirmDue) = eye.arrivals s.ctr.position ∧
      (s.eyeBlocks eye).ctr.pointsDue = s.ctr.pointsDue ∧ (s.eyeBlocks eye).expired = s.expired := by
  rw [State.eyeBlocks, if_neg (not_not.mpr hc), if_pos hm]
  cases eye
  · exact ⟨rfl, by simp [State.recognise, hi, hd, Eye.arrivals], rfl, rfl⟩
  · exact ⟨rfl, by simp [State.recognise, hi, hd, Eye.arrivals], rfl, rfl⟩

/-- A blocking at distance 0, whatever was outstanding. -/
theorem State.eyeBlocks_afterwards {s : State} {eye : Eye} (level : Bool) (hp : s.sup.phase = .running)
    (hm : s.minBlock = 0) (hc : (s.monitor eye).state = .clear) :
    let t := (s.eyeAt eye level).takeOutstanding.eyeBlocks eye
    t.ctr.position = s.ctr.position ∧ (t.ctr.infeedDue, t.ctr.confirmDue) = eye.arrivals s.ctr.position ∧
      t.ctr.pointsDue = [] ∧ (s.booksAgree → s.cansInOrder → t.expired = none) := by
  obtain ⟨p, hpins⟩ : ∃ p, s.eyeAt eye level = s.withPins p := by cases eye <;> exact ⟨_, rfl⟩
  have htake := s.withPins_takeOutstanding p
  obtain ⟨_, hsetup, _, hposition, hinfeed, hconfirm, _⟩ := State.takeOutstanding_stand hp
  have hclear : ((s.takeOutstanding.withPins p).monitor eye).state = .clear := by
    cases eye
    · exact (congrArg EyeMonitor.state hinfeed).trans hc
    · exact (congrArg EyeMonitor.state hconfirm).trans hc
  have hmin : (s.takeOutstanding.withPins p).minBlock = 0 := by
    rw [State.minBlock, State.withPins_setup, hsetup]
    exact hm
  obtain ⟨h1, h2, h3, h4⟩ := State.eyeBlocks_alone hmin hclear (State.takeOutstanding_infeedDue hp)
    (State.takeOutstanding_confirmDue hp)
  rw [State.withPins_ctr, hposition] at h1 h2
  rw [hpins, htake]
  exact ⟨h1, h2, h3.trans (State.takeOutstanding_pointsDue hp), fun hbooks horder =>
    h4.trans (State.takeOutstanding_expired hp (horder.pointsPast hbooks))⟩

/-- Settles O18. -/
theorem eyeChangesMoveTheMonitor : Obligations.EyeChangesMoveTheMonitor := by
  intro level s hp
  refine ⟨fun hl => ⟨fun hb h => ?_, fun hb => ?_⟩, fun hl => ⟨fun hb h => ?_, fun hb => ?_⟩,
    fun c arrivals hm hcase => ?_⟩
  · refine (exec_eyeChange (eye := .infeed) hp hl).trans (congrArg Host.Outcome.next ?_)
    rw [State.eyeChanged_blocks (s := s.eyeAt .infeed level) (eye := .infeed) hb h, State.eyeBlocks_infeed]
    rfl
  · refine (exec_eyeChange (eye := .infeed) hp hl).trans (congrArg Host.Outcome.next ?_)
    rw [State.eyeChanged_clears (s := s.eyeAt .infeed level) (eye := .infeed) hb, State.eyeClears_eq]
    rfl
  · refine (exec_eyeChange (eye := .confirm) hp hl).trans (congrArg Host.Outcome.next ?_)
    rw [State.eyeChanged_blocks (s := s.eyeAt .confirm level) (eye := .confirm) hb h, State.eyeBlocks_confirm]
    rfl
  · refine (exec_eyeChange (eye := .confirm) hp hl).trans (congrArg Host.Outcome.next ?_)
    rw [State.eyeChanged_clears (s := s.eyeAt .confirm level) (eye := .confirm) hb, State.eyeClears_eq]
    rfl
  · obtain ⟨eye, rfl, hl, hc, hb, rfl⟩ : ∃ eye : Eye, c = eye.change level ∧ level ≠ s.eyeLevel eye ∧
        (s.monitor eye).state = .clear ∧ (s.eyeAt eye level).eyeBlocked eye = true ∧
        arrivals = eye.arrivals s.ctr.position := by
      rcases hcase with h | h
      · exact ⟨.infeed, h⟩
      · exact ⟨.confirm, h⟩
    exact ⟨⟨_, exec_eyeChange_arrival hp hl hb hm hc, State.eyeBlocks_afterwards level hp hm hc⟩,
      fun hs t first hf ht => exec_eyeChange_first hp hl hb hm hc hs hf ht⟩

end Sys2Proof.Machine
end

section
/-!
One can: the points it has passed and those still to be taken, and what its stage, its record and its reject item say
of them (01 R6, R29, R30; 02 R41; 05 R111).
-/

namespace Sys2Proof.Machine

/-! ## Points passed and points taken -/

/-- The point `p` of an entry lies at or before the present position. -/
def State.passed (s : State) (e : Entry) (p : Point) : Prop :=
  ∃ o, s.pointOffset e p = some o ∧ o.toNat ≤ (s.ctr.position - e.q).toNat

/-- A point that has been passed and is not among those still to be taken. -/
def State.tookPoint (s : State) (e : Entry) (P : List Point) (p : Point) : Prop := s.passed e p ∧ p ∉ P

/-- `p` lies nearer than `r`. -/
def State.nearer (s : State) (e : Entry) (p r : Point) : Prop :=
  ∃ o o', s.pointOffset e p = some o ∧ s.pointOffset e r = some o' ∧ o.toNat < o'.toNat

/-- `p` comes before `r`: it lies nearer, or at one place in an earlier row of R29's table. -/
def State.precedes (s : State) (e : Entry) (p r : Point) : Prop :=
  ∀ o o', s.pointOffset e p = some o → s.pointOffset e r = some o' → Before (o, p) (o', r)

/-- The last point of an entry: with it the entry is gone. -/
def State.lastPoint (s : State) : Point := if s.confirmEnable then .confirmClose else .gate

/-- The points `P` still to be taken are those of an entry past EN_ROUTE, in their order, and the last is not taken. -/
structure OnRoute (s : State) (e : Entry) (P : List Point) : Prop where
  last : ¬ s.tookPoint e P s.lastPoint
  due : ∀ p ∈ P, s.passed e p
  behind : ∀ p ∈ P, ∀ r, s.nearer e p r → s.passed e r → r ∈ P
  sorted : P.Pairwise (s.precedes e)

/-- What the points `P` still to be taken, the windows `R` of its records and the fire positions `X` of its reject items
have to do with an entry past EN_ROUTE. -/
structure CanFits (s : State) (e : Entry) (P : List Point) (R : List WindowState) (X : List Pos) : Prop
    extends OnRoute s e P where
  decided : e.stage = .decided ∨ e.stage = .awaitingConfirm ↔ s.tookPoint e P .decision
  awaiting : e.stage = .awaitingConfirm ↔ s.tookPoint e P .gate
  windows : ∀ w ∈ R, e.slot ≠ none ∧ (w = .closed ↔ s.tookPoint e P .endOfWindow) ∧
    (w ≠ .closed → e.stage = .weighing)
  items : ∀ x ∈ X, e.stage = .decided ∧ e.decision = some .reject ∧ x = s.firePos e

/-- The points of an entry lie in the order that START_TRACKING and a recipe's verification demand. -/
structure Placed (s : State) (e : Entry) : Prop where
  gate : s.nearer e .decision .gate
  close : s.confirmEnable = true → s.nearer e .gate .confirmClose
  noClose : s.confirmEnable = false → s.pointOffset e .confirmClose = none
  window : e.slot ≠ none → s.nearer e .settle .endOfWindow ∧ s.nearer e .endOfWindow .decision
  ahead : ∀ p ∈ [Point.decision, .gate, .confirmClose], ∀ o, s.pointOffset e p = some o → 0 < o.toNat
  near : ∀ p o, s.pointOffset e p = some o → o.toNat < 2 ^ 30

/-! ## What the cans' points depend on -/

/-- The position, the placing of the points and a slot's recipe are the same. -/
structure SameGround (slot : Option SlotId) (s t : State) : Prop where
  setup : ∀ x ∈ placingFields, setupNum t.setup x.1 x.2 = setupNum s.setup x.1 x.2
  position : t.ctr.position = s.ctr.position
  image : ∀ k, slot = some k → t.image k = s.image k

theorem SameGround.refl (slot : Option SlotId) (s : State) : SameGround slot s s := ⟨fun _ _ => rfl, rfl, fun _ _ => rfl⟩

theorem SameCourse.ground {s t : State} (h : SameCourse s t) (slot : Option SlotId) : SameGround slot s t :=
  ⟨fun _ _ => by rw [h.setup], h.position, fun k _ => (h.slots k).1⟩

/-- Each placing field by the name the model gives it. -/
theorem SameGround.fields {slot : Option SlotId} {s t : State} (h : SameGround slot s t) :
    t.readOffset = s.readOffset ∧ t.decisionOffset = s.decisionOffset ∧ t.gatePosition = s.gatePosition ∧
      t.actuatorLead = s.actuatorLead ∧ t.confirmEnable = s.confirmEnable ∧ t.confirmOffset = s.confirmOffset ∧
      t.confirmTolerance = s.confirmTolerance :=
  ⟨h.setup (14, 2) (by decide), h.setup (16, 2) (by decide), h.setup (18, 2) (by decide), h.setup (20, 2) (by decide),
    congrArg (· == 1) (h.setup (22, 1) (by decide)), h.setup (23, 2) (by decide), h.setup (25, 2) (by decide)⟩

section
variable {s t : State} {e x : Entry} (hg : SameGround e.slot s t)
include hg

theorem SameGround.lastPoint : t.lastPoint = s.lastPoint := by
  obtain ⟨_, _, _, _, hc, _⟩ := hg.fields
  rw [State.lastPoint, hc, State.lastPoint]

theorem SameGround.firePos (hq : x.infeedPos = e.infeedPos) : t.firePos x = s.firePos e := by
  obtain ⟨_, _, hgate, hlead, _⟩ := hg.fields
  rw [State.firePos, hgate, hlead, Entry.q, hq, State.firePos, Entry.q]

variable (hslot : x.slot = e.slot)
include hslot

theorem pointOffset_congr (p : Point) : t.pointOffset x p = s.pointOffset e p := by
  obtain ⟨hread, hdec, hgate, hlead, hc, hoff, htol⟩ := hg.fields
  have himg : ∀ f : Image → Pos, (x.slot.map fun k => f (t.image k)) = e.slot.map fun k => f (s.image k) := fun f => by
    rw [hslot]
    exact Option.map_congr fun k hk => by rw [hg.image k hk]
  cases p
  case readTrigger => rw [State.pointOffset, hread, State.pointOffset]
  case platformEntry => exact himg fun img => dist img.entryOffset
  case settle => exact himg fun img => dist img.settleOffset
  case endOfWindow => exact himg fun img => dist img.endOffset
  case exit => exact himg fun img => dist img.exitOffset
  case decision => rw [State.pointOffset, hdec, State.pointOffset]
  case gate => rw [State.pointOffset, hgate, hlead, State.pointOffset]
  case confirmClose => rw [State.pointOffset, hc, hoff, htol, State.pointOffset]

theorem nearer_congr (p r : Point) : t.nearer x p r ↔ s.nearer e p r := by
  simp only [State.nearer, pointOffset_congr hg hslot]

theorem precedes_congr (p r : Point) : t.precedes x p r ↔ s.precedes e p r := by
  simp only [State.precedes, pointOffset_congr hg hslot]

theorem placed_congr (h : Placed s e) : Placed t x := by
  obtain ⟨_, _, _, _, hc, _⟩ := hg.fields
  obtain ⟨h1, h2, h3, h4, h6, h7⟩ := h
  constructor
  · rwa [nearer_congr hg hslot]
  · rwa [nearer_congr hg hslot, hc]
  · rwa [pointOffset_congr hg hslot, hc]
  · rwa [nearer_congr hg hslot, nearer_congr hg hslot, hslot]
  · simpa only [pointOffset_congr hg hslot] using h6
  · simpa only [pointOffset_congr hg hslot] using h7

variable (hq : x.infeedPos = e.infeedPos)
include hq

theorem passed_congr (p : Point) : t.passed x p ↔ s.passed e p := by
  simp only [State.passed, pointOffset_congr hg hslot, hg.position, Entry.q, hq]

theorem tookPoint_congr (P : List Point) (p : Point) : t.tookPoint x P p ↔ s.tookPoint e P p := by
  rw [State.tookPoint, passed_congr hg hslot hq, State.tookPoint]

theorem onRoute_congr {P : List Point} (h : OnRoute s e P) : OnRoute t x P where
  last := by rw [hg.lastPoint, tookPoint_congr hg hslot hq]; exact h.last
  due p hp := (passed_congr hg hslot hq p).mpr (h.due p hp)
  behind p hp r hn hr := h.behind p hp r ((nearer_congr hg hslot p r).mp hn) ((passed_congr hg hslot hq r).mp hr)
  sorted := h.sorted.imp fun {p r} hp => (precedes_congr hg hslot p r).mpr hp

/-- An entry on its route, whatever its stage and its decision have become. -/
theorem OnRoute.fits {P : List Point} {R : List WindowState} {X : List Pos} (h : OnRoute s e P)
    (hdecided : x.stage = .decided ∨ x.stage = .awaitingConfirm ↔ s.tookPoint e P .decision)
    (hawaiting : x.stage = .awaitingConfirm ↔ s.tookPoint e P .gate)
    (hR : ∀ w ∈ R, e.slot ≠ none ∧ (w = .closed ↔ s.tookPoint e P .endOfWindow) ∧ (w ≠ .closed → x.stage = .weighing))
    (hX : ∀ y ∈ X, x.stage = .decided ∧ x.decision = some .reject ∧ y = s.firePos e) : CanFits t x P R X where
  toOnRoute := onRoute_congr hg hslot hq h
  decided := by rw [tookPoint_congr hg hslot hq]; exact hdecided
  awaiting := by rw [tookPoint_congr hg hslot hq]; exact hawaiting
  windows w hw := by rw [hslot, tookPoint_congr hg hslot hq]; exact hR w hw
  items y hy := by rw [hg.firePos hq]; exact hX y hy

/-- What fits an entry fits it wherever its ground, its stage and its decision are the same. -/
theorem canFits_congr {P : List Point} {R : List WindowState} {X : List Pos} (hstage : x.stage = e.stage)
    (hdec : x.decision = e.decision) (h : CanFits s e P R X) : CanFits t x P R X :=
  h.toOnRoute.fits hg hslot hq (by rw [hstage]; exact h.decided) (by rw [hstage]; exact h.awaiting)
    (by rw [hstage]; exact h.windows) (by rw [hstage, hdec]; exact h.items)

end

/-! ## Points in order -/

section
variable {s : State} {e : Entry}

theorem State.nearer.passed {p r : Point} (h : s.nearer e p r) (hr : s.passed e r) : s.passed e p := by
  obtain ⟨o, o', ho, ho', hlt⟩ := h
  obtain ⟨o'', ho'', hle⟩ := hr
  rw [ho'] at ho''
  cases ho''
  exact ⟨o, ho, by omega⟩

theorem State.nearer.ne {p r : Point} (h : s.nearer e p r) : p ≠ r := by
  rintro rfl
  obtain ⟨o, o', ho, ho', hlt⟩ := h
  rw [ho] at ho'
  cases ho'
  exact lt_irrefl _ hlt

theorem State.nearer.trans {p q r : Point} (h : s.nearer e p q) (g : s.nearer e q r) : s.nearer e p r := by
  obtain ⟨o, o', ho, ho', hlt⟩ := h
  obtain ⟨x, y, hx, hy, hlt'⟩ := g
  rw [ho'] at hx
  cases hx
  exact ⟨o, y, ho, hy, by omega⟩

/-- Nothing that precedes another lies farther. -/
theorem State.precedes.not_nearer {p r : Point} (h : s.precedes e p r) : ¬ s.nearer e r p := by
  rintro ⟨o, o', ho, ho', hlt⟩
  rcases h o' o ho' ho with hb | ⟨hb, _⟩
  · simp only at hb
    omega
  · simp only at hb
    rw [hb] at hlt
    exact lt_irrefl _ hlt

theorem State.tookPoint_tail {p r : Point} (P : List Point) (hr : r ≠ p) :
    s.tookPoint e P r ↔ s.tookPoint e (p :: P) r := by simp [State.tookPoint, hr]

namespace OnRoute

variable {p : Point} {P : List Point} (h : OnRoute s e (p :: P))
include h

theorem head_passed : s.passed e p := h.due p List.mem_cons_self

theorem head_precedes {r : Point} (hr : r ∈ P) : s.precedes e p r := (List.pairwise_cons.mp h.sorted).1 r hr

theorem head_notMem : p ∉ P := fun hp => by
  obtain ⟨o, ho, _⟩ := h.head_passed
  rcases h.head_precedes hp o o ho ho with hb | ⟨_, hb⟩
  · exact lt_irrefl _ hb
  · exact lt_irrefl _ hb

/-- What lies nearer than the first point to be taken has been taken. -/
theorem nearer_took {r : Point} (hn : s.nearer e r p) : s.tookPoint e (p :: P) r := by
  refine ⟨hn.passed h.head_passed, fun hr => ?_⟩
  rcases List.mem_cons.mp hr with rfl | hr
  · exact hn.ne rfl
  · exact (h.head_precedes hr).not_nearer hn

/-- What lies farther than a point to be taken has not been taken. -/
theorem farther_not {r : Point} (hn : s.nearer e p r) : ¬ s.tookPoint e (p :: P) r := fun hr =>
  hr.2 (h.behind p List.mem_cons_self r hn hr.1)

theorem took_head : s.tookPoint e P p := ⟨h.head_passed, h.head_notMem⟩

theorem tail (hp : s.lastPoint ≠ p) : OnRoute s e P where
  last := by rw [State.tookPoint_tail P hp]; exact h.last
  due r hr := h.due r (List.mem_cons_of_mem _ hr)
  behind q hq r hn hr := by
    rcases List.mem_cons.mp (h.behind q (List.mem_cons_of_mem _ hq) r hn hr) with rfl | hr
    · exact absurd hn (h.head_precedes hq).not_nearer
    · exact hr
  sorted := (List.pairwise_cons.mp h.sorted).2

end OnRoute

theorem State.lastPoint_ne {p : Point} (hc : p ≠ .confirmClose) (hg : p ≠ .gate) : s.lastPoint ≠ p := by
  unfold State.lastPoint
  split
  · exact hc.symm
  · exact hg.symm

/-! ## The points taken, one by one -/

section
variable {P : List Point} {R : List WindowState} {X : List Pos}

/-- Records and items may go. -/
theorem CanFits.fewer {R' : List WindowState} {X' : List Pos} (h : CanFits s e P R X) (hR : R' ⊆ R) (hX : X' ⊆ X) :
    CanFits s e P R' X' :=
  { h with windows := fun w hw => h.windows w (hR hw), items := fun x hx => h.items x (hX hx) }

/-- A point that no stage turns on. -/
theorem CanFits.pass {p : Point} (h : CanFits s e (p :: P) R X)
    (hp : p ≠ .decision ∧ p ≠ .gate ∧ p ≠ .confirmClose ∧ p ≠ .endOfWindow) : CanFits s e P R X := by
  obtain ⟨hd, hg, hc, he⟩ := hp
  exact {
    toOnRoute := h.tail (State.lastPoint_ne hc hg)
    decided := by rw [State.tookPoint_tail P hd.symm]; exact h.decided
    awaiting := by rw [State.tookPoint_tail P hg.symm]; exact h.awaiting
    windows := fun w hw => by rw [State.tookPoint_tail P he.symm]; exact h.windows w hw
    items := h.items }

/-- The settle point opens the windows: the end point comes after it (R45). -/
theorem CanFits.settled (h : CanFits s e (.settle :: P) R X) (hpl : Placed s e) :
    CanFits s e P (R.map fun _ => .opened) X := by
  refine { h.pass (by decide) with windows := fun w hw => ?_ }
  obtain ⟨v, hv, rfl⟩ := List.mem_map.mp hw
  obtain ⟨hslot, hclosed, hopen⟩ := h.windows v hv
  have hnot : ¬ s.tookPoint e (.settle :: P) .endOfWindow := h.farther_not (hpl.window hslot).1
  refine ⟨hslot, ?_, fun _ => hopen fun hc => hnot (hclosed.mp hc)⟩
  rw [State.tookPoint_tail (p := .settle) P (by decide)]
  exact ⟨nofun, fun ht => absurd ht hnot⟩

variable {x : Entry} (hslot : x.slot = e.slot) (hq : x.infeedPos = e.infeedPos)
include hslot hq

/-- A weigh result is written into an entry that is not yet decided and has no open window. -/
theorem CanFits.weighed (h : CanFits s e P R X) (hstage : x.stage = .awaitingDecision)
    (hbefore : e.stage = .weighing ∨ e.stage = .awaitingDecision) (hR : ∀ w ∈ R, w = .closed) :
    CanFits s x P R X := by
  have hne : e.stage ≠ .decided ∧ e.stage ≠ .awaitingConfirm := by
    rcases hbefore with hb | hb <;> rw [hb] <;> decide
  have hnd : ¬ s.tookPoint e P .decision := fun ht => (h.decided.mpr ht).elim hne.1 hne.2
  have hng : ¬ s.tookPoint e P .gate := fun ht => hne.2 (h.awaiting.mpr ht)
  refine h.toOnRoute.fits (SameGround.refl _ s) hslot hq ?_ ?_ (fun w hw => ?_) fun y hy => ?_
  · simp [hstage, hnd]
  · simp [hstage, hng]
  · obtain ⟨hs, hc, _⟩ := h.windows w hw
    exact ⟨hs, hc, fun hne => absurd (hR w hw) hne⟩
  · exact absurd (h.items y hy).1 hne.1

/-- The end point closes the windows, and the result is written (R46). -/
theorem CanFits.ended (h : CanFits s e (.endOfWindow :: P) R X) (hR : R ≠ []) (hpl : Placed s e)
    (hstage : x.stage = .awaitingDecision) : e.stage = .weighing ∧ CanFits s x P (R.map fun _ => .closed) X := by
  obtain ⟨w, hw⟩ := List.exists_mem_of_ne_nil R hR
  obtain ⟨hs, hclosed, hopen⟩ := h.windows w hw
  have hnear := (hpl.window hs).2
  have hweigh : e.stage = .weighing := hopen fun hc => (hclosed.mp hc).2 List.mem_cons_self
  have hnd : ¬ s.tookPoint e P .decision := by
    rw [State.tookPoint_tail P hnear.ne.symm]
    exact h.farther_not hnear
  have hng : ¬ s.tookPoint e P .gate := by
    rw [State.tookPoint_tail (p := .endOfWindow) P (by decide)]
    exact h.farther_not (hnear.trans hpl.gate)
  refine ⟨hweigh, (h.tail (State.lastPoint_ne (by decide) (by decide))).fits (SameGround.refl _ s) hslot hq ?_ ?_
    (fun v hv => ?_) fun y hy => ?_⟩
  · simp [hstage, hnd]
  · simp [hstage, hng]
  · obtain ⟨_, _, rfl⟩ := List.mem_map.mp hv
    exact ⟨hs, by simpa using h.took_head, fun hne => absurd rfl hne⟩
  · have := (h.items y hy).1
    rw [hweigh] at this
    cases this

/-- The end point without a record only passes (R46). -/
theorem CanFits.endedBare (h : CanFits s e (.endOfWindow :: P) [] X) (hstage : x.stage = e.stage)
    (hdec : x.decision = e.decision) : CanFits s x P [] X := by
  refine (h.tail (State.lastPoint_ne (by decide) (by decide))).fits (SameGround.refl _ s) hslot hq ?_ ?_ nofun ?_
  · rw [hstage, State.tookPoint_tail (p := .endOfWindow) P (by decide)]
    exact h.decided
  · rw [hstage, State.tookPoint_tail (p := .endOfWindow) P (by decide)]
    exact h.awaiting
  · rw [hstage, hdec]
    exact h.items

/-- The decision point decides the entry, and may queue its reject item (R108). -/
theorem CanFits.decides (h : CanFits s e (.decision :: P) R X) (hpl : Placed s e) (hstage : x.stage = .decided)
    {X' : List Pos} (hX : ∀ y ∈ X', x.decision = some .reject ∧ y = s.firePos e) :
    e.stage ≠ .decided ∧ e.stage ≠ .awaitingConfirm ∧ X = [] ∧ CanFits s x P R X' := by
  have hnot : ¬ s.tookPoint e (.decision :: P) .decision := fun ht => ht.2 List.mem_cons_self
  have hnd : e.stage ≠ .decided := fun hs => hnot (h.decided.mp (.inl hs))
  have hna : e.stage ≠ .awaitingConfirm := fun hs => hnot (h.decided.mp (.inr hs))
  have hng : ¬ s.tookPoint e P .gate := by
    rw [State.tookPoint_tail (p := .decision) P (by decide)]
    exact h.farther_not hpl.gate
  refine ⟨hnd, hna, List.eq_nil_iff_forall_not_mem.mpr fun y hy => hnd (h.items y hy).1,
    (h.tail (State.lastPoint_ne (by decide) (by decide))).fits (SameGround.refl _ s) hslot hq ?_ ?_ (fun w hw => ?_)
    fun y hy => ⟨hstage, hX y hy⟩⟩
  · simpa [hstage] using h.took_head
  · simp [hstage, hng]
  · obtain ⟨hs, hclosed, _⟩ := h.windows w hw
    have htook := h.nearer_took (hpl.window hs).2
    rw [State.tookPoint_tail (p := .decision) P (by decide)]
    exact ⟨hs, hclosed, fun hne => absurd (hclosed.mpr htook) hne⟩

/-- At the gate point the entry is decided; with confirmation on it awaits it (R114). -/
theorem CanFits.gated (h : CanFits s e (.gate :: P) R X) (hpl : Placed s e) (hstage : x.stage = .awaitingConfirm)
    (hc : s.confirmEnable = true) : CanFits s x P R [] := by
  have hd := h.nearer_took hpl.gate
  have hlast : s.lastPoint = .confirmClose := by rw [State.lastPoint, if_pos hc]
  refine (h.tail (by rw [hlast]; decide)).fits (SameGround.refl _ s) hslot hq ?_ ?_ (fun w hw => ?_) nofun
  · rw [State.tookPoint_tail (p := .gate) P (by decide)]
    simpa [hstage] using hd
  · simpa [hstage] using h.took_head
  · obtain ⟨hs, hclosed, _⟩ := h.windows w hw
    have htook := h.nearer_took ((hpl.window hs).2.trans hpl.gate)
    rw [State.tookPoint_tail (p := .gate) P (by decide)]
    exact ⟨hs, hclosed, fun hne => absurd (hclosed.mpr htook) hne⟩

omit hslot hq in
theorem CanFits.gate_decided (h : CanFits s e (.gate :: P) R X) (hpl : Placed s e) : e.stage = .decided := by
  rcases h.decided.mpr (h.nearer_took hpl.gate) with hs | hs
  · exact hs
  · exact absurd List.mem_cons_self (h.awaiting.mp hs).2

omit hslot hq in
/-- At the close of the confirm window the entry awaits confirmation, and its item is gone (R118). -/
theorem CanFits.close_awaiting (h : CanFits s e (.confirmClose :: P) R X) (hpl : Placed s e) :
    e.stage = .awaitingConfirm ∧ X = [] := by
  have hc : s.confirmEnable = true := by
    by_contra hne
    obtain ⟨o, ho, _⟩ := h.head_passed
    rw [hpl.noClose (by simpa using hne)] at ho
    cases ho
  have hstage := h.awaiting.mpr (h.nearer_took (hpl.close hc))
  refine ⟨hstage, List.eq_nil_iff_forall_not_mem.mpr fun y hy => ?_⟩
  have := (h.items y hy).1
  rw [hstage] at this
  cases this

end

end

end Sys2Proof.Machine
end

section
namespace Sys2Proof.Machine

/-! ## Where the points lie (01 R13, R29; 06 R131) -/

theorem natOfBytes_lt (bs : List Byte) : natOfBytes bs < 256 ^ bs.length := by
  have hfold : ∀ (l : List Byte) (n : Nat), l.foldl (fun n b => n * 256 + b.toNat) n < (n + 1) * 256 ^ l.length := by
    intro l
    induction l with
    | nil => intro n; simp
    | cons b l ih =>
      intro n
      have hb := b.isLt
      calc (b :: l).foldl (fun n b => n * 256 + b.toNat) n < (n * 256 + b.toNat + 1) * 256 ^ l.length := ih _
        _ ≤ ((n + 1) * 256) * 256 ^ l.length := Nat.mul_le_mul_right _ (by omega)
        _ = (n + 1) * 256 ^ (b :: l).length := by rw [List.length_cons, pow_succ]; ring
  have h := hfold bs 0
  rwa [Nat.zero_add, Nat.one_mul] at h

/-- A field of two bytes. -/
theorem setupNum_two_lt (img : SetupImage) (off : Nat) : setupNum img off 2 < 65536 := by
  refine lt_of_lt_of_le (natOfBytes_lt _) ?_
  have : ((img.toList.drop off).take 2).length ≤ 2 := List.length_take_le _ _
  exact (Nat.pow_le_pow_right (by norm_num) this).trans (by norm_num)

theorem dist_toNat {n : Nat} (h : n < 2 ^ 32) : (dist n).toNat = n := by
  rw [dist, BitVec.toNat_ofNat, Nat.mod_eq_of_lt h]

theorem Image.word_lt (img : Image) (i : Nat) : img.word i < 65536 := (img.toList.getD i 0).isLt

theorem firstFault_none {reason : FaultReason} {checks : List ImageCheck} (h : firstFault reason checks = none) :
    ∀ c ∈ checks, c.2 = true := by
  intro c hc
  have := List.find?_eq_none.mp (Option.map_eq_none_iff.mp h) c hc
  simpa using this

/-- A sound recipe's window is settled before it ends (R131). -/
theorem settle_lt_end {img : Image} (h : imageFault img = none) : img.settleOffset < img.endOffset := by
  unfold imageFault at h
  simp only [Option.or_eq_none_iff] at h
  obtain ⟨_, _, _, hwindow, _⟩ := h
  simpa using firstFault_none hwindow (25, decide (img.settleOffset < img.endOffset)) (by simp [windowOrderTest])

section
variable {s : State} {e : Entry}

/-- The gate point's distance. -/
theorem State.gateOffset_toNat (h : s.actuatorLead < s.gatePosition) :
    (dist s.gatePosition - dist s.actuatorLead).toNat = s.gatePosition - s.actuatorLead := by
  have hg := setupNum_two_lt s.setup 18
  have hl := setupNum_two_lt s.setup 20
  change s.gatePosition < 65536 at hg
  change s.actuatorLead < 65536 at hl
  rw [BitVec.toNat_sub, dist_toNat (by omega), dist_toNat (by omega)]
  omega

/-- The close of the confirm window. -/
theorem State.closeOffset_toNat (s : State) :
    (dist s.confirmOffset + dist s.confirmTolerance + 1).toNat = s.confirmOffset + s.confirmTolerance + 1 := by
  have hc := setupNum_two_lt s.setup 23
  have ht := setupNum_two_lt s.setup 25
  change s.confirmOffset < 65536 at hc
  change s.confirmTolerance < 65536 at ht
  rw [BitVec.toNat_add, BitVec.toNat_add, dist_toNat (by omega), dist_toNat (by omega)]
  rw [show (1 : Pos).toNat = 1 from rfl]
  omega

/-- The points lie in order while the conditions of START_TRACKING hold and the entry's slot is in use. -/
theorem State.positionsFit.placed (hfit : s.positionsFit) (hsound : s.recipesSound)
    (hslot : ∀ k, e.slot = some k → (s.rcs.slot k).state = .active ∨ (s.rcs.slot k).state = .draining) :
    Placed s e := by
  obtain ⟨hlead, hread, hdec, hconf, hwin⟩ := hfit
  have hr : s.readOffset < 65536 := setupNum_two_lt s.setup 14
  have hd : s.decisionOffset < 65536 := setupNum_two_lt s.setup 16
  have hg : s.gatePosition < 65536 := setupNum_two_lt s.setup 18
  have hc : s.confirmOffset < 65536 := setupNum_two_lt s.setup 23
  have ht : s.confirmTolerance < 65536 := setupNum_two_lt s.setup 25
  have hdd := dist_toNat (n := s.decisionOffset) (by omega)
  have hgg := State.gateOffset_toNat hlead
  have hcc := s.closeOffset_toNat
  have hword : ∀ (img : Image) i, (dist (img.word i)).toNat = img.word i := fun img i =>
    dist_toNat (lt_trans (img.word_lt i) (by norm_num))
  constructor
  case gate => exact ⟨_, _, rfl, rfl, by rw [hdd, hgg]; exact hdec⟩
  case close =>
    intro he
    have := hconf he
    exact ⟨_, _, rfl, by rw [State.pointOffset, if_pos he], by rw [hgg, hcc]; omega⟩
  case noClose =>
    intro he
    rw [State.pointOffset, if_neg (by rw [he]; exact Bool.false_ne_true)]
  case window =>
    intro hne
    obtain ⟨k, hk⟩ := Option.ne_none_iff_exists'.mp hne
    have huse := hslot k hk
    have hrec : (s.rcs.slot k).state.hasRecipe = true := by rcases huse with h | h <;> rw [h] <;> rfl
    have hse := settle_lt_end (hsound k hrec)
    have hed := hwin k huse
    refine ⟨⟨_, _, by rw [State.pointOffset, hk]; rfl, by rw [State.pointOffset, hk]; rfl, ?_⟩,
      ⟨_, _, by rw [State.pointOffset, hk]; rfl, rfl, ?_⟩⟩
    · exact lt_of_eq_of_lt (hword _ 24) (lt_of_lt_of_eq hse (hword _ 25).symm)
    · exact lt_of_eq_of_lt (hword _ 25) (lt_of_lt_of_eq hed hdd.symm)
  case ahead =>
    intro p hp o ho
    simp only [List.mem_cons, List.not_mem_nil, or_false] at hp
    rcases hp with rfl | rfl | rfl
    · cases ho
      rw [hdd]
      omega
    · cases ho
      rw [hgg]
      omega
    · rw [State.pointOffset] at ho
      split at ho
      · cases ho
        rw [hcc]
        omega
      · cases ho
  case near =>
    have himg : ∀ i o, (e.slot.map fun k => dist ((s.image k).word i)) = some o → o.toNat < 2 ^ 30 := by
      intro i o ho
      obtain ⟨k, _, rfl⟩ := Option.map_eq_some_iff.mp ho
      rw [hword]
      exact lt_trans ((s.image k).word_lt i) (by norm_num)
    intro p o ho
    cases p
    case platformEntry => exact himg 23 o ho
    case settle => exact himg 24 o ho
    case endOfWindow => exact himg 25 o ho
    case exit => exact himg 26 o ho
    case readTrigger => cases ho; rw [dist_toNat (by omega)]; omega
    case decision => cases ho; rw [hdd]; omega
    case gate => cases ho; rw [hgg]; omega
    case confirmClose =>
      rw [State.pointOffset] at ho
      split at ho
      · cases ho
        rw [hcc]
        omega
      · cases ho

/-- Behind by less than half the range, a point is passed exactly when it lies at or before the position. -/
theorem State.passed_iff_atOrAfter (hq : (s.ctr.position - e.q).toNat < 65536) {p : Point} {o : Pos}
    (ho : s.pointOffset e p = some o) (hnear : o.toNat < 2 ^ 30) :
    atOrAfter s.ctr.position (e.q + o) = true ↔ s.passed e p := by
  have hsub : s.ctr.position - (e.q + o) = (s.ctr.position - e.q) - o := sub_add_eq_sub_sub _ _ _
  have hpassed : s.passed e p ↔ o.toNat ≤ (s.ctr.position - e.q).toNat := by
    constructor
    · rintro ⟨o', ho', hle⟩
      rw [ho] at ho'
      cases ho'
      exact hle
    · exact fun hle => ⟨o, ho, hle⟩
  rw [hpassed, atOrAfter, decide_eq_true_iff, hsub, BitVec.toNat_sub]
  generalize (s.ctr.position - e.q).toNat = r at *
  omega

end

end Sys2Proof.Machine
end

section
/-!
The order of the cans, can by can. `Ordered s P` says it of a state in which the points that remain to be taken are those
of `P`; `P` is what is due, and during an arrival also what has gone by. A change that concerns one can only has to be
looked at there.
-/

namespace Sys2Proof.Machine

/-! ## What stands of one can -/

/-- The points of a tag among those that wait. -/
def pointsOf (l : List PointDue) (tag : Tag) : List Point := (l.filter fun d => d.tag == tag).map (·.point)

/-- The entries of a tag, without the results written into them. -/
def State.cansOf (s : State) (tag : Tag) : List Entry := (s.ctr.queue.filter fun e => e.tag == tag).map Entry.core

/-- The windows of a tag's records. -/
def State.windowsOf (s : State) (tag : Tag) : List WindowState :=
  (s.wge.records.filter fun r => r.tag == tag).map (·.window)

/-- The fire positions of a tag's reject items. -/
def State.firesOf (s : State) (tag : Tag) : List Pos := (s.gtc.rejects.filter fun x => x.tag == tag).map (·.fire)

/-- The members of one key, when those of a key are changed and keep it. -/
theorem filter_mapAt {α κ : Type} [DecidableEq κ] (key : α → κ) (f : α → α) (hf : ∀ a, key (f a) = key a) (m x : κ)
    (l : List α) : (l.map fun a => if key a == m then f a else a).filter (fun a => key a == x) =
      if x = m then (l.filter fun a => key a == m).map f else l.filter fun a => key a == x := by
  induction l with
  | nil => simp
  | cons a l ih =>
    rw [List.map_cons, List.filter_cons, ih]
    by_cases hm : key a = m
    · by_cases hx : x = m
      · simp [hm, hx, hf]
      · simp [hm, hf, Ne.symm hx, hx]
    · by_cases hx : x = m
      · simp [hm, hx]
      · simp [hm, hx, List.filter_cons]

theorem State.mem_cansOf {s : State} {tag : Tag} {y : Entry} :
    y ∈ s.cansOf tag ↔ ∃ e ∈ s.ctr.queue, e.tag = tag ∧ e.core = y := by
  simp only [State.cansOf, List.mem_map, List.mem_filter, beq_iff_eq, and_assoc]

/-- The entries of different tags: none is named twice. -/
theorem State.booksAgree.tag_inj {s : State} (h : s.booksAgree) {x y : Entry} (hx : x ∈ s.ctr.queue)
    (hy : y ∈ s.ctr.queue) (ht : x.tag = y.tag) : x = y := by
  obtain ⟨_, hnd, _⟩ := h
  exact List.inj_on_of_nodup_map hnd hx hy (congrArg tagIndex ht)

/-- A live entry is the only one of its tag. -/
theorem State.booksAgree.cansOf {s : State} (h : s.booksAgree) {e : Entry} (he : e ∈ s.ctr.queue) :
    s.cansOf e.tag = [e.core] := by
  have hfilter : s.ctr.queue.filter (fun x => x.tag == e.tag) = [e] := by
    have hnd : s.ctr.queue.Nodup := List.Nodup.of_map _ h.2.1
    have : s.ctr.queue.filter (fun x => x.tag == e.tag) = s.ctr.queue.filter fun x => x == e :=
      List.filter_congr fun x hx => by
        by_cases hxe : x = e
        · simp [hxe]
        · have : x.tag ≠ e.tag := fun ht => hxe (h.tag_inj hx he ht)
          simp [hxe, this]
    rw [this, List.filter_beq, List.count_eq_one_of_mem hnd he]
    rfl
  exact congrArg (List.map Entry.core) hfilter

/-! ## What the whole order rests on -/

/-- The books, the recipes, the run state and the setup are as the cans' order needs them. -/
structure Based (s : State) : Prop where
  stopped : s.stoppedIsEmpty
  books : s.booksAgree
  recipes : s.recipesSound
  fit : s.ctr.run = .running → s.positionsFit
  draining : ∀ k, (s.rcs.slot k).state = .draining → 0 < (s.rcs.slot k).refs

/-- Every slot in use later was in use before. -/
theorem SameCourse.fit {s t : State} (h : SameCourse s t) (hs : s.ctr.run = .running → s.positionsFit) :
    t.ctr.run = .running → t.positionsFit := by
  intro hrun
  obtain ⟨h1, h2, h3, h4, h5⟩ := hs (h.run ▸ hrun)
  unfold State.positionsFit State.actuatorLead State.gatePosition State.readOffset State.decisionOffset
    State.confirmEnable State.confirmOffset State.confirmTolerance
  rw [h.setup]
  refine ⟨h1, h2, h3, h4, fun k hk => ?_⟩
  obtain ⟨himg, hstate⟩ := h.slots k
  rw [State.image, himg]
  refine h5 k ?_
  rcases hstate with hstate | ⟨_, hv⟩
  · rwa [hstate] at hk
  · rw [hv] at hk
    rcases hk with hk | hk <;> cases hk

theorem SameCourse.recipes {s t : State} (h : SameCourse s t) (hs : s.recipesSound) : t.recipesSound := by
  intro k hk
  obtain ⟨himg, hstate⟩ := h.slots k
  rw [State.image, himg]
  refine hs k ?_
  rcases hstate with hstate | ⟨hd, _⟩
  · rwa [hstate] at hk
  · rw [hd]
    rfl

theorem Act.draining {T : Tag → Prop} {s t : State} (h : Act T s t)
    (hs : ∀ k, (s.rcs.slot k).state = .draining → 0 < (s.rcs.slot k).refs) :
    ∀ k, (t.rcs.slot k).state = .draining → 0 < (t.rcs.slot k).refs := by
  cases h with
  | same h => rw [h.rcs]; exact hs
  | leave e he hT =>
    intro k hk
    rw [State.unslot_slot] at hk ⊢
    split
    · rename_i hslot
      rw [if_pos hslot] at hk
      by_cases hlast : (s.rcs.slot k).state = .draining ∧ (s.rcs.slot k).refs - 1 = 0
      · rw [show (s.dropped e.tag).rcs = s.rcs from rfl, Slot.released_retires hlast] at hk
        cases hk
      · rw [show (s.dropped e.tag).rcs = s.rcs from rfl, Slot.released_counts hlast] at hk ⊢
        have hne : (s.rcs.slot k).refs - 1 ≠ 0 := fun h => hlast ⟨hk, h⟩
        simp only
        omega
    · rename_i hslot
      rw [if_neg hslot] at hk
      exact hs k hk
  | _ => exact hs

theorem Acts.draining {T : Tag → Prop} {s t : State} (h : Acts T s t)
    (hs : ∀ k, (s.rcs.slot k).state = .draining → 0 < (s.rcs.slot k).refs) :
    ∀ k, (t.rcs.slot k).state = .draining → 0 < (t.rcs.slot k).refs := by
  induction h with
  | refl => exact hs
  | tail _ h ih => exact h.draining ih

theorem Acts.based {T : Tag → Prop} {s t : State} (h : Acts T s t) (hs : Based s) : Based t where
  stopped := h.stoppedIsEmpty hs.stopped
  books := h.booksAgree hs.books
  recipes := h.course.recipes hs.recipes
  fit := h.course.fit hs.fit
  draining := h.draining hs.draining

/-- A live entry's slot is in use. -/
theorem Based.inUse {s : State} (h : Based s) {e : Entry} (he : e ∈ s.ctr.queue) {k : SlotId} (hk : e.slot = some k) :
    (s.rcs.slot k).state = .active ∨ (s.rcs.slot k).state = .draining := by
  obtain ⟨_, _, hrefs, hidle, _⟩ := h.books
  by_contra hno
  rw [not_or] at hno
  have hzero := hidle k hno.1 hno.2
  rw [hrefs k, State.naming, List.countP_eq_zero] at hzero
  exact hzero e he (by simp [hk])

/-- While cans are tracked, their points lie in order. -/
theorem Based.placed {s : State} (h : Based s) {e : Entry} (he : e ∈ s.ctr.queue) : Placed s e := by
  have hrun : s.ctr.run = .running := by
    cases hr : s.ctr.run
    · rw [(h.stopped hr).1] at he
      cases he
    · rfl
  exact (h.fit hrun).placed h.recipes fun k hk => h.inUse he hk

/-! ## The order -/

/-- The order of the cans, with the points `P` still to be taken. -/
structure Ordered (s : State) (P : Tag → List Point) : Prop where
  based : Based s
  enRouteLast : s.ctr.queue.Pairwise fun x y => x.stage = .enRoute → y.stage = .enRoute
  inTurn : (s.gtc.rejects.map (·.tag)).Sublist (s.ctr.queue.map (·.tag))
  traces : ∀ tag, P tag ≠ [] ∨ s.windowsOf tag ≠ [] ∨ s.firesOf tag ≠ [] → ∃ e ∈ s.ctr.queue, e.tag = tag ∧
    e.stage ≠ .enRoute
  fits : ∀ e ∈ s.ctr.queue, e.stage ≠ .enRoute → CanFits s e (P e.tag) (s.windowsOf e.tag) (s.firesOf e.tag)

theorem SameCans.windowsOf {s t : State} (h : SameCans s t) (tag : Tag) : t.windowsOf tag = s.windowsOf tag := by
  have hw : ∀ u : State, u.windowsOf tag = ((u.wge.records.map Occupancy.core).filter fun r => r.1 == tag).map (·.2) :=
    fun u => by
      rw [List.filter_map, List.map_map]
      rfl
  rw [hw, h.records, ← hw]

theorem SameCans.firesOf {s t : State} (h : SameCans s t) (tag : Tag) : t.firesOf tag = s.firesOf tag := by
  rw [State.firesOf, h.rejects, State.firesOf]

theorem SameCans.cansOf {s t : State} (h : SameCans s t) (tag : Tag) : t.cansOf tag = s.cansOf tag := by
  have hc : ∀ u : State, u.cansOf tag = (u.ctr.queue.map Entry.core).filter fun e => e.tag == tag := fun u => by
    rw [List.filter_map]
    rfl
  rw [hc, h.queue, ← hc]

/-- Each entry with whether it is EN_ROUTE. -/
def State.places (s : State) : List (Tag × Bool) := s.ctr.queue.map fun e => (e.tag, e.stage == .enRoute)

theorem State.places_eq (s : State) :
    s.places = (s.ctr.queue.map Entry.core).map fun e => (e.tag, e.stage == .enRoute) := by
  rw [List.map_map]
  rfl

theorem enRouteLast_iff (s : State) :
    (s.ctr.queue.Pairwise fun x y => x.stage = .enRoute → y.stage = .enRoute) ↔
      s.places.Pairwise fun x y => x.2 = true → y.2 = true := by
  rw [State.places, List.pairwise_map]
  simp

/-! ## A change of one can -/

/-- What happens to one can leaves the entries of the others as they are. -/
theorem Act.others {tag : Tag} {s t : State} (h : Act (Eq tag) s t) {x : Tag} (hx : x ≠ tag) :
    t.cansOf x = s.cansOf x := by
  cases h with
  | same h => exact h.cansOf x
  | mark m hT f hf =>
    subst hT
    have := filter_mapAt Entry.tag f (fun e => (hf e).1) tag x s.ctr.queue
    rw [if_neg hx] at this
    exact congrArg (List.map Entry.core) this
  | leave e he hT =>
    subst hT
    simp only [State.cansOf, State.unslot_ctr, State.dropped, List.filter_filter]
    refine congrArg _ (List.filter_congr fun y _ => ?_)
    by_cases hy : y.tag = x
    · simp [hy, hx]
    · simp [hy]
  | _ => rfl

theorem Acts.others {tag : Tag} {s t : State} (h : Acts (Eq tag) s t) {x : Tag} (hx : x ≠ tag) :
    t.cansOf x = s.cansOf x := by
  induction h with
  | refl => rfl
  | tail _ h ih => exact (h.others hx).trans ih

/-- Cans that have arrived keep their places among the others, or go. -/
theorem Act.places {T : Tag → Prop} {s t : State} (h : Act T s t) (hs : ∀ tag, T tag → s.pastCans tag) :
    t.places.Sublist s.places := by
  cases h with
  | same h => rw [State.places_eq, h.queue, ← State.places_eq]
  | mark m hT f hf =>
    suffices heq : (s.onEntry m f).places = s.places by rw [heq]
    simp only [State.places, State.onEntry, State.onCtr, List.map_map]
    refine List.map_congr_left fun e he => ?_
    simp only [Function.comp]
    split
    · rename_i hm
      obtain ⟨htag, _, hstage⟩ := hf e
      have hpast := hs m hT e he (by simpa using hm)
      rw [htag, beq_eq_false_iff_ne.mpr hstage, beq_eq_false_iff_ne.mpr hpast]
    · rfl
  | leave e he hT =>
    rw [State.places, State.unslot_ctr]
    exact List.filter_sublist.map _
  | _ => exact List.Sublist.refl _

theorem Acts.places {T : Tag → Prop} {s t : State} (h : Acts T s t) (hs : ∀ tag, T tag → s.pastCans tag) :
    t.places.Sublist s.places := by
  induction h with
  | refl => exact List.Sublist.refl _
  | tail g h ih => exact (h.places fun tag hT => Acts.pastCans g (hs tag hT)).trans ih

/-- From `s` to `t` one can goes on its way; nothing of the others changes. -/
structure OnlyAt (tag : Tag) (s t : State) : Prop where
  acts : Acts (Eq tag) s t
  windows : ∀ x ≠ tag, t.windowsOf x = s.windowsOf x
  fires : ∀ x ≠ tag, t.firesOf x = s.firesOf x

/-- A can fits by what its entry's core says. -/
theorem canFits_core {s t : State} {e x : Entry} (hg : SameGround e.slot s t) (hcore : x.core = e.core) {P : List Point}
    {R : List WindowState} {X : List Pos} (h : CanFits s e P R X) : CanFits t x P R X := by
  have hslot : x.slot = e.slot := show x.core.slot = e.core.slot by rw [hcore]
  have hq : x.infeedPos = e.infeedPos := show x.core.infeedPos = e.core.infeedPos by rw [hcore]
  have hstage : x.stage = e.stage := show x.core.stage = e.core.stage by rw [hcore]
  have hdec : x.decision = e.decision := show x.core.decision = e.core.decision by rw [hcore]
  exact canFits_congr hg hslot hq hstage hdec h

/-- Where one can goes on its way, the order holds when it holds of that can. -/
theorem Ordered.onlyAt {s t : State} {P P' : Tag → List Point} {tag : Tag} (h : Ordered s P) (ho : OnlyAt tag s t)
    (hlast : t.ctr.queue.Pairwise fun x y => x.stage = .enRoute → y.stage = .enRoute) (hpast : t.pastCans tag)
    (hturn : (t.gtc.rejects.map (·.tag)).Sublist (t.ctr.queue.map (·.tag)))
    (hP : ∀ x ≠ tag, P' x = P x)
    (hcan : t.cansOf tag ≠ [] ∨ P' tag = [] ∧ t.windowsOf tag = [] ∧ t.firesOf tag = [])
    (hfit : ∀ y ∈ t.cansOf tag, CanFits s y (P' tag) (t.windowsOf tag) (t.firesOf tag)) : Ordered t P' := by
  have hg := fun slot => ho.acts.course.ground slot
  refine ⟨ho.acts.based h.based, hlast, hturn, fun x hx => ?_, fun y hy hstage => ?_⟩
  · by_cases hxt : x = tag
    · subst hxt
      rcases hcan with hne | ⟨h1, h2, h3⟩
      · obtain ⟨y, hy⟩ := List.exists_mem_of_ne_nil _ hne
        obtain ⟨e, he, htag, _⟩ := State.mem_cansOf.mp hy
        exact ⟨e, he, htag, hpast e he htag⟩
      · rw [h1, h2, h3] at hx
        simp at hx
    · rw [hP x hxt, ho.windows x hxt, ho.fires x hxt] at hx
      obtain ⟨e, he, htag, hstage⟩ := h.traces x hx
      have hmem : e.core ∈ t.cansOf x := by
        rw [ho.acts.others hxt]
        exact State.mem_cansOf.mpr ⟨e, he, htag, rfl⟩
      obtain ⟨y, hy, hytag, hcore⟩ := State.mem_cansOf.mp hmem
      have hst : y.core.stage = e.core.stage := by rw [hcore]
      exact ⟨y, hy, hytag, fun hr => hstage (hst.symm.trans hr)⟩
  · have hmem : y.core ∈ t.cansOf y.tag := State.mem_cansOf.mpr ⟨y, hy, rfl, rfl⟩
    by_cases hyt : y.tag = tag
    · rw [hyt] at hmem ⊢
      exact canFits_core (hg _) (x := y) (e := y.core) rfl (hfit _ hmem)
    · rw [ho.acts.others hyt] at hmem
      obtain ⟨e, he, htag, hcore⟩ := State.mem_cansOf.mp hmem
      have hst : y.core.stage = e.core.stage := by rw [hcore]
      rw [hP _ hyt, ho.windows _ hyt, ho.fires _ hyt, ← htag]
      exact canFits_core (hg _) hcore.symm (h.fits e he fun hr => hstage (hst.trans hr))

/-- While cans go on or leave, those not yet arrived stay behind the others. -/
theorem Ordered.enRouteLast_of {s t : State} {P : Tag → List Point} (h : Ordered s P) (hp : t.places.Sublist s.places) :
    t.ctr.queue.Pairwise fun x y => x.stage = .enRoute → y.stage = .enRoute :=
  (enRouteLast_iff t).mpr (((enRouteLast_iff s).mp h.enRouteLast).sublist hp)

/-- The order is about the queue, the records, the reject queue and the ground they lie on. -/
theorem Ordered.of_based {s t : State} {P : Tag → List Point} (h : Ordered s P) (hb : Based t)
    (hg : ∀ e ∈ s.ctr.queue, SameGround e.slot s t) (hq : t.ctr.queue = s.ctr.queue) (hw : t.wge.records = s.wge.records) (hr : t.gtc.rejects = s.gtc.rejects) :
    Ordered t P := by
  have hwin : ∀ tag, t.windowsOf tag = s.windowsOf tag := fun tag => by rw [State.windowsOf, hw, State.windowsOf]
  have hfire : ∀ tag, t.firesOf tag = s.firesOf tag := fun tag => by rw [State.firesOf, hr, State.firesOf]
  refine ⟨hb, by rw [hq]; exact h.enRouteLast, by rw [hr, hq]; exact h.inTurn, fun x hx => ?_, fun y hy hstage => ?_⟩
  · rw [hwin, hfire] at hx
    rw [hq]
    exact h.traces x hx
  · rw [hq] at hy
    rw [hwin, hfire]
    exact canFits_core (hg y hy) rfl (h.fits y hy hstage)

/-- What writes no more than results leaves the order as it is. -/
theorem Ordered.same {s t : State} {P : Tag → List Point} (h : Ordered s P) (hs : SameCans s t) : Ordered t P := by
  have hmem : ∀ y ∈ t.ctr.queue, ∃ e ∈ s.ctr.queue, e.core = y.core := fun y hy => by
    have := List.mem_map_of_mem (f := Entry.core) hy
    rw [hs.queue] at this
    obtain ⟨e, he, hcore⟩ := List.mem_map.mp this
    exact ⟨e, he, hcore⟩
  have hmem' : ∀ e ∈ s.ctr.queue, ∃ y ∈ t.ctr.queue, y.core = e.core := fun e he => by
    have := List.mem_map_of_mem (f := Entry.core) he
    rw [← hs.queue] at this
    obtain ⟨y, hy, hcore⟩ := List.mem_map.mp this
    exact ⟨y, hy, hcore⟩
  have hacts : Acts AnyCan s t := .single (.same hs)
  refine ⟨hacts.based h.based, ?_, ?_, fun x hx => ?_, fun y hy hstage => ?_⟩
  · rw [enRouteLast_iff, State.places_eq, hs.queue, ← State.places_eq, ← enRouteLast_iff]
    exact h.enRouteLast
  · rw [hs.rejects, Entry.core_tag hs.queue]
    exact h.inTurn
  · rw [hs.windowsOf, hs.firesOf] at hx
    obtain ⟨e, he, htag, hstage⟩ := h.traces x hx
    obtain ⟨y, hy, hcore⟩ := hmem' e he
    have ht : y.core.tag = e.core.tag := by rw [hcore]
    have hst : y.core.stage = e.core.stage := by rw [hcore]
    exact ⟨y, hy, ht.trans htag, fun hr => hstage (hst.symm.trans hr)⟩
  · obtain ⟨e, he, hcore⟩ := hmem y hy
    have ht : y.core.tag = e.core.tag := by rw [hcore]
    have hst : y.core.stage = e.core.stage := by rw [hcore]
    rw [hs.windowsOf, hs.firesOf, show y.tag = e.tag from ht]
    exact canFits_core (hs.course.ground _) hcore.symm (h.fits e he fun hr => hstage (hst.trans hr))

end Sys2Proof.Machine
end

section
/-!
What a can's points do to it: each act as a change of that can's entry, its records and its reject items.
-/

namespace Sys2Proof.Machine

/-! ## An entry grows (R2, R6) -/

/-- What an entry is made with. -/
def Entry.made (e : Entry) : Origin × Option Nat × Option Word16 × Option Byte × Option SlotId × Byte × Option Pos ×
    Option Pos × Bool :=
  (e.origin, e.valve, e.serial, e.epoch, e.slot, e.dateGen, e.dischargePos, e.expectedPos, e.stale)

/-- The entry `x` has become `y`: its stage did not go back, what it was made with stays, as do its infeed position once
it has one and its decision once it is decided. -/
structure Grows (x y : Entry) : Prop where
  stage : x.stage.ctorIdx ≤ y.stage.ctorIdx
  made : y.made = x.made
  arrived : x.stage ≠ .enRoute → y.infeedPos = x.infeedPos
  decided : x.stage = .decided ∨ x.stage = .awaitingConfirm →
    y.decision = x.decision ∧ y.causes = x.causes ∧ y.selected = x.selected

theorem Grows.refl (x : Entry) : Grows x x := ⟨le_rfl, rfl, fun _ => rfl, fun _ => ⟨rfl, rfl, rfl⟩⟩

theorem Stage.past_of_le {x y : Stage} (h : x.ctorIdx ≤ y.ctorIdx) (hx : x ≠ .enRoute) : y ≠ .enRoute := by
  revert h hx
  cases x <;> cases y <;> decide

theorem Stage.decided_of_le {x y : Stage} (h : x.ctorIdx ≤ y.ctorIdx) (hx : x = .decided ∨ x = .awaitingConfirm) :
    y = .decided ∨ y = .awaitingConfirm := by
  revert h hx
  cases x <;> cases y <;> decide

theorem Grows.trans {x y z : Entry} (h : Grows x y) (g : Grows y z) : Grows x z where
  stage := h.stage.trans g.stage
  made := g.made.trans h.made
  arrived hx := (g.arrived (Stage.past_of_le h.stage hx)).trans (h.arrived hx)
  decided hx := by
    obtain ⟨h1, h2, h3⟩ := h.decided hx
    obtain ⟨g1, g2, g3⟩ := g.decided (Stage.decided_of_le h.stage hx)
    exact ⟨g1.trans h1, g2.trans h2, g3.trans h3⟩

/-- Only the core of an entry bears on its growth. -/
theorem Grows.core {x y x' y' : Entry} (h : Grows x y) (hx : x'.core = x.core) (hy : y'.core = y.core) :
    Grows x' y' := by
  have h1 : Grows x.core y.core := ⟨h.stage, h.made, h.arrived, h.decided⟩
  rw [← hx, ← hy] at h1
  exact ⟨h1.stage, h1.made, h1.arrived, h1.decided⟩

/-- Every entry of `t` was one of `s`. -/
def Fewer (s t : State) : Prop := ∀ y ∈ t.ctr.queue, ∃ x ∈ s.ctr.queue, x.tag = y.tag ∧ Grows x y

theorem Fewer.refl (s : State) : Fewer s s := fun y hy => ⟨y, hy, rfl, Grows.refl y⟩

theorem Fewer.trans {s t u : State} (h : Fewer s t) (g : Fewer t u) : Fewer s u := fun z hz => by
  obtain ⟨y, hy, hyz, gy⟩ := g z hz
  obtain ⟨x, hx, hxy, gx⟩ := h y hy
  exact ⟨x, hx, hxy.trans hyz, gx.trans gy⟩

theorem SameCans.fewer {s t : State} (h : SameCans s t) : Fewer s t := fun y hy => by
  have := List.mem_map_of_mem (f := Entry.core) hy
  rw [h.queue] at this
  obtain ⟨x, hx, hcore⟩ := List.mem_map.mp this
  have ht : x.core.tag = y.core.tag := by rw [hcore]
  exact ⟨x, hx, ht, (Grows.refl x).core rfl hcore.symm⟩

/-! ## One can on its way -/

/-- From `s` to `t` only the can `tag` went on: its entries are now `C`, its windows `R` and its items' positions `X`. -/
structure Went (tag : Tag) (s t : State) (C : List Entry) (R : List WindowState) (X : List Pos) : Prop where
  only : OnlyAt tag s t
  cans : t.cansOf tag = C
  windows : t.windowsOf tag = R
  fires : t.firesOf tag = X
  points : C ≠ [] ∧ t.ctr.pointsDue = s.ctr.pointsDue ∨
    C = [] ∧ t.ctr.pointsDue = s.ctr.pointsDue.filter fun d => d.tag != tag
  inTurn : (t.gtc.rejects.map (·.tag)).Sublist (t.ctr.queue.map (·.tag))

namespace Went

variable {tag : Tag} {s t : State} {C : List Entry} {R : List WindowState} {X : List Pos}

theorem refl (hC : s.cansOf tag ≠ []) (h : (s.gtc.rejects.map (·.tag)).Sublist (s.ctr.queue.map (·.tag))) :
    Went tag s s (s.cansOf tag) (s.windowsOf tag) (s.firesOf tag) :=
  ⟨⟨.refl, fun _ _ => rfl, fun _ _ => rfl⟩, rfl, rfl, rfl, .inl ⟨hC, rfl⟩, h⟩

variable (h : Went tag s t C R X)
include h

theorem same {u : State} (hs : SameCans t u) : Went tag s u C R X where
  only := ⟨h.only.acts.same hs, fun x hx => (hs.windowsOf x).trans (h.only.windows x hx),
    fun x hx => (hs.firesOf x).trans (h.only.fires x hx)⟩
  cans := (hs.cansOf tag).trans h.cans
  windows := (hs.windowsOf tag).trans h.windows
  fires := (hs.firesOf tag).trans h.fires
  points := by
    rw [hs.ctr]
    exact h.points
  inTurn := by
    rw [hs.rejects, Entry.core_tag hs.queue]
    exact h.inTurn

/-- The can's entry is marked. -/
theorem mark {f g : Entry → Entry} (hf : ∀ e, (f e).tag = e.tag ∧ (f e).slot = e.slot ∧ (f e).stage ≠ .enRoute)
    (hcore : ∀ e, (f e).core = g e.core) : Went tag s (t.onEntry tag f) (C.map g) R X where
  only := ⟨h.only.acts.act (.mark t tag rfl f hf), h.only.windows, h.only.fires⟩
  cans := by
    have := filter_mapAt Entry.tag f (fun e => (hf e).1) tag tag t.ctr.queue
    rw [if_pos rfl] at this
    refine (congrArg (List.map Entry.core) this).trans ?_
    rw [List.map_map, ← h.cans, State.cansOf, List.map_map]
    exact List.map_congr_left fun e _ => hcore e
  windows := h.windows
  fires := h.fires
  points := h.points.imp (And.imp_left fun hC => by simpa using hC) (And.imp_left fun hC => by simpa using hC)
  inTurn := by
    rw [State.onEntry_map t tag f (·.tag) fun e => (hf e).1]
    exact h.inTurn

/-- The can's records are changed in place. -/
theorem onRecord {f : Occupancy → Occupancy} {w : WindowState} (hf : ∀ r, (f r).tag = r.tag ∧ (f r).window = w) :
    Went tag s (t.onRecord tag f) C (R.map fun _ => w) X where
  only := by
    refine ⟨h.only.acts.onRecord tag f, fun x hx => ?_, h.only.fires⟩
    have := filter_mapAt Occupancy.tag f (fun r => (hf r).1) tag x t.wge.records
    rw [if_neg hx] at this
    exact (congrArg (List.map Occupancy.window) this).trans (h.only.windows x hx)
  cans := h.cans
  windows := by
    have := filter_mapAt Occupancy.tag f (fun r => (hf r).1) tag tag t.wge.records
    rw [if_pos rfl] at this
    refine (congrArg (List.map Occupancy.window) this).trans ?_
    rw [List.map_map, ← h.windows, State.windowsOf, List.map_map]
    exact List.map_congr_left fun r _ => (hf r).2
  fires := h.fires
  points := h.points
  inTurn := h.inTurn

/-- The can's records go (R47). -/
theorem leavePlatform : Went tag s (t.leavePlatform tag) C [] X where
  only := by
    refine ⟨h.only.acts.leavePlatform tag, fun x hx => ?_, h.only.fires⟩
    rw [← h.only.windows x hx]
    simp only [State.windowsOf, State.leavePlatform, State.onWge, List.filter_filter]
    refine congrArg _ (List.filter_congr fun r _ => ?_)
    by_cases hr : r.tag = x
    · simp [hr, hx]
    · simp [hr]
  cans := h.cans
  windows := by
    simp only [State.windowsOf, State.leavePlatform, State.onWge, List.filter_filter]
    simp
  fires := h.fires
  points := h.points
  inTurn := h.inTurn

/-- The can's reject item goes (R114). -/
theorem itemLeaves : Went tag s (t.onGtc fun g => { g with rejects := g.rejects.filter fun x => x.tag != tag }) C R [] where
  only := by
    refine ⟨h.only.acts.act (.rejects t _ ((List.length_filter_le _ _).trans (le_max_left _ _))
      fun _ => List.length_filter_le _ _), h.only.windows, fun x hx => ?_⟩
    rw [← h.only.fires x hx]
    simp only [State.firesOf, State.onGtc, List.filter_filter]
    refine congrArg _ (List.filter_congr fun r _ => ?_)
    by_cases hr : r.tag = x
    · simp [hr, hx]
    · simp [hr]
  cans := h.cans
  windows := h.windows
  fires := by
    simp only [State.firesOf, State.onGtc, List.filter_filter]
    simp
  points := h.points
  inTurn := (List.filter_sublist.map _).trans h.inTurn

/-- The can retires; its item is gone already (R7). -/
theorem retire (hC : C ≠ []) (hX : X = []) (out : ExitOutcome) : Went tag s (t.retire out tag) [] [] [] := by
  cases he : t.entry tag with
  | none =>
    refine absurd (h.cans.symm.trans ?_) hC
    rw [State.cansOf, List.map_eq_nil_iff, List.filter_eq_nil_iff]
    exact List.find?_eq_none.mp he
  | some e =>
    obtain ⟨hmem, rfl⟩ := State.entry_some he
    refine Went.same ?_ (State.retire_sameCans he out)
    have hnone : t.firesOf e.tag = [] := h.fires.trans hX
    refine ⟨⟨h.only.acts.act (.leave t e hmem rfl), fun x hx => ?_, fun x hx => ?_⟩, ?_, ?_, ?_, .inr ⟨rfl, ?_⟩, ?_⟩
    · rw [← h.only.windows x hx]
      simp only [State.windowsOf, State.unslot_wge, State.dropped, List.filter_filter]
      refine congrArg _ (List.filter_congr fun r _ => ?_)
      by_cases hr : r.tag = x
      · simp [hr, hx]
      · simp [hr]
    · rw [← h.only.fires x hx]
      simp only [State.firesOf, State.unslot_gtc, State.dropped]
    · simp only [State.cansOf, State.unslot_ctr, State.dropped, List.filter_filter]
      simp
    · simp only [State.windowsOf, State.unslot_wge, State.dropped, List.filter_filter]
      simp
    · rw [State.firesOf, State.unslot_gtc]
      exact hnone
    · rw [State.unslot_ctr, State.dropped]
      rcases h.points with ⟨_, hp⟩ | ⟨hno, _⟩
      · rw [hp]
      · exact absurd hno hC
    · rw [State.firesOf, List.map_eq_nil_iff, List.filter_eq_nil_iff] at hnone
      rw [State.unslot_gtc, State.unslot_ctr]
      have hkeep : t.gtc.rejects.filter (fun x => x.tag != e.tag) = t.gtc.rejects :=
        List.filter_eq_self.mpr fun x hx => by simpa using hnone x hx
      have := h.inTurn.filter fun x => x != e.tag
      rw [List.filter_map, List.filter_map] at this
      have hr : (t.dropped e.tag).gtc.rejects = t.gtc.rejects.filter (fun x => x.tag != e.tag) := hkeep.symm
      rw [hr]
      exact this

end Went

/-! ## A reject item takes its place (R112) -/

theorem takeWhile_dropWhile_append {α : Type} {p : α → Bool} {l m : List α} (hl : ∀ x ∈ l, p x = true)
    (hm : ∀ x ∈ m, p x = false) : (l ++ m).takeWhile p = l ∧ (l ++ m).dropWhile p = m := by
  rw [List.takeWhile_append_of_pos hl, List.dropWhile_append_of_pos hl]
  cases m with
  | nil => simp
  | cons x m =>
    have hx := hm x List.mem_cons_self
    rw [List.takeWhile_cons, List.dropWhile_cons, hx]
    simp

/-- A tag of `q` put where `rank` says stays among the tags of `q` in order. -/
theorem insert_sublist {l : List RejectItem} {q : List Tag} {new : RejectItem} (hnd : q.Nodup)
    (hl : (l.map (·.tag)).Sublist q) (hnew : new.tag ∈ q) (hnot : new.tag ∉ l.map (·.tag)) :
    ((l.takeWhile (fun x => decide (q.idxOf x.tag < q.idxOf new.tag)) ++
      new :: l.dropWhile (fun x => decide (q.idxOf x.tag < q.idxOf new.tag))).map (·.tag)).Sublist q := by
  obtain ⟨a, b, rfl⟩ := List.append_of_mem hnew
  obtain ⟨m, n, hmn, hm, hn⟩ := List.sublist_append_iff.mp hl
  obtain ⟨l1, l2, rfl, rfl, rfl⟩ := List.map_eq_append_iff.mp hmn
  rw [List.nodup_append] at hnd
  obtain ⟨hna, hnb, hdis⟩ := hnd
  have hidx : (a ++ new.tag :: b).idxOf new.tag = a.length := by
    rw [List.idxOf_append_of_notMem fun h => hdis _ h _ List.mem_cons_self rfl, List.idxOf_cons_self, Nat.add_zero]
  have hn' : (l2.map (·.tag)).Sublist b := by
    rcases List.sublist_cons_iff.mp hn with h | ⟨r, hr, _⟩
    · exact h
    · exact absurd (by rw [List.map_append, hr]; simp) hnot
  obtain ⟨htake, hdrop⟩ := takeWhile_dropWhile_append (l := l1) (m := l2)
    (p := fun x => decide ((a ++ new.tag :: b).idxOf x.tag < (a ++ new.tag :: b).idxOf new.tag)) (fun x hx => by
      have hxa : x.tag ∈ a := hm.subset (List.mem_map_of_mem hx)
      rw [hidx, List.idxOf_append_of_mem hxa, decide_eq_true_iff]
      exact List.idxOf_lt_length_of_mem hxa) fun x hx => by
      have hxb : x.tag ∈ b := hn'.subset (List.mem_map_of_mem hx)
      have hxa : x.tag ∉ a := fun h => hdis _ h _ (List.mem_cons_of_mem _ hxb) rfl
      rw [hidx, decide_eq_false_iff_not, List.idxOf_append_of_notMem hxa]
      omega
  rw [htake, hdrop, List.map_append, List.map_cons]
  exact hm.append (hn'.cons_cons _)

end Sys2Proof.Machine
end

section
namespace Sys2Proof.Machine

/-! ## The points of a can, taken in turn (R30) -/

/-- The can `tag` has come past a point, with `rest` still to come; or, where the point can be its `last`, it is gone. -/
structure Onward (s t : State) (P : Tag → List Point) (tag : Tag) (rest : List Point) (last : Prop) : Prop where
  ordered : Ordered t (Function.update P tag (if t.cansOf tag = [] then [] else rest))
  fewer : Fewer s t
  points : t.ctr.pointsDue = if t.cansOf tag = [] then s.ctr.pointsDue.filter (fun d => d.tag != tag)
    else s.ctr.pointsDue
  gone : t.cansOf tag = [] → last

section
variable {s t : State} {P : Tag → List Point} {tag : Tag}

/-- What the growth of one can's entry makes of the queue. -/
theorem OnlyAt.fewer (ho : OnlyAt tag s t) (h : ∀ y ∈ t.cansOf tag, ∃ x ∈ s.cansOf tag, Grows x y) : Fewer s t := by
  intro y hy
  have hmem : y.core ∈ t.cansOf y.tag := State.mem_cansOf.mpr ⟨y, hy, rfl, rfl⟩
  by_cases hyt : y.tag = tag
  · rw [hyt] at hmem
    obtain ⟨x, hx, hgrow⟩ := h _ hmem
    obtain ⟨e, he, htag, rfl⟩ := State.mem_cansOf.mp hx
    exact ⟨e, he, htag.trans hyt.symm, hgrow.core rfl rfl⟩
  · rw [ho.acts.others hyt] at hmem
    obtain ⟨e, he, htag, hcore⟩ := State.mem_cansOf.mp hmem
    exact ⟨e, he, htag, (Grows.refl e).core rfl hcore.symm⟩

theorem Went.onward {C : List Entry} {R : List WindowState} {X : List Pos} {rest : List Point} {last : Prop} (h : Ordered s P)
    (hpast : s.pastCans tag) (w : Went tag s t C R X) (hgone : C = [] → R = [] ∧ X = [] ∧ last)
    (hfit : ∀ y ∈ C, CanFits s y rest R X) (hgrow : ∀ y ∈ C, ∃ x ∈ s.cansOf tag, Grows x y) :
    Onward s t P tag rest last := by
  refine ⟨h.onlyAt w.only ?_ ?_ w.inTurn (fun x hx => Function.update_of_ne hx _ _) ?_ ?_,
    w.only.fewer (by rwa [w.cans]), ?_, fun hC => (hgone (w.cans.symm.trans hC)).2.2⟩
  · exact h.enRouteLast_of (w.only.acts.places fun _ ht => ht ▸ hpast)
  · exact w.only.acts.pastCans hpast
  · rw [Function.update_self, w.cans, w.windows, w.fires]
    by_cases hC : C = []
    · obtain ⟨hR, hX, _⟩ := hgone hC
      exact .inr ⟨if_pos hC, hR, hX⟩
    · exact .inl hC
  · rw [Function.update_self, w.cans, w.windows, w.fires]
    intro y hy
    rw [if_neg (List.ne_nil_of_mem hy)]
    exact hfit y hy
  · rw [w.cans]
    rcases w.points with ⟨hC, hp⟩ | ⟨hC, hp⟩
    · rw [hp, if_neg hC]
    · rw [hp, if_pos hC]

/-- The can whose first point to be taken is `p`. -/
structure Facing (s : State) (tag : Tag) (p : Point) (rest : List Point) (e : Entry) : Prop where
  mem : e ∈ s.ctr.queue
  named : e.tag = tag
  past : s.pastCans tag
  placed : Placed s e
  cans : s.cansOf tag = [e.core]
  fits : CanFits s e (p :: rest) (s.windowsOf tag) (s.firesOf tag)

theorem Ordered.facing {p : Point} {rest : List Point} (h : Ordered s P) (hP : P tag = p :: rest) :
    ∃ e, Facing s tag p rest e := by
  obtain ⟨e, he, rfl, hstage⟩ := h.traces tag (.inl (by rw [hP]; exact List.cons_ne_nil _ _))
  have hcans := h.based.books.cansOf he
  refine ⟨e, he, rfl, fun x hx ht => ?_, h.based.placed he, hcans, ?_⟩
  · rw [h.based.books.tag_inj hx he ht]
    exact hstage
  · rw [← hP]
    exact h.fits e he hstage

theorem Facing.entry {p : Point} {rest : List Point} {e : Entry} (h : Facing s tag p rest e) (hb : s.booksAgree) :
    s.entry tag = some e := by
  cases hx : s.entry tag with
  | none => exact absurd h.named (by simpa using List.find?_eq_none.mp hx e h.mem)
  | some x =>
    obtain ⟨hmem, htag⟩ := State.entry_some hx
    rw [hb.tag_inj hmem h.mem (htag.trans h.named.symm)]

theorem Facing.went {p : Point} {rest : List Point} {e : Entry} (h : Facing s tag p rest e) (ho : Ordered s P) :
    Went tag s s [e.core] (s.windowsOf tag) (s.firesOf tag) := by
  have := Went.refl (s := s) (tag := tag) (by rw [h.cans]; exact List.cons_ne_nil _ _) ho.inTurn
  rwa [h.cans] at this

theorem State.windowsOf_none (h : s.record tag = none) : s.windowsOf tag = [] := by
  rw [State.windowsOf, List.map_eq_nil_iff, List.filter_eq_nil_iff]
  exact List.find?_eq_none.mp h

theorem State.windowsOf_some {r : Occupancy} (h : s.record tag = some r) : s.windowsOf tag ≠ [] := by
  have hmem := List.mem_of_find?_eq_some h
  have htag := List.find?_some h
  exact List.ne_nil_of_mem (List.mem_map_of_mem (List.mem_filter.mpr ⟨hmem, htag⟩))

variable {rest : List Point} {e : Entry} (ho : Ordered s P)
include ho

/-- An act that changes the can's records only. -/
theorem Facing.onward {p : Point} (h : Facing s tag p rest e) {R : List WindowState} {X : List Pos}
    (w : Went tag s t [e.core] R X) (hfit : CanFits s e rest R X) : Onward s t P tag rest False := by
  refine w.onward ho h.past (fun hC => absurd hC (List.cons_ne_nil _ _)) (fun y hy => ?_) fun y hy => ?_
  · rw [List.mem_singleton.mp hy]
    exact canFits_core (.refl _ s) (x := e.core) (e := e) rfl hfit
  · rw [List.mem_singleton.mp hy, h.cans]
    exact ⟨e.core, List.mem_singleton_self _, Grows.refl _⟩

theorem Facing.readTrigger (h : Facing s tag .readTrigger rest e) : Onward s (s.readTrigger tag) P tag rest False :=
  h.onward ho ((h.went ho).same ((SameCans.refl s).readTrigger tag)) (h.fits.pass (by decide))

theorem Facing.platformEntry (h : Facing s tag .platformEntry rest e) : Onward s (s.platformEntry tag) P tag rest False :=
  h.onward ho ((h.went ho).same ((SameCans.refl s).platformEntry tag)) (h.fits.pass (by decide))

theorem Facing.settle (h : Facing s tag .settle rest e) : Onward s (s.settle tag) P tag rest False := by
  unfold State.settle
  split
  · exact h.onward ho (h.went ho) (h.fits.pass (by decide))
  · exact h.onward ho ((h.went ho).onRecord fun _ => ⟨rfl, rfl⟩) (h.fits.settled h.placed)

theorem Facing.leavePlatform (h : Facing s tag .exit rest e) : Onward s (s.leavePlatform tag) P tag rest False :=
  h.onward ho (h.went ho).leavePlatform ((h.fits.pass (by decide)).fewer (List.nil_subset _) (List.Subset.refl _))

/-- The can's entry becomes `x`. -/
theorem Facing.becomes {p : Point} (h : Facing s tag p rest e) {x : Entry} {R : List WindowState} {X : List Pos}
    (w : Went tag s t [x] R X) (hfit : CanFits s x rest R X) (hgrow : Grows e x) : Onward s t P tag rest False := by
  refine w.onward ho h.past (fun hC => absurd hC (List.cons_ne_nil _ _)) (fun y hy => ?_) fun y hy => ?_
  · rw [List.mem_singleton.mp hy]
    exact hfit
  · rw [List.mem_singleton.mp hy, h.cans]
    exact ⟨e.core, List.mem_singleton_self _, hgrow.core rfl rfl⟩

/-- The can is gone. -/
theorem Facing.leaves {p : Point} (h : Facing s tag p rest e) (w : Went tag s t [] [] []) : Onward s t P tag rest True :=
  w.onward ho h.past (fun _ => ⟨rfl, rfl, trivial⟩) (fun _ hy => absurd hy List.not_mem_nil)
    fun _ hy => absurd hy List.not_mem_nil

theorem Facing.endWindow (h : Facing s tag .endOfWindow rest e) : Onward s (s.endWindow tag) P tag rest False := by
  unfold State.endWindow
  split
  · rename_i hr
    have hfits := h.fits
    rw [State.windowsOf_none hr] at hfits
    have hw := h.went ho
    rw [State.windowsOf_none hr] at hw
    exact h.onward ho hw (hfits.endedBare (x := e) rfl rfl rfl rfl)
  · rename_i r hr
    rw [h.entry ho.based.books]
    have hmark := ((h.went ho).onRecord (f := fun r => { r with window := .closed }) fun _ => ⟨rfl, rfl⟩).mark
      (f := fun x => { x with weigh := some (s.weighResult e r.acc), stage := .awaitingDecision })
      (g := fun x => { x with stage := .awaitingDecision }) (fun _ => ⟨rfl, rfl, nofun⟩) fun _ => rfl
    have hall := (hmark.same ((SameCans.refl _).bump (s.weighResult e r.acc).status.counter)).same
      ((SameCans.refl _).offer e (s.weighResult e r.acc))
    obtain ⟨hweigh, hfit⟩ := h.fits.ended (e := e) (x := { e.core with stage := .awaitingDecision }) rfl rfl
      (State.windowsOf_some hr) h.placed rfl
    refine h.becomes ho hall hfit ⟨?_, rfl, fun _ => rfl, fun hd => ?_⟩
    · rw [hweigh]
      exact (by decide : Stage.weighing.ctorIdx ≤ Stage.awaitingDecision.ctorIdx)
    · rw [hweigh] at hd
      rcases hd with hd | hd <;> cases hd

/-! ### The decision -/

omit ho in
theorem State.rank_eq (x : Tag) : s.rank x = (s.ctr.queue.map (·.tag)).idxOf x := by
  rw [State.rank, List.idxOf, List.findIdx_map]
  rfl

omit ho in
theorem State.booksAgree.tags_nodup (h : s.booksAgree) : (s.ctr.queue.map (·.tag)).Nodup := by
  have h2 := h.2.1
  rw [show (s.ctr.queue.map fun e => tagIndex e.tag) = (s.ctr.queue.map (·.tag)).map tagIndex by
    rw [List.map_map]; rfl] at h2
  exact List.Nodup.of_map _ h2

omit ho in
/-- The item of a REJECT takes its place in the reject queue (R112). -/
theorem Went.itemJoins {C : List Entry} {R : List WindowState} (h : Went tag s t C R []) (hb : t.booksAgree)
    (hC : C ≠ []) (hroom : t.gtc.rejects.length < 32) (fire : Pos) :
    let ahead := fun x : RejectItem => decide (t.rank x.tag < t.rank tag)
    Went tag s (t.onGtc fun g => { g with rejects := g.rejects.takeWhile ahead ++
      { tag := tag, fire := fire } :: g.rejects.dropWhile ahead }) C R [fire] := by
  intro ahead
  have hsplit : t.gtc.rejects.takeWhile ahead ++ t.gtc.rejects.dropWhile ahead = t.gtc.rejects :=
    List.takeWhile_append_dropWhile
  have hnone : ∀ x ∈ t.gtc.rejects, x.tag ≠ tag := fun x hx hxt => by
    have := List.map_eq_nil_iff.mp h.fires
    exact absurd hxt (by simpa using List.filter_eq_nil_iff.mp this x hx)
  have hmem : tag ∈ t.ctr.queue.map (·.tag) := by
    obtain ⟨y, hy⟩ := List.exists_mem_of_ne_nil _ (h.cans.symm ▸ hC)
    obtain ⟨e, he, htag, _⟩ := State.mem_cansOf.mp hy
    exact List.mem_map.mpr ⟨e, he, htag⟩
  have hne : t.ctr.queue ≠ [] := fun hq => by
    rw [hq] at hmem
    cases hmem
  refine ⟨⟨h.only.acts.act (.rejects t _ ?_ fun hq => absurd hq hne), h.only.windows, fun x hx => ?_⟩, h.cans,
    h.windows, ?_, h.points, ?_⟩
  · have := congrArg List.length hsplit
    simp only [List.length_append, List.length_cons] at this ⊢
    omega
  · rw [← h.only.fires x hx]
    simp only [State.firesOf, State.onGtc]
    rw [List.filter_append, List.filter_cons_of_neg (by simpa using Ne.symm hx), ← List.filter_append, hsplit]
  · have hfires : t.gtc.rejects.filter (fun x => x.tag == tag) = [] := List.map_eq_nil_iff.mp h.fires
    rw [← hsplit, List.filter_append, List.append_eq_nil_iff] at hfires
    simp [State.firesOf, State.onGtc, List.filter_append, hfires.1, hfires.2]
  · have hahead : ahead = fun x : RejectItem => decide ((t.ctr.queue.map (·.tag)).idxOf x.tag <
        (t.ctr.queue.map (·.tag)).idxOf tag) := funext fun x => by simp only [ahead, State.rank_eq]
    rw [hahead]
    exact insert_sublist (new := { tag := tag, fire := fire }) hb.tags_nodup h.inTurn hmem fun hm => by
      obtain ⟨x, hx, hxt⟩ := List.mem_map.mp hm
      exact hnone x hx hxt

omit ho in
/-- Results written before an act do not bear on it. -/
theorem Onward.after {u : State} {last : Prop} (hs : SameCans s u) (h : Onward u t P tag rest last) :
    Onward s t P tag rest last :=
  ⟨h.ordered, hs.fewer.trans h.fewer, by rw [h.points, hs.ctr], h.gone⟩

omit ho in
theorem Onward.imp {last last' : Prop} (h : Onward s t P tag rest last) (hl : last → last') : Onward s t P tag rest last' :=
  { h with gone := fun hC => hl (h.gone hC) }

theorem Facing.decideEntry (h : Facing s tag .decision rest e) : Onward s (s.decideEntry tag) P tag rest False := by
  obtain rfl := h.named
  rw [State.decideEntry_eq (h.entry ho.based.books)]
  generalize hsel : e.causeSet &&& s.selectionFor e = sel
  have hmark := (h.went ho).mark (f := Entry.asDecided e.causeSet sel) (g := Entry.asDecided e.causeSet sel)
    (fun _ => ⟨rfl, rfl, nofun⟩) fun _ => rfl
  have hdecides : ∀ X, (∀ y ∈ X, (Entry.asDecided e.causeSet sel e.core).decision = some .reject ∧ y = s.firePos e) →
      _ := fun X hX => h.fits.decides (e := e) (x := Entry.asDecided e.causeSet sel e.core) rfl rfl h.placed rfl
        (X' := X) hX
  obtain ⟨hnd, hna, hX, hfit⟩ := hdecides [] nofun
  rw [hX] at hmark
  have hstage : e.stage.ctorIdx ≤ Stage.decided.ctorIdx := by
    revert hnd hna
    cases e.stage <;> decide
  have hgrow : Grows e (Entry.asDecided e.causeSet sel e.core) :=
    ⟨hstage, rfl, fun _ => rfl, fun hd => absurd hd (not_or.mpr ⟨hnd, hna⟩)⟩
  split
  · exact h.becomes ho (hmark.same ((SameCans.refl _).bump _)) hfit hgrow
  · rename_i hne
    have hbump := hmark.same ((SameCans.refl _).bump .decisionsReject)
    have hvalve : ∀ u : State, SameCans u (u.countValve e.valve fun x => { x with rejected := satInc x.rejected }) :=
      fun u => (SameCans.refl u).countValve _ _ fun _ => rfl
    unfold State.queueReject
    split
    · rename_i hroom
      have hbooks := (hbump.only.acts.based ho.based).books
      have hjoin := hbump.itemJoins hbooks (List.cons_ne_nil _ _) hroom (s.firePos e)
      refine h.becomes ho (hjoin.same (hvalve _)) (hdecides [s.firePos e] ?_).2.2.2 hgrow
      intro y hy
      rw [List.mem_singleton.mp hy]
      exact ⟨congrArg some (if_neg hne), rfl⟩
    · have hfull := ((hbump.same ((SameCans.refl _).onEntry e.tag (fun x => { x with unfired := true }) fun _ => rfl)).same
        ((SameCans.refl _).addCause .rejectOverflow)).same ((SameCans.refl _).bump .rejectOverflows)
      exact h.becomes ho (hfull.same (hvalve _)) hfit hgrow

theorem Ordered.decisionPoint (hP : P tag = .decision :: rest) :
    Onward s (s.decisionPoint tag) P tag rest False := by
  have hs : SameCans s (s.closeCode tag) := (SameCans.refl s).closeCode tag
  obtain ⟨x, hx⟩ := (ho.same hs).facing hP
  exact (hx.decideEntry (ho.same hs)).after hs

/-! ### The gate and the confirm window -/

theorem Facing.gatePoint (h : Facing s tag .gate rest e) : Onward s (s.gatePoint tag) P tag rest True := by
  have hdecided := h.fits.gate_decided h.placed
  have htag := h.named
  have hacts : Went tag s (s.gateActs e) [e.core] (s.windowsOf tag) [] := by
    unfold State.gateActs
    rw [htag]
    split
    · exact (h.went ho).itemLeaves.same (SameCans.refl _).fireGate
    · rename_i hany
      have hnone : s.firesOf tag = [] := by
        rw [State.firesOf, List.map_eq_nil_iff, List.filter_eq_nil_iff]
        intro x hx hxt
        exact hany (List.any_eq_true.mpr ⟨x, hx, hxt⟩)
      have hw := h.went ho
      rw [hnone] at hw
      split
      · exact hw.same ((SameCans.refl _).bump _)
      · exact hw
  have hmark := hacts.mark (f := fun x => { x with stage := .awaitingConfirm })
    (g := fun x => { x with stage := .awaitingConfirm }) (fun _ => ⟨rfl, rfl, nofun⟩) fun _ => rfl
  have hconf : ((s.gateActs e).onEntry tag fun x => { x with stage := .awaitingConfirm }).confirmEnable =
      s.confirmEnable := by
    rw [State.confirmEnable, hmark.only.acts.course.setup, State.confirmEnable]
  rw [State.gatePoint, h.entry ho.based.books]
  dsimp only
  split
  · rename_i hc
    refine Onward.imp (h.becomes ho hmark (h.fits.gated (e := e) (x := { e.core with stage := .awaitingConfirm }) rfl rfl h.placed
      rfl hc) ⟨?_, rfl, fun _ => rfl, fun _ => ⟨rfl, rfl, rfl⟩⟩) False.elim
    rw [hdecided]
    exact (by decide : Stage.decided.ctorIdx ≤ Stage.awaitingConfirm.ctorIdx)
  · exact h.leaves ho ((hmark.retire (List.cons_ne_nil _ _) rfl _).same ((SameCans.refl _).bump _))

theorem Facing.confirmCloses (h : Facing s tag .confirmClose rest e) : Onward s (s.confirmCloses tag) P tag rest True := by
  rw [State.confirmCloses, h.entry ho.based.books]
  have hw := h.went ho
  rw [(h.fits.close_awaiting h.placed).2] at hw
  exact h.leaves ho ((hw.retire (List.cons_ne_nil _ _) rfl _).same ((SameCans.refl _).bump _))

/-- The points with which a can may leave (R114, R118). -/
def Point.ends (p : Point) : Prop := p = .gate ∨ p = .confirmClose

/-- A point that is taken brings its can onward. -/
theorem Ordered.takes {p : Point} (hP : P tag = p :: rest) : Onward s (p.act s tag) P tag rest p.ends := by
  obtain ⟨e, h⟩ := ho.facing hP
  cases p
  case readTrigger => exact (h.readTrigger ho).imp False.elim
  case platformEntry => exact (h.platformEntry ho).imp False.elim
  case settle => exact (h.settle ho).imp False.elim
  case endOfWindow => exact (h.endWindow ho).imp False.elim
  case exit => exact (h.leavePlatform ho).imp False.elim
  case decision => exact (ho.decisionPoint hP).imp False.elim
  case gate => exact (h.gatePoint ho).imp fun _ => .inl rfl
  case confirmClose => exact (h.confirmCloses ho).imp fun _ => .inr rfl

end

end Sys2Proof.Machine
end

section
/-!
The order of the cans as an invariant of every operation: `OnTrack` is the order with the points that are due, each at
the present position, and the arrivals close behind it.
-/

namespace Sys2Proof.Machine

/-! ## The points of a tag among those due -/

theorem mem_pointsOf {l : List PointDue} {tag : Tag} {p : Point} :
    p ∈ pointsOf l tag ↔ ({ tag := tag, point := p } : PointDue) ∈ l := by
  simp only [pointsOf, List.mem_map, List.mem_filter, beq_iff_eq]
  constructor
  · rintro ⟨d, ⟨hd, rfl⟩, rfl⟩
    exact hd
  · exact fun h => ⟨_, ⟨h, rfl⟩, rfl⟩

theorem pointsOf_nil (tag : Tag) : pointsOf [] tag = [] := rfl

theorem pointsOf_ne_nil {l : List PointDue} {tag : Tag} : pointsOf l tag ≠ [] ↔ ∃ d ∈ l, d.tag = tag := by
  constructor
  · intro h
    obtain ⟨p, hp⟩ := List.exists_mem_of_ne_nil _ h
    exact ⟨_, mem_pointsOf.mp hp, rfl⟩
  · rintro ⟨d, hd, rfl⟩
    exact List.ne_nil_of_mem (mem_pointsOf.mpr hd)

/-- Points in the order of their rows, tag by tag. -/
theorem pointsOf_sorted {l : List PointDue}
    (h : l.Pairwise fun x y => x.tag = y.tag → x.point.ctorIdx < y.point.ctorIdx) (tag : Tag) :
    (pointsOf l tag).Pairwise fun p r => p.ctorIdx < r.ctorIdx := by
  refine List.pairwise_map.mpr ((h.filter _).imp_of_mem fun {x y} hx hy hxy => ?_)
  have htx : x.tag = tag := by simpa using (List.mem_filter.mp hx).2
  have hty : y.tag = tag := by simpa using (List.mem_filter.mp hy).2
  exact hxy (htx.trans hty.symm)

theorem pairwise_of_pointsOf {l : List PointDue}
    (h : ∀ tag, (pointsOf l tag).Pairwise fun p r => p.ctorIdx < r.ctorIdx) :
    l.Pairwise fun x y => x.tag = y.tag → x.point.ctorIdx < y.point.ctorIdx := by
  refine List.pairwise_iff_forall_sublist.mpr fun {x y} hsub hxy => ?_
  have hpair := (hsub.filter fun d => d.tag == x.tag).map (·.point)
  simp only [List.filter_cons, beq_self_eq_true, hxy, if_true, List.filter_nil, List.map_cons, List.map_nil] at hpair
  rw [← hxy] at hpair
  exact List.pairwise_iff_forall_sublist.mp (h x.tag) hpair

/-- Where the first point of a tag is taken, the others remain. -/
theorem pointsOf_erase {l : List PointDue} {tag : Tag} {p : Point}
    (h : l.find? (fun d => d.tag == tag) = some { tag := tag, point := p }) :
    ∃ rest, pointsOf l tag = p :: rest ∧
      pointsOf (l.erase { tag := tag, point := p }) = Function.update (pointsOf l) tag rest := by
  obtain ⟨_, as, bs, rfl, has⟩ := List.find?_eq_some_iff_append.mp h
  have hfilter : as.filter (fun d => d.tag == tag) = [] :=
    List.filter_eq_nil_iff.mpr fun d hd => by simpa using has d hd
  have hnot : ({ tag := tag, point := p } : PointDue) ∉ as := fun hm => by simpa using has _ hm
  refine ⟨pointsOf bs tag, by simp [pointsOf, hfilter], funext fun x => ?_⟩
  rw [List.erase_append_right _ hnot, List.erase_cons_head]
  by_cases hx : x = tag
  · subst hx
    rw [Function.update_self]
    simp [pointsOf, hfilter]
  · rw [Function.update_of_ne hx]
    simp [pointsOf, Ne.symm hx]

theorem pointsOf_filter (l : List PointDue) (tag : Tag) :
    pointsOf (l.filter fun d => d.tag != tag) = Function.update (pointsOf l) tag [] := by
  funext x
  rw [pointsOf, List.filter_filter]
  by_cases hx : x = tag
  · subst hx
    simp
  · rw [Function.update_of_ne hx, pointsOf]
    refine congrArg _ (List.filter_congr fun d _ => ?_)
    by_cases hd : d.tag = x
    · simp [hd, hx]
    · simp [hd]

/-! ## The invariant -/

/-- Every point that is due lies at the present position. -/
def State.pointsHere (s : State) : Prop := ∀ d ∈ s.ctr.pointsDue, ∀ e ∈ s.ctr.queue, e.tag = d.tag →
  s.pointOffset e d.point = some (s.ctr.position - e.q)

/-- The arrivals that wait, and the one that an eye monitor holds, lie close behind the position (R21). -/
def State.arrivalsNear (s : State) : Prop :=
  (∀ q ∈ s.ctr.infeedDue, (s.ctr.position - q).toNat < 65536) ∧
    (s.ctr.infeed.state = .pending → (s.ctr.position - s.ctr.infeed.latched).toNat < s.minBlock)

/-- The order of the cans, with the points that are due. -/
structure OnTrack (s : State) : Prop where
  order : Ordered s (pointsOf s.ctr.pointsDue)
  here : s.pointsHere
  near : s.arrivalsNear

theorem State.hasTaken_iff (s : State) (e : Entry) (p : Point) :
    s.hasTaken e p ↔ s.tookPoint e (pointsOf s.ctr.pointsDue e.tag) p := by
  rw [State.tookPoint, mem_pointsOf]
  rfl

/-- Points that all lie at the present position are in order when they stand in the order of their rows. -/
theorem OnRoute.here {s : State} {e : Entry} {P : List Point} (hl : ¬ s.tookPoint e P s.lastPoint)
    (hat : ∀ p ∈ P, s.pointOffset e p = some (s.ctr.position - e.q))
    (hrows : P.Pairwise fun p r => p.ctorIdx < r.ctorIdx) : OnRoute s e P := by
  refine ⟨hl, fun p hp => ⟨_, hat p hp, le_rfl⟩, fun p hp r hn hp' => ?_, ?_⟩
  · obtain ⟨o, o', ho, ho', hlt⟩ := hn
    obtain ⟨o'', ho'', hle⟩ := hp'
    rw [hat p hp] at ho
    rw [ho'] at ho''
    cases ho
    cases ho''
    omega
  · refine hrows.imp_of_mem fun {p r} hp hr hlt o o' ho ho' => ?_
    rw [hat p hp] at ho
    rw [hat r hr] at ho'
    cases ho
    cases ho'
    exact .inr ⟨rfl, hlt⟩

theorem State.cansInOrder.onTrack {s : State} (h : s.cansInOrder) (hstopped : s.stoppedIsEmpty) (hb : s.booksAgree)
    (hr : s.recipesSound) : OnTrack s := by
  obtain ⟨hfit, hdrain, hnear, hpend, hlast, hstage, hdue, hrows, hrec, hturn, hrej⟩ := h
  have hhere : s.pointsHere := fun d hd e he ht => by
    obtain ⟨x, hx, hxt, _, hoff⟩ := hdue d hd
    rw [hb.tag_inj he hx (ht.trans hxt.symm)]
    exact hoff
  refine ⟨⟨⟨hstopped, hb, hr, hfit, hdrain⟩, hlast, hturn, fun tag ht => ?_, fun e he hs => ?_⟩, hhere, hnear, hpend⟩
  · rcases ht with hp | hw | hx
    · obtain ⟨d, hd, rfl⟩ := pointsOf_ne_nil.mp hp
      obtain ⟨x, hx, hxt, hxs, _⟩ := hdue d hd
      exact ⟨x, hx, hxt, hxs⟩
    · obtain ⟨w, hw⟩ := List.exists_mem_of_ne_nil _ hw
      obtain ⟨r, hr, rfl⟩ := List.mem_map.mp hw
      obtain ⟨hr, hrt⟩ := List.mem_filter.mp hr
      obtain ⟨x, hx, hxt, hxs, _⟩ := hrec r hr
      exact ⟨x, hx, hxt.trans (by simpa using hrt), hxs⟩
    · obtain ⟨y, hy⟩ := List.exists_mem_of_ne_nil _ hx
      obtain ⟨r, hr, rfl⟩ := List.mem_map.mp hy
      obtain ⟨hr, hrt⟩ := List.mem_filter.mp hr
      obtain ⟨x, hx, hxt, hxs, _⟩ := hrej r hr
      exact ⟨x, hx, hxt.trans (by simpa using hrt), by rw [hxs]; decide⟩
  · obtain ⟨hd, ha, hl⟩ := hstage e he hs
    simp only [State.hasTaken_iff] at hd ha hl
    have hat : ∀ p ∈ pointsOf s.ctr.pointsDue e.tag, s.pointOffset e p = some (s.ctr.position - e.q) :=
      fun p hp => hhere _ (mem_pointsOf.mp hp) e he rfl
    have hone : ∀ {x : Entry}, x ∈ s.ctr.queue → x.tag = e.tag → x = e := fun hx ht => hb.tag_inj hx he ht
    refine ⟨.here hl hat (pointsOf_sorted hrows e.tag), hd, ha, fun w hw => ?_, fun y hy => ?_⟩
    · obtain ⟨r, hr, rfl⟩ := List.mem_map.mp hw
      obtain ⟨hr, hrt⟩ := List.mem_filter.mp hr
      obtain ⟨x, hx, hxt, _, hslot, hclosed, hopen⟩ := hrec r hr
      obtain rfl := hone hx (hxt.trans (by simpa using hrt))
      rw [State.hasTaken_iff] at hclosed
      exact ⟨hslot, hclosed, hopen⟩
    · obtain ⟨r, hr, rfl⟩ := List.mem_map.mp hy
      obtain ⟨hr, hrt⟩ := List.mem_filter.mp hr
      obtain ⟨x, hx, hxt, hxs⟩ := hrej r hr
      obtain rfl := hone hx (hxt.trans (by simpa using hrt))
      exact hxs

theorem OnTrack.cansInOrder {s : State} (h : OnTrack s) : s.cansInOrder := by
  obtain ⟨⟨⟨hstopped, hb, hr, hfit, hdrain⟩, hlast, hturn, htraces, hfits⟩, hhere, hnear, hpend⟩ := h
  refine ⟨hfit, hdrain, hnear, hpend, hlast, fun e he hs => ?_, fun d hd => ?_, ?_, fun r hr => ?_, hturn, fun x hx => ?_⟩
  · have hf := hfits e he hs
    simp only [State.stageFits, State.hasTaken_iff]
    exact ⟨hf.decided, hf.awaiting, hf.last⟩
  · obtain ⟨e, he, ht, hs⟩ := htraces d.tag (.inl (pointsOf_ne_nil.mpr ⟨d, hd, rfl⟩))
    exact ⟨e, he, ht, hs, hhere d hd e he ht⟩
  · refine pairwise_of_pointsOf fun tag => ?_
    by_cases hp : pointsOf s.ctr.pointsDue tag = []
    · rw [hp]
      exact List.Pairwise.nil
    · obtain ⟨e, he, rfl, hs⟩ := htraces tag (.inl hp)
      refine (hfits e he hs).sorted.imp_of_mem fun {p r} hp hr hpr => ?_
      rcases hpr _ _ (hhere _ (mem_pointsOf.mp hp) e he rfl) (hhere _ (mem_pointsOf.mp hr) e he rfl) with hlt | ⟨_, hlt⟩
      · exact absurd hlt (lt_irrefl _)
      · exact hlt
  · have hw : r.window ∈ s.windowsOf r.tag := List.mem_map_of_mem (List.mem_filter.mpr ⟨hr, beq_self_eq_true _⟩)
    obtain ⟨e, he, ht, hs⟩ := htraces r.tag (.inr (.inl (List.ne_nil_of_mem hw)))
    rw [← ht] at hw
    obtain ⟨hslot, hclosed, hopen⟩ := (hfits e he hs).windows _ hw
    rw [← State.hasTaken_iff] at hclosed
    exact ⟨e, he, ht, hs, hslot, hclosed, hopen⟩
  · have hy : x.fire ∈ s.firesOf x.tag := List.mem_map_of_mem (List.mem_filter.mpr ⟨hx, beq_self_eq_true _⟩)
    obtain ⟨e, he, ht, hs⟩ := htraces x.tag (.inr (.inr (List.ne_nil_of_mem hy)))
    rw [← ht] at hy
    exact ⟨e, he, ht, (hfits e he hs).items _ hy⟩

/-! ## What keeps the points due in place -/

/-- The points due stay at the position while they are those of entries that only grow. -/
theorem State.pointsHere.grown {s t : State} {P : Tag → List Point} (h : s.pointsHere) (ho : Ordered s P)
    (hP : ∀ d ∈ s.ctr.pointsDue, P d.tag ≠ []) (hg : ∀ e ∈ s.ctr.queue, SameGround e.slot s t)
    (hsub : ∀ d ∈ t.ctr.pointsDue, d ∈ s.ctr.pointsDue)
    (hgrow : ∀ y ∈ t.ctr.queue, ∀ d ∈ t.ctr.pointsDue, y.tag = d.tag → ∃ x ∈ s.ctr.queue, x.tag = y.tag ∧ Grows x y) :
    t.pointsHere := by
  intro d hd y hy ht
  obtain ⟨x, hx, hxy, hgr⟩ := hgrow y hy d hd ht
  obtain ⟨e, he, het, hes⟩ := ho.traces d.tag (.inl (hP d (hsub d hd)))
  obtain rfl := ho.based.books.tag_inj he hx (het.trans (ht.symm.trans hxy.symm))
  have hmade := hgr.made
  simp only [Entry.made, Prod.mk.injEq] at hmade
  obtain ⟨_, _, _, _, hslot, _⟩ := hmade
  rw [pointOffset_congr (hg e hx) hslot, (hg e hx).position, Entry.q, hgr.arrived hes, ← Entry.q]
  exact h d (hsub d hd) e he het

theorem State.due_ne (s : State) : ∀ d ∈ s.ctr.pointsDue, pointsOf s.ctr.pointsDue d.tag ≠ [] :=
  fun d hd => pointsOf_ne_nil.mpr ⟨d, hd, rfl⟩

/-- The arrivals that wait are near while the position, the eye and its distance stay. -/
theorem State.arrivalsNear.of {s t : State} (h : s.arrivalsNear) (hi : ∀ q ∈ t.ctr.infeedDue, q ∈ s.ctr.infeedDue)
    (hp : t.ctr.position = s.ctr.position) (hm : t.ctr.infeed = s.ctr.infeed) (hs : t.minBlock = s.minBlock) :
    t.arrivalsNear := by
  obtain ⟨h1, h2⟩ := h
  refine ⟨fun q hq => by rw [hp]; exact h1 q (hi q hq), ?_⟩
  rw [hp, hm, hs]
  exact h2

theorem SameCourse.arrivalsNear {s t : State} (h : SameCourse s t) (hs : s.arrivalsNear) : t.arrivalsNear :=
  hs.of (fun q hq => by rwa [h.infeedDue] at hq) h.position h.infeed (by rw [State.minBlock, h.setup, State.minBlock])

end Sys2Proof.Machine
end

section
/-!
Every deed keeps the cans in order, and makes no entry.
-/

namespace Sys2Proof.Machine

/-- The cans stay in order, and every entry was there before. -/
structure Keeping (s t : State) : Prop where
  track : OnTrack t
  fewer : Fewer s t

theorem Keeping.trans {s t u : State} (h : Keeping s t) (g : Keeping t u) : Keeping s u :=
  ⟨g.track, h.fewer.trans g.fewer⟩

theorem OnTrack.refl {s : State} (h : OnTrack s) : Keeping s s := ⟨h, .refl s⟩

/-- What a can's way leaves is in order where the cans are, each with its points. -/
theorem OnTrack.course {s t : State} (h : OnTrack s) (ho : Ordered t (pointsOf t.ctr.pointsDue)) (hf : Fewer s t)
    (hc : SameCourse s t) : Keeping s t :=
  ⟨⟨ho, h.here.grown h.order s.due_ne (fun e _ => hc.ground e.slot) (fun _ hd => hc.pointsDue_mem hd)
    fun y hy _ _ _ => hf y hy, hc.arrivalsNear h.near⟩, hf⟩

theorem OnTrack.same {s t : State} (h : OnTrack s) (hs : SameCans s t) : Keeping s t :=
  h.course (by rw [hs.ctr]; exact h.order.same hs) hs.fewer hs.course

/-! ## Nothing but the eyes and the arrivals -/

/-- From `s` to `t` nothing changes of what the cans' way depends on but what the eyes see. -/
structure SameRoad (s t : State) : Prop where
  setup : t.setup = s.setup
  rcs : t.rcs = s.rcs
  ctr : t.ctr = { s.ctr with
    debt := t.ctr.debt, infeed := t.ctr.infeed, infeedDue := t.ctr.infeedDue, confirm := t.ctr.confirm
    confirmDue := t.ctr.confirmDue }
  records : t.wge.records = s.wge.records
  rejects : t.gtc.rejects = s.gtc.rejects

theorem SameRoad.refl (s : State) : SameRoad s s := ⟨rfl, rfl, rfl, rfl, rfl⟩

theorem SameRoad.trans {s t u : State} (h : SameRoad s t) (g : SameRoad t u) : SameRoad s u :=
  ⟨g.setup.trans h.setup, g.rcs.trans h.rcs, by rw [g.ctr, h.ctr], g.records.trans h.records,
    g.rejects.trans h.rejects⟩

theorem SameTrack.road {s t : State} (h : SameTrack s t) : SameRoad s t :=
  ⟨h.setup, h.rcs, by rw [h.ctr], h.records, h.rejects⟩

namespace SameRoad

variable {s t : State} (h : SameRoad s t)
include h

theorem queue : t.ctr.queue = s.ctr.queue := by rw [h.ctr]

theorem pointsDue : t.ctr.pointsDue = s.ctr.pointsDue := by rw [h.ctr]

theorem position : t.ctr.position = s.ctr.position := by rw [h.ctr]

theorem image (k : SlotId) : t.image k = s.image k := by rw [State.image, h.rcs, State.image]

theorem ground (slot : Option SlotId) : SameGround slot s t :=
  ⟨fun _ _ => by rw [h.setup], h.position, fun k _ => h.image k⟩

theorem based (hs : Based s) (hb : t.booksAgree) : Based t where
  stopped hr := by
    rw [h.queue, h.records, h.rejects]
    rw [h.ctr] at hr
    exact hs.stopped hr
  books := hb
  recipes k hk := by
    rw [h.image]
    rw [h.rcs] at hk
    exact hs.recipes k hk
  fit hr := by
    rw [h.ctr] at hr
    have := hs.fit hr
    unfold State.positionsFit State.actuatorLead State.gatePosition State.readOffset State.decisionOffset
      State.confirmEnable State.confirmOffset State.confirmTolerance at this ⊢
    simpa only [h.setup, h.rcs, h.image] using this
  draining k := by
    rw [h.rcs]
    exact hs.draining k

theorem fewer : Fewer s t := fun y hy => by
  rw [h.queue] at hy
  exact ⟨y, hy, rfl, .refl y⟩

theorem track (ho : Ordered s (pointsOf s.ctr.pointsDue)) (hh : s.pointsHere) (hb : t.booksAgree)
    (hn : t.arrivalsNear) : OnTrack t := by
  refine ⟨?_, hh.grown ho s.due_ne (fun e _ => h.ground e.slot) (fun d hd => ?_) (fun y hy _ _ _ => h.fewer y hy), hn⟩
  · rw [h.pointsDue]
    exact ho.of_based (h.based ho.based hb) (fun e _ => h.ground e.slot) h.queue h.records h.rejects
  · rwa [h.pointsDue] at hd

theorem keeping (hs : OnTrack s) (hb : t.booksAgree) (hn : t.arrivalsNear) : Keeping s t :=
  ⟨h.track hs.order hs.here hb hn, h.fewer⟩

end SameRoad

theorem OnTrack.aside {s t : State} (h : OnTrack s) (hm : Move s t) (hs : SameTrack s t) : Keeping s t := by
  refine hs.road.keeping h (hm.booksAgree h.order.based.books) (h.near.of (fun q hq => ?_) ?_ ?_ ?_)
  · rwa [hs.ctr] at hq
  · rw [hs.ctr]
  · rw [hs.ctr]
  · rw [State.minBlock, hs.setup, State.minBlock]

/-! ## One can -/

/-- One can goes onward from the first of its points. -/
theorem OnTrack.onward {s t : State} (h : OnTrack s) {l : List PointDue} {tag : Tag} {rest : List Point} {last : Prop}
    (hl : ∀ d ∈ l, d ∈ s.ctr.pointsDue) (hrest : pointsOf l = Function.update (pointsOf s.ctr.pointsDue) tag rest)
    (ho : Onward (s.onCtr fun c => { c with pointsDue := l }) t (pointsOf s.ctr.pointsDue) tag rest last)
    (hc : SameCourse (s.onCtr fun c => { c with pointsDue := l }) t) : Keeping s t := by
  have hpoints : pointsOf t.ctr.pointsDue =
      Function.update (pointsOf s.ctr.pointsDue) tag (if t.cansOf tag = [] then [] else rest) := by
    have hp := ho.points
    rw [hp]
    split
    · rw [pointsOf_filter]
      exact (congrArg (Function.update · tag []) hrest).trans (Function.update_idem _ _ _)
    · exact hrest
  have hg : ∀ slot, SameGround slot s t := fun slot =>
    let hgr := hc.ground slot
    ⟨hgr.setup, hgr.position, hgr.image⟩
  have hfew : Fewer s t := ho.fewer
  refine ⟨⟨by rw [hpoints]; exact ho.ordered, ?_, hc.arrivalsNear h.near⟩, hfew⟩
  exact h.here.grown h.order s.due_ne (fun e _ => hg e.slot) (fun d hd => hl d (hc.pointsDue_mem hd))
    fun y hy _ _ _ => hfew y hy

theorem OnTrack.point {s : State} (h : OnTrack s) (tag : Tag) (p : Point) : Keeping s (s.atPoint tag p p.act) := by
  unfold State.atPoint
  split
  · rename_i hdue
    rw [Bool.and_eq_true, State.pointIsDue, beq_iff_eq] at hdue
    obtain ⟨rest, hP, hrest⟩ := pointsOf_erase hdue.2
    refine h.onward (fun d hd => List.mem_of_mem_erase hd) hrest (Ordered.takes ?_ hP) (State.point_course _ p tag)
    exact h.order.of_based (Move.points s _ |> fun hm =>
      ⟨hm.stoppedIsEmpty h.order.based.stopped, hm.booksAgree h.order.based.books, h.order.based.recipes,
        h.order.based.fit, h.order.based.draining⟩) (fun e _ => ⟨fun _ _ => rfl, rfl, fun _ _ => rfl⟩) rfl rfl rfl
  · exact h.refl

/-- A can without a reject item retires. -/
theorem OnTrack.retires {s t : State} (h : OnTrack s) {e : Entry} (he : e ∈ s.ctr.queue) (hX : s.firesOf e.tag = [])
    {out : ExitOutcome} (hs : SameCans (s.retire out e.tag) t) : Keeping s t := by
  have hcans := h.order.based.books.cansOf he
  have hne : s.cansOf e.tag ≠ [] := by rw [hcans]; exact List.cons_ne_nil _ _
  have hw := ((Went.refl hne h.order.inTurn).retire hne hX out).same hs
  have hplaces : t.places.Sublist s.places := by
    rw [State.places_eq, hs.queue, ← State.places_eq, State.places, State.retire_queue]
    exact List.filter_sublist.map _
  have hpast : t.pastCans e.tag := fun y hy ht => by
    have := State.mem_cansOf.mpr ⟨y, hy, ht, rfl⟩
    rw [hw.cans] at this
    cases this
  have hpoints : pointsOf t.ctr.pointsDue = Function.update (pointsOf s.ctr.pointsDue) e.tag [] := by
    rcases hw.points with ⟨hC, _⟩ | ⟨_, hp⟩
    · exact absurd rfl hC
    · rw [hp, pointsOf_filter]
  refine h.course ?_ (hw.only.fewer ?_) hw.only.acts.course
  · rw [hpoints]
    refine h.order.onlyAt hw.only (h.order.enRouteLast_of hplaces) hpast hw.inTurn
      (fun x hx => Function.update_of_ne hx _ _) (.inr ⟨Function.update_self _ _ _, hw.windows, hw.fires⟩) ?_
    rw [hw.cans]
    exact fun y hy => absurd hy List.not_mem_nil
  · rw [hw.cans]
    exact fun y hy => absurd hy List.not_mem_nil

/-- A can whose decision is not made, or that awaits confirmation, has no reject item. -/
theorem Ordered.firesOf_nil {s : State} {P : Tag → List Point} (h : Ordered s P) {e : Entry} (he : e ∈ s.ctr.queue)
    (hs : e.stage ≠ .decided) : s.firesOf e.tag = [] := by
  by_contra hne
  obtain ⟨x, hx, hxt, hxs⟩ := h.traces e.tag (.inr (.inr hne))
  obtain rfl := h.based.books.tag_inj hx he hxt
  obtain ⟨y, hy⟩ := List.exists_mem_of_ne_nil _ hne
  exact hs ((h.fits x hx hxs).items y hy).1

theorem OnTrack.confirmed {s : State} (h : OnTrack s) (y : Pos) : Keeping s (s.confirmArrives y) := by
  unfold State.confirmArrives
  split
  · exact h.same ((SameCans.refl s).bump _)
  split
  · exact h.same ((SameCans.refl s).bump _)
  split
  · exact h.same ((SameCans.refl s).bump _)
  · rename_i e hc
    have he := List.mem_of_find?_eq_some hc
    have hstage := List.find?_some hc
    rw [Bool.and_eq_true, beq_iff_eq] at hstage
    have hX := h.order.firesOf_nil he (by rw [hstage.1]; decide)
    unfold State.confirmEntry
    split
    · exact h.retires he hX (((SameCans.refl _).bump _).addCause _)
    · exact h.retires he hX ((SameCans.refl _).bump _)

theorem OnTrack.expired {s : State} (h : OnTrack s) {e : Entry} (he : s.expired = some e) : Keeping s (s.expire e) := by
  have hstage : e.stage = .enRoute := by
    have := List.find?_some (Option.filter_eq_some_iff.mp he).1
    simpa using this
  have hX := h.order.firesOf_nil (State.expired_mem he) (by rw [hstage]; decide)
  exact h.retires (State.expired_mem he) hX
    (SameCans.raiseSlip (((SameCans.refl _).bump _).countValve _ _ fun _ => rfl))

/-! ## No can -/

theorem Ordered.empty {s : State} (hb : Based s) (hq : s.ctr.queue = []) (hw : s.wge.records = [])
    (hr : s.gtc.rejects = []) : Ordered s fun _ => [] := by
  refine ⟨hb, by rw [hq]; exact List.Pairwise.nil, by rw [hr]; exact List.nil_sublist _, fun tag h => ?_, fun e he => ?_⟩
  · simp [State.windowsOf, State.firesOf, hw, hr] at h
  · rw [hq] at he
    cases he

theorem OnTrack.empty {s : State} (hb : Based s) (hq : s.ctr.queue = []) (hw : s.wge.records = [])
    (hr : s.gtc.rejects = []) (hp : s.ctr.pointsDue = []) (hn : s.arrivalsNear) : OnTrack s := by
  refine ⟨?_, fun d hd => ?_, hn⟩
  · rw [hp]
    exact .empty hb hq hw hr
  · rw [hp] at hd
    cases hd

theorem Fewer.empty {s t : State} (hq : t.ctr.queue = []) : Fewer s t := fun y hy => by
  rw [hq] at hy
  cases hy

theorem OnTrack.flushed {s : State} (h : OnTrack s) : Keeping s s.flush := by
  have hacts : Acts AnyCan s s.flush := Acts.flush .refl anyCan
  exact ⟨.empty (hacts.based h.order.based) s.flush_queue s.flush_records s.flush_rejects rfl
    (hacts.course.arrivalsNear h.near), .empty s.flush_queue⟩

/-- With nothing tracked no point is due. -/
theorem OnTrack.pointsDue_nil {s : State} (h : OnTrack s) (hq : s.ctr.queue = []) : s.ctr.pointsDue = [] := by
  rw [List.eq_nil_iff_forall_not_mem]
  intro d hd
  obtain ⟨e, he, _⟩ := h.order.traces d.tag (.inl (s.due_ne d hd))
  rw [hq] at he
  cases he

theorem OnTrack.stopped {s : State} (h : OnTrack s) (hq : s.ctr.queue = []) (hr : s.gtc.rejects = [])
    (hw : s.wge.records = []) : Keeping s (s.onCtr fun c => { c with run := .stopped }) :=
  ⟨.empty ⟨fun _ => ⟨hq, hr, hw⟩, (Move.stop s hq hr hw).booksAgree h.order.based.books, h.order.based.recipes, nofun,
    h.order.based.draining⟩ hq hw hr (h.pointsDue_nil hq) h.near, .empty hq⟩

theorem OnTrack.started {s : State} (h : OnTrack s) (hrun : s.ctr.run = .stopped)
    (hfit : (s.onCtr fun c => { c with run := .running, debt := 0, slipRun := 0 }).positionsFit) :
    Keeping s (s.onCtr fun c => { c with run := .running, debt := 0, slipRun := 0 }) := by
  obtain ⟨hq, hr, hw⟩ := h.order.based.stopped hrun
  exact ⟨.empty ⟨nofun, (Move.start s).booksAgree h.order.based.books, h.order.based.recipes, fun _ => hfit,
    h.order.based.draining⟩ hq hw hr (h.pointsDue_nil hq) h.near, .empty hq⟩

end Sys2Proof.Machine
end

section
namespace Sys2Proof.Machine

/-! ## The slots (06 R126 to R142) -/

/-- Slot `j` changes so that the cans on their way do not notice: while a can may name it, its image stays. -/
structure SlotSteady (s t : State) (j : SlotId) : Prop where
  sound : (t.rcs.slot j).state.hasRecipe = true → imageFault (t.image j) = none
  fit : (t.rcs.slot j).state = .active ∨ (t.rcs.slot j).state = .draining →
    t.image j = s.image j ∧ ((s.rcs.slot j).state = .active ∨ (s.rcs.slot j).state = .draining ∨
      (s.image j).endOffset < s.decisionOffset)
  image : (s.rcs.slot j).state = .active ∨ (s.rcs.slot j).state = .draining → t.image j = s.image j
  draining : (t.rcs.slot j).state = .draining → 0 < (t.rcs.slot j).refs

theorem SlotSteady.same {s t : State} (hs : Based s) {j : SlotId} (h : t.rcs.slot j = s.rcs.slot j) : SlotSteady s t j := by
  have himg : t.image j = s.image j := by rw [State.image, h, State.image]
  exact ⟨by rw [h, himg]; exact hs.recipes j, fun hu => ⟨himg, (h ▸ hu).imp_right .inl⟩, fun _ => himg,
    by rw [h]; exact hs.draining j⟩

/-- The cans stay in order where only slots change, and change steadily. -/
theorem OnTrack.slots {s t : State} (h : OnTrack s) (hctr : t.ctr = s.ctr) (hset : t.setup = s.setup)
    (hrec : t.wge.records = s.wge.records) (hrej : t.gtc.rejects = s.gtc.rejects) (hb : t.booksAgree)
    (hj : ∀ j, SlotSteady s t j) : Keeping s t := by
  have hbase : Based t := by
    refine ⟨?_, hb, fun j => (hj j).sound, fun hr => ?_, fun j => (hj j).draining⟩
    · unfold State.stoppedIsEmpty
      rw [hctr, hrec, hrej]
      exact h.order.based.stopped
    · obtain ⟨h1, h2, h3, h4, h5⟩ := h.order.based.fit (hctr ▸ hr)
      unfold State.positionsFit State.actuatorLead State.gatePosition State.readOffset State.decisionOffset
        State.confirmEnable State.confirmOffset State.confirmTolerance at *
      rw [hset]
      refine ⟨h1, h2, h3, h4, fun j hu => ?_⟩
      obtain ⟨himg, hact | hdrain | hfit⟩ := (hj j).fit hu
      · rw [himg]
        exact h5 j (.inl hact)
      · rw [himg]
        exact h5 j (.inr hdrain)
      · rw [himg]
        exact hfit
  have hground : ∀ e ∈ s.ctr.queue, SameGround e.slot s t := fun e he =>
    ⟨fun _ _ => by rw [hset], by rw [hctr], fun k hk => (hj k).image (h.order.based.inUse he hk)⟩
  have hfew : Fewer s t := fun y hy => ⟨y, hctr ▸ hy, rfl, .refl y⟩
  refine ⟨⟨?_, h.here.grown h.order s.due_ne hground (fun d hd => hctr ▸ hd) fun y hy _ _ _ => hfew y hy, ?_⟩, hfew⟩
  · rw [hctr]
    exact h.order.of_based hbase hground (by rw [hctr]) hrec hrej
  · unfold State.arrivalsNear State.minBlock
    rw [hctr, hset]
    exact h.near

/-- A slot that drains without entries has been drained (R142). -/
def Slot.settled (x : Slot) : Slot := if x.state = .draining ∧ x.refs = 0 then { x with state := .verified } else x

theorem State.drainCheck_settles (s : State) (k : SlotId) (m : DrainMoment) :
    SameCans (s.onSlot k Slot.settled) (s.drainCheck k m) := by
  unfold State.drainCheck
  dsimp only
  split
  · rename_i h
    have hs : s.onSlot k Slot.settled = s.onRcs fun r => r.setSlot k { r.slot k with state := .verified } := by
      rw [State.onSlot, State.onRcs, Slot.settled, if_pos h]
      rfl
    rw [hs]
    exact ((SameCans.refl _).notify _).bump _
  · rename_i h
    have hs : s.onSlot k Slot.settled = s := by
      rw [State.onSlot, State.onRcs, Slot.settled, if_neg h]
      cases k <;> rfl
    rw [hs]
    exact .refl s

theorem booksAgree_settled {s : State} (h : s.booksAgree) (k : SlotId) : (s.onSlot k Slot.settled).booksAgree := by
  unfold Slot.settled
  by_cases hd : (s.rcs.slot k).state = .draining ∧ (s.rcs.slot k).refs = 0
  · have := (Move.drained s k hd.1 hd.2).booksAgree h
    rw [State.onSlot, State.onRcs] at this ⊢
    rwa [if_pos hd]
  · rw [State.onSlot, State.onRcs, if_neg hd]
    have hs : { s with rcs := s.rcs.setSlot k (s.rcs.slot k) } = s := by cases k <;> rfl
    rwa [hs]

theorem SameCans.onSlot_congr {s t : State} (h : SameCans s t) (k : SlotId) (f : Slot → Slot) :
    SameCans (s.onSlot k f) (t.onSlot k f) :=
  { h with rcs := by rw [State.onSlot, State.onRcs_rcs, h.rcs, State.onSlot, State.onRcs_rcs] }

/-- The ACTIVE slot begins to drain. -/
theorem SlotSteady.drains {s t : State} (hs : Based s) {j : SlotId} (ha : (s.rcs.slot j).state = .active)
    (hslot : t.rcs.slot j = Slot.settled { s.rcs.slot j with state := .draining }) : SlotSteady s t j := by
  have himg : t.image j = s.image j := by
    rw [State.image, hslot, Slot.settled]
    split <;> rfl
  refine ⟨fun _ => ?_, fun _ => ⟨himg, .inl ha⟩, fun _ => himg, fun hdr => ?_⟩
  · rw [himg]
    exact hs.recipes j (by rw [ha]; rfl)
  · rw [hslot, Slot.settled] at hdr ⊢
    split at hdr
    · cases hdr
    · rename_i hne
      rw [if_neg hne]
      exact Nat.pos_of_ne_zero fun hz => hne ⟨rfl, hz⟩

/-- A VERIFIED slot becomes ACTIVE. -/
theorem SlotSteady.activates {s t : State} (hs : Based s) {j : SlotId} (hv : (s.rcs.slot j).state = .verified)
    (hfit : (s.image j).endOffset < s.decisionOffset) (hslot : t.rcs.slot j = { s.rcs.slot j with state := .active }) :
    SlotSteady s t j := by
  have himg : t.image j = s.image j := by
    rw [State.image, hslot]
    rfl
  refine ⟨fun _ => ?_, fun _ => ⟨himg, .inr (.inr hfit)⟩, fun _ => himg, fun hdr => ?_⟩
  · rw [himg]
    exact hs.recipes j (by rw [hv]; rfl)
  · rw [hslot] at hdr
    cases hdr

theorem OnTrack.productStopped {s : State} (h : OnTrack s) {k : SlotId} (ha : (s.rcs.slot k).state = .active)
    (hd : s.drainingSlot = none) : Keeping s (s.stopProduct k) := by
  have hkeep : Keeping s ((s.onSlot k fun x => { x with state := .draining }).onSlot k Slot.settled) := by
    refine h.slots rfl rfl rfl rfl (booksAgree_settled ((Move.drain s k ha hd).booksAgree h.order.based.books) k)
      fun j => ?_
    by_cases hj : j = k
    · subst hj
      exact .drains h.order.based ha (by rw [State.onSlot_slot, if_pos rfl, State.onSlot_slot, if_pos rfl])
    · exact .same h.order.based (by rw [State.onSlot_slot, if_neg hj, State.onSlot_slot, if_neg hj])
  exact hkeep.trans (hkeep.track.same ((State.drainCheck_settles _ _ _).bump _))

theorem SlotId.eq_other {j k : SlotId} (h : j ≠ k) : j = k.other := by
  revert h
  cases j <;> cases k <;> simp [SlotId.other]

theorem State.activated_parts (s : State) (k : SlotId) :
    (s.activated k).setup = s.setup ∧ (s.activated k).wge = s.wge ∧ (s.activated k).gtc = s.gtc := by
  unfold State.activated
  dsimp only
  split <;> exact ⟨rfl, rfl, rfl⟩

/-- A changeover, with the other slot drained when no can names it. -/
theorem OnTrack.activated {s : State} (h : OnTrack s) {k : SlotId} (hv : (s.rcs.slot k).state = .verified)
    (hd : s.drainingSlot = none) (hfit : (s.image k).endOffset < s.decisionOffset) :
    Keeping s ((s.activated k).onSlot k.other Slot.settled) := by
  obtain ⟨hset, hwge, hgtc⟩ := s.activated_parts k
  refine h.slots (State.activated_ctr s k) hset (congrArg Wge.records hwge) (congrArg Gtc.rejects hgtc)
    (booksAgree_settled ((Move.activate s k hv hd).booksAgree h.order.based.books) _) fun j => ?_
  by_cases hj : j = k
  · subst hj
    exact .activates h.order.based hv hfit
      (by rw [State.onSlot_slot, if_neg (SlotId.other_ne j).symm, State.activated_slot, if_pos rfl])
  · obtain rfl := SlotId.eq_other hj
    have hslot : ((s.activated k).onSlot k.other Slot.settled).rcs.slot k.other =
        Slot.settled ((s.activated k).rcs.slot k.other) := by rw [State.onSlot_slot, if_pos rfl]
    rw [State.activated_slot, if_neg hj] at hslot
    split at hslot
    · rename_i ha
      exact .drains h.order.based ha hslot
    · refine .same h.order.based (hslot.trans ?_)
      rw [Slot.settled, if_neg]
      rintro ⟨hdr, hz⟩
      exact absurd (h.order.based.draining _ hdr) (by rw [hz]; exact lt_irrefl 0)

theorem OnTrack.changedOver {s : State} (h : OnTrack s) {k : SlotId} (hv : (s.rcs.slot k).state = .verified)
    (hd : s.drainingSlot = none) (hfit : (s.image k).endOffset < s.decisionOffset) : Keeping s (s.changeTo k) := by
  have hkeep := h.activated hv hd hfit
  have hclear : SameCans (s.activated k) (if (s.activated k).sup.holdDrg then s.activated k
      else (s.activated k).clearTable ((s.activated k).image k).recipeId) := by
    split
    · exact SameCans.refl _
    · exact (SameCans.refl _).clearTable _
  exact hkeep.trans (hkeep.track.same
    ((hclear.onSlot_congr k.other Slot.settled).trans ((State.drainCheck_settles _ _ _).bump _)))

/-- A slot that no can names is loaded, discarded or verified. -/
theorem OnTrack.onIdleSlot {s : State} (h : OnTrack s) (k : SlotId) (f : Slot → Slot)
    (hs : (s.rcs.slot k).state ≠ .active ∧ (s.rcs.slot k).state ≠ .draining)
    (hx : (f (s.rcs.slot k)).state ≠ .active ∧ (f (s.rcs.slot k)).state ≠ .draining)
    (hf : (f (s.rcs.slot k)).state.hasRecipe = true → imageFault (f (s.rcs.slot k)).image = none)
    (hb : (s.onSlot k f).booksAgree) : Keeping s (s.onSlot k f) := by
  refine h.slots rfl rfl rfl rfl hb fun j => ?_
  by_cases hj : j = k
  · subst hj
    have hslot : (s.onSlot j f).rcs.slot j = f (s.rcs.slot j) := by rw [State.onSlot_slot, if_pos rfl]
    refine ⟨fun hr => ?_, fun hu => ?_, fun hu => absurd hu (not_or.mpr hs), fun hdr => ?_⟩
    · rw [State.image, hslot]
      rw [hslot] at hr
      exact hf hr
    · rw [hslot] at hu
      exact absurd hu (not_or.mpr hx)
    · rw [hslot] at hdr
      exact absurd hdr hx.2
  · exact .same h.order.based (by rw [State.onSlot_slot, if_neg hj])

theorem OnTrack.loaded {s : State} (h : OnTrack s) (k : SlotId) (f : Slot → Slot)
    (hs : (s.rcs.slot k).state.idle = true) (hx : (f (s.rcs.slot k)).state.hasRecipe = false)
    (hr : (f (s.rcs.slot k)).refs = (s.rcs.slot k).refs) : Keeping s (s.onSlot k f) := by
  have hidle : (s.rcs.slot k).state ≠ .active ∧ (s.rcs.slot k).state ≠ .draining := by
    revert hs
    cases (s.rcs.slot k).state <;> simp [SlotState.idle]
  have hne := SlotState.idle_of_noRecipe hx
  refine h.onIdleSlot k f hidle hne (fun hrec => ?_) ((Move.idleSlot s k f hs hne hr).booksAgree h.order.based.books)
  rw [hx] at hrec
  cases hrec

/-! ## START_TRACKING (R13) -/

theorem State.activeSlot_eq {s : State} (h : s.booksAgree) {k : SlotId} (hk : (s.rcs.slot k).state = .active) :
    s.activeSlot = some k := by
  obtain ⟨_, _, _, _, hone, _⟩ := h
  unfold State.activeSlot State.slotIn
  cases k with
  | s0 => exact if_pos hk
  | s1 => exact (if_neg fun h0 => hone ⟨h0, hk⟩).trans (if_pos hk)

theorem State.startConflict_none {s : State} (h : s.startConflict = none) : s.actuatorLead < s.gatePosition ∧
    s.readOffset < s.decisionOffset ∧ s.decisionOffset < s.gatePosition - s.actuatorLead ∧
    (s.confirmEnable = true → s.gatePosition + s.confirmTolerance < s.confirmOffset) ∧
    ∀ k, s.activeSlot = some k → (s.image k).endOffset < s.decisionOffset := by
  unfold State.startConflict at h
  split at h
  · cases h
  split at h
  · cases h
  split at h
  · cases h
  split at h
  · cases h
  rename_i h1 h2 h3 h4
  rw [not_not] at h1 h2 h3
  refine ⟨h1, h2, h3, fun hc => ?_, fun k hk => ?_⟩
  · by_contra hne
    exact h4 ⟨hc, hne⟩
  · rw [hk] at h
    simp only at h
    split at h
    · assumption
    · cases h

theorem OnTrack.startsTracking {s : State} (h : OnTrack s) (hrun : s.ctr.run = .stopped) (hc : s.startConflict = none) :
    Keeping s (s.onCtr fun c => { c with run := .running, debt := 0, slipRun := 0 }) := by
  obtain ⟨h1, h2, h3, h4, h5⟩ := State.startConflict_none hc
  refine h.started hrun ⟨h1, h2, h3, h4, fun k hk => ?_⟩
  rcases hk with hk | hk
  · exact h5 k (State.activeSlot_eq h.order.based.books hk)
  · have hpos := h.order.based.draining k hk
    obtain ⟨_, _, hrefs, _⟩ := h.order.based.books
    rw [hrefs, State.naming, (h.order.based.stopped hrun).1] at hpos
    exact absurd hpos (lt_irrefl 0)

end Sys2Proof.Machine
end

section
namespace Sys2Proof.Machine

/-! ## The Weigh Engine's hold (R61) -/

section
variable {s : State} {P : Tag → List Point} (h : Ordered s P)
include h

/-- A weigh result that is written into the entry of a can without a record brings it to AWAITING_DECISION. -/
theorem Ordered.weighed {e : Entry} (he : e ∈ s.ctr.queue) (hst : e.stage = .weighing ∨ e.stage = .awaitingDecision)
    (hw : s.windowsOf e.tag = []) (w : WeighResult) :
    Ordered (s.writeWeigh e.tag w) P ∧ Fewer s (s.writeWeigh e.tag w) := by
  have hcans := h.based.books.cansOf he
  have hpast : e.stage ≠ .enRoute := by rcases hst with hs | hs <;> rw [hs] <;> decide
  have hne : s.cansOf e.tag ≠ [] := by rw [hcans]; exact List.cons_ne_nil _ _
  have hwent := ((Went.refl hne h.inTurn).mark (f := fun x => { x with weigh := some w, stage := .awaitingDecision })
    (g := fun x => { x with stage := .awaitingDecision }) (fun _ => ⟨rfl, rfl, nofun⟩) fun _ => rfl).same
      ((SameCans.refl _).bump w.status.counter)
  rw [hcans, hw, List.map_singleton] at hwent
  have hfit := h.fits e he hpast
  rw [hw] at hfit
  have hgrow : Grows e.core { e.core with stage := .awaitingDecision } := by
    refine ⟨?_, rfl, fun _ => rfl, fun hd => ?_⟩
    · change e.stage.ctorIdx ≤ Stage.awaitingDecision.ctorIdx
      rcases hst with hs | hs
      · rw [hs]
        decide
      · rw [hs]
    · change e.stage = .decided ∨ e.stage = .awaitingConfirm at hd
      rcases hst with hs | hs <;> simp [hs] at hd
  have hon : Onward s (s.writeWeigh e.tag w) P e.tag (P e.tag) False := by
    refine hwent.onward h (fun x hx ht => ?_) (fun hC => absurd hC (List.cons_ne_nil _ _)) (fun y hy => ?_) fun y hy => ?_
    · rw [h.based.books.tag_inj hx he ht]
      exact hpast
    · rw [List.mem_singleton.mp hy]
      exact hfit.weighed (e := e) (x := { e.core with stage := .awaitingDecision }) rfl rfl rfl hst nofun
    · rw [List.mem_singleton.mp hy, hcans]
      exact ⟨e.core, List.mem_singleton_self _, hgrow⟩
  have hordered := hon.ordered
  rw [if_neg (by rw [State.writeWeigh, hwent.cans]; exact List.cons_ne_nil _ _), Function.update_eq_self] at hordered
  exact ⟨hordered, hon.fewer⟩

/-- The records may go. -/
theorem Ordered.noRecords : Ordered (s.onWge fun w => { w with records := [] }) P := by
  have hwin : ∀ tag, (s.onWge fun w => { w with records := [] }).windowsOf tag = [] := fun tag => rfl
  refine ⟨(Acts.act (T := AnyCan) .refl (.records s _ (Nat.zero_le _) le_rfl)).based h.based, h.enRouteLast, h.inTurn,
    fun tag ht => h.traces tag ?_, fun e he hs => ?_⟩
  · rw [hwin] at ht
    simp only [ne_eq, not_true_eq_false, false_or] at ht
    exact ht.imp_right .inr
  · rw [hwin]
    exact canFits_core (s := s) (t := s.onWge fun w => { w with records := [] })
      ⟨fun _ _ => rfl, rfl, fun _ _ => rfl⟩ rfl ((h.fits e he hs).fewer (List.nil_subset _) (List.Subset.refl _))

end

/-- What the hold writes for one record. -/
def heldRecord (u : State) (r : Occupancy) : State :=
  if r.window = .closed then u else u.writeWeigh r.tag (notWeighed .engineHeld)

theorem heldRecord_noRecords (l : List Occupancy) : ∀ u : State,
    (l.foldl heldRecord u).onWge (fun w => { w with records := [] }) =
      l.foldl heldRecord (u.onWge fun w => { w with records := [] }) := by
  induction l with
  | nil => exact fun _ => rfl
  | cons r l ih =>
    intro u
    rw [List.foldl_cons, ih, List.foldl_cons]
    unfold heldRecord
    split <;> rfl

/-- The cans whose windows are open get their results. -/
theorem Ordered.engineHeld {P : Tag → List Point} (l : List Occupancy) : ∀ u : State, Ordered u P →
    u.wge.records = [] → (∀ r ∈ l, r.window ≠ .closed → ∃ e ∈ u.ctr.queue, e.tag = r.tag ∧
      (e.stage = .weighing ∨ e.stage = .awaitingDecision)) →
    Ordered (l.foldl heldRecord u) P ∧ Fewer u (l.foldl heldRecord u) ∧
      (l.foldl heldRecord u).ctr.pointsDue = u.ctr.pointsDue := by
  induction l with
  | nil => exact fun u hu _ _ => ⟨hu, .refl u, rfl⟩
  | cons r l ih =>
    intro u hu hrec hl
    rw [List.foldl_cons]
    by_cases hr : r.window = .closed
    · rw [heldRecord, if_pos hr]
      exact ih u hu hrec fun x hx => hl x (List.mem_cons_of_mem _ hx)
    · rw [heldRecord, if_neg hr]
      obtain ⟨e, he, ht, hst⟩ := hl r List.mem_cons_self hr
      have hwin : u.windowsOf e.tag = [] := by rw [State.windowsOf, hrec]; rfl
      obtain ⟨hord, hfew⟩ := hu.weighed he hst hwin (notWeighed .engineHeld)
      rw [ht] at hord hfew
      obtain ⟨h1, h2, h3⟩ := ih (u.writeWeigh r.tag (notWeighed .engineHeld)) hord hrec fun x hx hx' => by
        obtain ⟨y, hy, hyt, hys⟩ := hl x (List.mem_cons_of_mem _ hx) hx'
        refine ⟨_, List.mem_map_of_mem hy, ?_, ?_⟩
        · split <;> exact hyt
        · split
          · exact .inr rfl
          · exact hys
      exact ⟨h1, hfew.trans h2, h3⟩

theorem OnTrack.held {s : State} (h : OnTrack s) : Keeping s s.holdWgeBlock := by
  have hacts : Acts AnyCan s s.holdWgeBlock := Acts.holdWgeBlock .refl anyCan
  have hclear := heldRecord_noRecords s.wge.records s
  obtain ⟨hord, hfew, hpts⟩ := Ordered.engineHeld s.wge.records _ h.order.noRecords rfl fun r hr hne => by
    have hw : r.window ∈ s.windowsOf r.tag := List.mem_map_of_mem (List.mem_filter.mpr ⟨hr, beq_self_eq_true _⟩)
    obtain ⟨e, he, ht, hs⟩ := h.order.traces r.tag (.inr (.inl (List.ne_nil_of_mem hw)))
    rw [← ht] at hw
    obtain ⟨_, _, hopen⟩ := (h.order.fits e he hs).windows _ hw
    exact ⟨e, he, ht, .inl (hopen hne)⟩
  rw [← hclear] at hord hfew hpts
  have hpts' : s.holdWgeBlock.ctr.pointsDue = s.ctr.pointsDue := hpts
  refine h.course ?_ hfew hacts.course
  rw [hpts']
  exact hord.of_based (hacts.based h.order.based) (fun _ _ => ⟨fun _ _ => rfl, rfl, fun _ _ => rfl⟩) rfl rfl rfl

/-! ## The position advances (R9, R30) -/

/-- An entry past EN_ROUTE with nothing to be taken lies less than its last point behind. -/
theorem OnRoute.close {s : State} {e : Entry} (h : OnRoute s e []) (hpl : Placed s e) :
    (s.ctr.position - e.q).toNat < 2 ^ 30 := by
  have hlast : ∃ o, s.pointOffset e s.lastPoint = some o := by
    unfold State.lastPoint
    split
    · rename_i hc
      obtain ⟨_, o, _, ho, _⟩ := hpl.close hc
      exact ⟨o, ho⟩
    · obtain ⟨_, o, _, ho, _⟩ := hpl.gate
      exact ⟨o, ho⟩
  obtain ⟨o, ho⟩ := hlast
  have hnot : ¬ o.toNat ≤ (s.ctr.position - e.q).toNat := fun hle => h.last ⟨⟨o, ho, hle⟩, List.not_mem_nil⟩
  exact lt_of_lt_of_le (not_le.mp hnot) (hpl.near _ o ho).le

theorem Pos.sub_succ {x q : Pos} (h : (x - q).toNat < 2 ^ 31) : (x + 1 - q).toNat = (x - q).toNat + 1 := by
  have : x + 1 - q = x - q + 1 := by ring
  rw [this, BitVec.toNat_add]
  rw [show (1 : Pos).toNat = 1 from rfl]
  omega

theorem State.advance_pointOffset (s : State) (e : Entry) (p : Point) :
    s.advance.pointOffset e p = s.pointOffset e p := by
  rw [State.advance_eq]
  cases p <;> rfl

theorem State.advance_position (s : State) : s.advance.ctr.position = s.ctr.position + 1 := by
  rw [State.advance_eq]
  rfl

theorem State.advance_queue (s : State) : s.advance.ctr.queue = s.ctr.queue := by
  rw [State.advance_eq]
  rfl

section
variable {s : State} (h : OnTrack s) (hp : s.ctr.pointsDue = [])
include h hp

omit h in
/-- The points that the position brings on are those that lie at it. -/
theorem State.advance_points {d : PointDue} : d ∈ s.advance.ctr.pointsDue ↔ ∃ e ∈ s.ctr.queue,
    e.stage ≠ .enRoute ∧ d.tag = e.tag ∧ s.pointOffset e d.point = some (s.ctr.position + 1 - e.q) := by
  have hdue : s.advance.ctr.pointsDue = s.reached.duePoints := by
    rw [State.advance_eq]
    exact (congrArg (· ++ _) hp).trans (List.nil_append _)
  have hoff : ∀ e, s.reached.pointOffset e d.point = s.pointOffset e d.point := fun e => by
    cases d.point <;> rfl
  rw [hdue, State.mem_duePoints]
  refine exists_congr fun e => and_congr_right fun _ => and_congr_right fun _ => and_congr_right fun _ => ?_
  rw [hoff]
  constructor
  · rintro ⟨o, ho, hx⟩
    rw [ho, show s.ctr.position + 1 = e.q + o from hx, add_sub_cancel_left]
  · exact fun ho => ⟨_, ho, (add_sub_cancel e.q (s.ctr.position + 1)).symm⟩

theorem OnTrack.advance_mem {e : Entry} (he : e ∈ s.ctr.queue) (hs : e.stage ≠ .enRoute) {p : Point} :
    p ∈ pointsOf s.advance.ctr.pointsDue e.tag ↔ s.pointOffset e p = some (s.ctr.position + 1 - e.q) := by
  rw [mem_pointsOf, State.advance_points hp]
  constructor
  · rintro ⟨x, hx, _, ht, ho⟩
    rwa [h.order.based.books.tag_inj hx he ht.symm] at ho
  · exact fun ho => ⟨e, he, hs, rfl, ho⟩

/-- What the position brings on is not yet taken; what was passed before it stays taken. -/
theorem OnTrack.advance_took {e : Entry} (he : e ∈ s.ctr.queue) (hs : e.stage ≠ .enRoute) (p : Point) :
    s.advance.tookPoint e (pointsOf s.advance.ctr.pointsDue e.tag) p ↔ s.tookPoint e [] p := by
  have hfit := h.order.fits e he hs
  rw [hp, pointsOf_nil] at hfit
  have hsucc := Pos.sub_succ (lt_trans (hfit.close (h.order.based.placed he)) (by norm_num))
  simp only [State.tookPoint, State.passed, h.advance_mem hp he hs, State.advance_pointOffset, State.advance_position,
    List.not_mem_nil, not_false_eq_true, and_true]
  constructor
  · rintro ⟨⟨o, ho, hle⟩, hne⟩
    refine ⟨o, ho, ?_⟩
    have : o.toNat ≠ (s.ctr.position + 1 - e.q).toNat := fun heq => hne (by rw [ho, BitVec.eq_of_toNat_eq heq])
    omega
  · rintro ⟨o, ho, hle⟩
    refine ⟨⟨o, ho, by omega⟩, fun heq => ?_⟩
    rw [ho, Option.some.injEq] at heq
    rw [heq] at hle
    omega

theorem OnTrack.advance_fits {e : Entry} (he : e ∈ s.ctr.queue) (hs : e.stage ≠ .enRoute) :
    CanFits s.advance e (pointsOf s.advance.ctr.pointsDue e.tag) (s.windowsOf e.tag) (s.firesOf e.tag) := by
  have hfit := h.order.fits e he hs
  rw [hp, pointsOf_nil] at hfit
  have htook := h.advance_took hp he hs
  have hlast : s.advance.lastPoint = s.lastPoint := by rw [State.advance_eq]; rfl
  have hfire : s.advance.firePos e = s.firePos e := by rw [State.advance_eq]; rfl
  have hrows : (pointsOf s.advance.ctr.pointsDue e.tag).Pairwise fun p r => p.ctorIdx < r.ctorIdx := by
    have hdue : s.advance.ctr.pointsDue = s.reached.duePoints := by
      rw [State.advance_eq]
      exact (congrArg (· ++ _) hp).trans (List.nil_append _)
    rw [hdue]
    exact pointsOf_sorted (State.duePoints_sorted (s := s.reached) h.order.based.books.tags_nodup) e.tag
  exact {
    toOnRoute := .here (by rw [hlast, htook]; exact hfit.last)
      (fun p hp' => by rw [State.advance_pointOffset, State.advance_position, (h.advance_mem hp he hs).mp hp']) hrows
    decided := by rw [htook]; exact hfit.decided
    awaiting := by rw [htook]; exact hfit.awaiting
    windows := fun w hw => by rw [htook]; exact hfit.windows w hw
    items := fun x hx => by rw [hfire]; exact hfit.items x hx }

end

theorem State.minBlock_lt (s : State) : s.minBlock < 65536 := setupNum_two_lt s.setup 10

theorem State.advance_near {s : State} (h : s.arrivalsNear) (hi : s.ctr.infeedDue = []) : s.advance.arrivalsNear := by
  have hd := s.minBlock_lt
  have hdist : (BitVec.ofNat 32 s.minBlock : Pos).toNat = s.minBlock := dist_toNat (by omega)
  unfold State.arrivalsNear
  rw [State.advance_position, State.advance_eq, show State.minBlock (s.reached.onCtr _) = s.minBlock from rfl]
  simp only [State.reached, State.onCtr, hi, List.nil_append]
  unfold EyeMonitor.whenReached
  split
  · rename_i hr
    refine ⟨fun q hq => ?_, nofun⟩
    rw [List.mem_singleton.mp hq, hr.2, add_sub_cancel_left, hdist]
    exact hd
  · rename_i hr
    refine ⟨nofun, fun hpend => ?_⟩
    simp only at hpend ⊢
    have hlt := h.2 hpend
    have hsucc := Pos.sub_succ (x := s.ctr.position) (q := s.ctr.infeed.latched) (by omega)
    have hne : (s.ctr.position + 1 - s.ctr.infeed.latched).toNat ≠ s.minBlock := fun heq => by
      refine hr ⟨hpend, ?_⟩
      rw [← BitVec.eq_of_toNat_eq (heq.trans hdist.symm)]
      exact (add_sub_cancel _ _).symm
    omega

theorem OnTrack.advanced {s : State} (h : OnTrack s) (hi : s.ctr.infeedDue = []) (hp : s.ctr.pointsDue = []) :
    Keeping s s.advance := by
  have hmoves : Moves s s.advance := Moves.advance .refl hi
  have hq := s.advance_queue
  have hparts : s.advance.wge = s.wge ∧ s.advance.gtc = s.gtc ∧ s.advance.ctr.run = s.ctr.run := by
    rw [State.advance_eq]
    exact ⟨rfl, rfl, rfl⟩
  obtain ⟨hwge, hgtc, hrun⟩ := hparts
  have hfit : s.advance.ctr.run = .running → s.advance.positionsFit := by
    rw [hrun, State.advance_eq]
    exact h.order.based.fit
  have hbase : Based s.advance :=
    ⟨hmoves.keeps (inv := State.stoppedIsEmpty) h.order.based.stopped fun _ _ h => h.stoppedIsEmpty,
      hmoves.keeps (inv := State.booksAgree) h.order.based.books fun _ _ h => h.booksAgree,
      by rw [State.advance_eq]; exact h.order.based.recipes, hfit,
      by rw [State.advance_eq]; exact h.order.based.draining⟩
  have hwin : ∀ tag, s.advance.windowsOf tag = s.windowsOf tag := fun tag => by
    rw [State.windowsOf, hwge, State.windowsOf]
  have hfire : ∀ tag, s.advance.firesOf tag = s.firesOf tag := fun tag => by
    rw [State.firesOf, hgtc, State.firesOf]
  refine ⟨⟨⟨hbase, by rw [hq]; exact h.order.enRouteLast, by rw [hgtc, hq]; exact h.order.inTurn, fun tag ht => ?_,
    fun e he hs => ?_⟩, fun d hd e he ht => ?_, State.advance_near h.near hi⟩, fun y hy => ⟨y, hq ▸ hy, rfl, .refl y⟩⟩
  · rw [hwin, hfire] at ht
    rw [hq]
    rcases ht with hne | ht
    · obtain ⟨d, hd, rfl⟩ := pointsOf_ne_nil.mp hne
      obtain ⟨e, he, hs, ht, _⟩ := (State.advance_points hp).mp hd
      exact ⟨e, he, ht.symm, hs⟩
    · exact h.order.traces tag (.inr ht)
  · rw [hq] at he
    rw [hwin, hfire]
    exact h.advance_fits hp he hs
  · rw [hq] at he
    obtain ⟨x, hx, _, hxt, ho⟩ := (State.advance_points hp).mp hd
    obtain rfl := h.order.based.books.tag_inj he hx (ht.trans hxt)
    rw [State.advance_pointOffset, State.advance_position, ho]

end Sys2Proof.Machine
end

section
namespace Sys2Proof.Machine

/-! ## The eyes (R21, R22) -/

theorem SameRoad.setMonitor (s : State) (eye : Eye) (m : EyeMonitor) : SameRoad s (s.setMonitor eye m) := by
  cases eye <;> exact ⟨rfl, rfl, rfl, rfl, rfl⟩

theorem SameRoad.recognise (s : State) (eye : Eye) (x : Pos) : SameRoad s (s.recognise eye x) := by
  cases eye <;> exact ⟨rfl, rfl, rfl, rfl, rfl⟩

theorem SameRoad.eyeBlocks (s : State) (eye : Eye) : SameRoad s (s.eyeBlocks eye) := by
  unfold State.eyeBlocks
  split
  · exact .refl s
  split
  · exact .recognise s eye _
  · exact .setMonitor s eye _

theorem SameRoad.minBlockChanged (s : State) (eye : Eye) : SameRoad s (s.minBlockChanged eye) := by
  unfold State.minBlockChanged
  split
  · exact .recognise s eye _
  · exact .refl s

theorem SameRoad.polarityChanged (s : State) (eye : Eye) : SameRoad s (s.polarityChanged eye) := by
  unfold State.polarityChanged State.watchEye
  split
  · exact (SameRoad.setMonitor s eye _).trans (.eyeBlocks _ eye)
  · exact .setMonitor s eye _

theorem SameRoad.ifChanged {s t : State} (h : SameRoad s t) (old : SetupImage) (off size : Nat) {f : State → State}
    (hf : ∀ u, SameRoad u (f u)) : SameRoad s (t.ifChanged old off size f) := by
  unfold State.ifChanged
  split
  · exact h
  · exact h.trans (hf t)

/-- A monitor whose eye sees clear holds nothing. -/
theorem State.arrivalsNear.cleared {s : State} (h : s.arrivalsNear) (eye : Eye) (x : Pos) :
    (s.setMonitor eye { state := .clear, latched := x }).arrivalsNear := by
  cases eye
  · exact ⟨h.1, nofun⟩
  · exact h

theorem State.arrivalsNear.eyeBlocks {s : State} (h : s.arrivalsNear) (eye : Eye) : (s.eyeBlocks eye).arrivalsNear := by
  unfold State.eyeBlocks
  split
  · exact h
  split
  · cases eye
    · refine ⟨fun q hq => ?_, nofun⟩
      rcases List.mem_append.mp hq with hq | hq
      · exact h.1 q hq
      · rw [List.mem_singleton.mp hq]
        exact (sub_self s.ctr.position).symm ▸ (by decide : (0 : Pos).toNat < 65536)
    · exact h
  · rename_i hd
    cases eye
    · refine ⟨h.1, fun _ => ?_⟩
      change (s.ctr.position - s.ctr.position).toNat < s.minBlock
      rw [sub_self]
      exact Nat.pos_of_ne_zero hd
    · exact h

theorem State.arrivalsNear.polarityChanged {s : State} (h : s.arrivalsNear) (eye : Eye) :
    (s.polarityChanged eye).arrivalsNear := by
  unfold State.polarityChanged State.watchEye
  split
  · exact (h.cleared eye _).eyeBlocks eye
  · exact h.cleared eye _

/-- A changed distance recognises the arrival it has reached (R21). -/
theorem State.arrivalsNear_minBlockChanged {s : State} (h : ∀ q ∈ s.ctr.infeedDue, (s.ctr.position - q).toNat < 65536)
    (hp : s.ctr.infeed.state = .pending → (s.ctr.position - s.ctr.infeed.latched).toNat < 65536) :
    (s.minBlockChanged .infeed).arrivalsNear := by
  unfold State.minBlockChanged
  split
  · rename_i hr
    refine ⟨fun q hq => ?_, nofun⟩
    rcases List.mem_append.mp hq with hq | hq
    · exact h q hq
    · rw [List.mem_singleton.mp hq]
      exact hp hr.1
  · rename_i hr
    refine ⟨h, fun hpend => ?_⟩
    have hd := s.minBlock_lt
    have hdist := dist_toNat (n := s.minBlock) (by omega)
    have hlt := hp hpend
    have hnot : ¬ atOrAfter s.ctr.position (s.ctr.infeed.latched + dist s.minBlock) = true := fun ha => hr ⟨hpend, ha⟩
    rw [atOrAfter, decide_eq_true_iff, sub_add_eq_sub_sub, BitVec.toNat_sub, hdist] at hnot
    generalize (s.ctr.position - s.ctr.infeed.latched).toNat = r at *
    omega

theorem State.arrivalsNear.confirmChanged {s : State} (h : s.arrivalsNear) :
    (s.minBlockChanged .confirm).arrivalsNear := by
  unfold State.minBlockChanged
  split <;> exact h

theorem OnTrack.eyeBlocked {s : State} (h : OnTrack s) (eye : Eye) : Keeping s (s.eyeBlocks eye) :=
  (SameRoad.eyeBlocks s eye).keeping h
    ((Moves.eyeBlocks .refl eye).keeps (inv := State.booksAgree) h.order.based.books fun _ _ h => h.booksAgree)
    (h.near.eyeBlocks eye)

theorem OnTrack.cleared {s : State} (h : OnTrack s) (eye : Eye) (x : Pos) :
    Keeping s (s.setMonitor eye { state := .clear, latched := x }) :=
  (SameRoad.setMonitor s eye _).keeping h
    ((Moves.setMonitor .refl eye { state := .clear, latched := x } nofun).keeps (inv := State.booksAgree)
      h.order.based.books fun _ _ h => h.booksAgree) (h.near.cleared eye x)

theorem OnTrack.eyeCleared {s : State} (h : OnTrack s) (eye : Eye) : Keeping s (s.eyeClears eye) := by
  unfold State.eyeClears
  split
  · exact h.refl
  · have hc := h.cleared eye (s.monitor eye).latched
    exact hc.trans (hc.track.same ((SameCans.refl _).bump _))
  · exact h.cleared eye _

/-! ## The setup is written (R171) -/

section
variable {s : State} (h : OnTrack s) (f : SetupImage → SetupImage)
  (hlive : s.ctr.run = .running → ∀ x ∈ placingFields, setupNum (f s.setup) x.1 x.2 = setupNum s.setup x.1 x.2)
include h hlive

theorem OnTrack.written_ground (e : Entry) (he : e ∈ s.ctr.queue) : SameGround e.slot s (s.onSetup f) := by
  have hrun : s.ctr.run = .running := by
    cases hr : s.ctr.run
    · rw [(h.order.based.stopped hr).1] at he
      cases he
    · rfl
  exact ⟨hlive hrun, rfl, fun _ _ => rfl⟩

/-- While tracking runs no written field places a point; while it does not, there is no can. -/
theorem OnTrack.written_order : Ordered (s.onSetup f) (pointsOf s.ctr.pointsDue) := by
  refine h.order.of_based ⟨h.order.based.stopped, h.order.based.books, h.order.based.recipes, fun hrun => ?_,
    h.order.based.draining⟩ (h.written_ground f hlive) rfl rfl rfl
  have hg : SameGround none s (s.onSetup f) := ⟨hlive hrun, rfl, fun _ _ => rfl⟩
  obtain ⟨hread, hdec, hgate, hlead, hc, hoff, htol⟩ := hg.fields
  have hfit := h.order.based.fit hrun
  unfold State.positionsFit at hfit ⊢
  rw [hread, hdec, hgate, hlead, hc, hoff, htol]
  exact hfit

theorem OnTrack.written_here : (s.onSetup f).pointsHere :=
  h.here.grown h.order s.due_ne (h.written_ground f hlive) (fun _ hd => hd) fun y hy _ _ _ => ⟨y, hy, rfl, .refl y⟩

omit hlive in
/-- The arrivals are near again once the eyes know the new distance. -/
theorem OnTrack.written_near : ((s.onSetup f).ifChanged s.setup 10 2 fun t =>
    (t.minBlockChanged .infeed).minBlockChanged .confirm).arrivalsNear := by
  unfold State.ifChanged
  split
  · rename_i hsame
    refine h.near.of (fun _ hq => hq) rfl rfl ?_
    rw [State.minBlock, ← hsame, State.minBlock]
  · exact (State.arrivalsNear_minBlockChanged (s := s.onSetup f) h.near.1
      fun hp => (h.near.2 hp).trans s.minBlock_lt).confirmChanged

theorem OnTrack.written : Keeping s ((s.onSetup f).setupEffects s.setup) := by
  have hpol : ∀ {u : State} (off : Nat) (eye : Eye), u.arrivalsNear →
      (u.ifChanged s.setup off 1 fun t => t.polarityChanged eye).arrivalsNear := fun {u} off eye hu => by
    unfold State.ifChanged
    split
    · exact hu
    · exact hu.polarityChanged eye
  have hnear : ((s.onSetup f).eyeEffects s.setup).arrivalsNear := hpol 13 .confirm (hpol 12 .infeed (h.written_near f))
  have hroad : SameRoad (s.onSetup f) ((s.onSetup f).eyeEffects s.setup) :=
    (((SameRoad.refl _).ifChanged _ 10 2 fun u => (SameRoad.minBlockChanged u .infeed).trans
      (.minBlockChanged _ .confirm)).ifChanged _ 12 1 fun u => .polarityChanged u .infeed).ifChanged _ 13 1
        fun u => .polarityChanged u .confirm
  have hbooks : ((s.onSetup f).eyeEffects s.setup).booksAgree :=
    (Moves.eyeEffects (s := s.onSetup f) .refl s.setup).keeps (inv := State.booksAgree) h.order.based.books
      fun _ _ h => h.booksAgree
  have htrack := hroad.track (h.written_order f hlive) (h.written_here f hlive) hbooks hnear
  have hsame := htrack.same (State.otherEffects_sameCans _ s.setup)
  have hfew : Fewer s ((s.onSetup f).eyeEffects s.setup) := fun y hy => ⟨y, hroad.queue ▸ hy, rfl, .refl y⟩
  rw [State.setupEffects_eq]
  exact ⟨hsame.track, hfew.trans hsame.fewer⟩

end

/-! ## Deeds -/

theorem Deed.keeping {s t : State} (h : Deed s t) (hs : OnTrack s) : Keeping s t := by
  cases h with
  | same h => exact hs.same h
  | aside h ht => exact hs.aside h ht
  | point tag p => exact hs.point tag p
  | confirmed y => exact hs.confirmed y
  | expired e he => exact hs.expired he
  | flushed => exact hs.flushed
  | stopped hq hr hw => exact hs.stopped hq hr hw
  | held => exact hs.held
  | advanced hi hp => exact hs.advanced hi hp
  | eyeBlocked eye => exact hs.eyeBlocked eye
  | eyeCleared eye => exact hs.eyeCleared eye
  | written f hlive => exact hs.written f hlive
  | loaded k f hi hx hr => exact hs.loaded k f hi hx hr
  | changedOver k hv hd hfit => exact hs.changedOver hv hd hfit
  | productStopped k ha hd => exact hs.productStopped ha hd
  | started hr hc => exact hs.startsTracking hr hc

theorem Deeds.keeping {s t : State} (h : Deeds s t) (hs : OnTrack s) : Keeping s t := by
  induction h with
  | refl => exact hs.refl
  | tail _ h ih => exact ih.trans (h.keeping ih.track)

/-! ## Turns -/

/-- The Line Interface and the Management Agent do not bear on the cans while the books agree. -/
theorem OnTrack.elsewhere {s t : State} (h : OnTrack s) (hr : SameRoad s t) (hi : t.ctr = s.ctr) (hb : t.booksAgree) :
    Keeping s t :=
  hr.keeping h hb (h.near.of (fun q hq => hi ▸ hq) (by rw [hi]) (by rw [hi])
    (by rw [State.minBlock, hr.setup, State.minBlock]))

theorem OnTrack.reset {s : State} {cause : ResetCause} {phase : Phase} (hb : (s.assertReset cause phase).booksAgree) :
    OnTrack (s.assertReset cause phase) := by
  refine .empty ⟨fun _ => ⟨rfl, rfl, rfl⟩, hb, fun k hk => ?_, nofun, fun k hk => ?_⟩ rfl rfl rfl rfl ⟨nofun, nofun⟩
  · cases k <;> cases hk
  · cases k <;> cases hk

theorem Turn.keeping {s t : State} (h : Turn s t) (hs : OnTrack s) : Keeping s t := by
  have hbooks := h.booksAgree hs.order.based.books
  cases h with
  | deed h => exact h.keeping hs
  | replied x hv hroom => exact hs.elsewhere ⟨rfl, rfl, rfl, rfl, rfl⟩ rfl hbooks
  | begun v hroom hv => exact hs.elsewhere ⟨rfl, rfl, rfl, rfl, rfl⟩ rfl hbooks
  | completed x hv h =>
    have hend : Keeping s s.endService := hs.elsewhere ⟨rfl, rfl, rfl, rfl, rfl⟩ rfl hs.order.based.books.ended
    have hdeeds := hend.trans (h.keeping hend.track)
    exact hdeeds.trans (hdeeds.track.elsewhere ⟨rfl, rfl, rfl, rfl, rfl⟩ rfl hbooks)
  | verified x r k f hv hx hr hf h =>
    have hend : Keeping s s.endService := hs.elsewhere ⟨rfl, rfl, rfl, rfl, rfl⟩ rfl hs.order.based.books.ended
    obtain ⟨_, _, _, h4, _, _, h7⟩ := hs.order.based.books
    have hver : (s.rcs.slot k).state = .verifying := h7 _ k hv rfl
    have hne : (s.rcs.slot k).state ≠ .active ∧ (s.rcs.slot k).state ≠ .draining := by rw [hver]; decide
    have hslot : Keeping s.endService (s.endService.onSlot k f) := by
      refine hend.track.onIdleSlot k f hne hx hf ?_
      refine booksAgree_onSlot hs.order.based.books.ended k f hr (fun _ _ => h4 k hne.1 hne.2) (fun x hx' hfx => ?_)
        fun w hw => by cases hw
      rcases hx' with rfl | rfl
      · exact absurd hfx hx.1
      · exact absurd hfx hx.2
    have hdeeds := (hend.trans hslot).trans (h.keeping hslot.track)
    exact hdeeds.trans (hdeeds.track.elsewhere ⟨rfl, rfl, rfl, rfl, rfl⟩ rfl hbooks)
  | reset cause phase => exact ⟨.reset hbooks, .empty rfl⟩

theorem Turns.keeping {s t : State} (h : Turns s t) (hs : OnTrack s) : Keeping s t := by
  induction h with
  | refl => exact hs.refl
  | tail _ h ih => exact ih.trans (h.keeping ih.track)

end Sys2Proof.Machine
end

section
/-!
An arrival (01 R23 to R26): a can's entry gets its place past EN_ROUTE, with every point gone by still to be taken; the
hand-off gives it its record; then the points gone by are announced.
-/

namespace Sys2Proof.Machine

/-! ## The points gone by -/

theorem pointsGoneBy_congr {s t : State} {e x : Entry} (hg : SameGround e.slot s t) (hslot : x.slot = e.slot)
    (hq : x.infeedPos = e.infeedPos) : t.pointsGoneBy x = s.pointsGoneBy e := by
  unfold State.pointsGoneBy
  simp only [pointOffset_congr hg hslot, hg.position, Entry.q, hq]

/-- Of an entry close behind the position, the points gone by are those it has passed. -/
theorem State.mem_pointsGoneBy {s : State} {e : Entry} (hpl : Placed s e)
    (hnear : (s.ctr.position - e.q).toNat < 65536) {p : Point} : p ∈ s.pointsGoneBy e ↔ s.passed e p := by
  obtain ⟨l, hl, _, hperm⟩ := s.pointsGoneBy_eq e
  rw [hl, (hperm.map _).mem_iff, List.mem_map]
  constructor
  · rintro ⟨⟨o, r⟩, hx, rfl⟩
    obtain ⟨ho, ha⟩ := State.mem_goneBy.mp hx
    exact (State.passed_iff_atOrAfter hnear ho (hpl.near _ o ho)).mp ha
  · intro hp
    obtain ⟨o, ho, _⟩ := id hp
    exact ⟨(o, p), State.mem_goneBy.mpr ⟨ho, (State.passed_iff_atOrAfter hnear ho (hpl.near _ o ho)).mpr hp⟩, rfl⟩

theorem State.pointsGoneBy_sorted (s : State) (e : Entry) : (s.pointsGoneBy e).Pairwise (s.precedes e) := by
  obtain ⟨l, hl, hsorted, hperm⟩ := s.pointsGoneBy_eq e
  rw [hl, List.pairwise_map]
  refine hsorted.imp_of_mem fun {x y} hx hy hb o o' ho ho' => ?_
  obtain ⟨hxo, _⟩ := State.mem_goneBy.mp (hperm.mem_iff.mp hx)
  obtain ⟨hyo, _⟩ := State.mem_goneBy.mp (hperm.mem_iff.mp hy)
  rw [hxo] at ho
  rw [hyo] at ho'
  cases ho
  cases ho'
  exact hb

/-- A can that arrives has all its points gone by still to be taken. -/
theorem CanFits.arriving {s : State} {e : Entry} (hpl : Placed s e) (hstage : e.stage = .weighing)
    (hnear : (s.ctr.position - e.q).toNat < 65536) : CanFits s e (s.pointsGoneBy e) [] [] := by
  have hmem : ∀ {p}, p ∈ s.pointsGoneBy e ↔ s.passed e p := State.mem_pointsGoneBy hpl hnear
  have hnone : ∀ p, ¬ s.tookPoint e (s.pointsGoneBy e) p := fun p hp => hp.2 (hmem.mpr hp.1)
  exact {
    last := hnone _
    due := fun p hp => hmem.mp hp
    behind := fun _ _ r _ hr => hmem.mpr hr
    sorted := s.pointsGoneBy_sorted e
    decided := by simp [hstage, hnone]
    awaiting := by simp [hstage, hnone]
    windows := nofun
    items := nofun }

/-- At its own position an arrival has passed no point with which it may leave. -/
theorem State.pointsGoneBy_here {s : State} {e : Entry} (hpl : Placed s e) (hq : e.q = s.ctr.position) :
    ∀ p ∈ s.pointsGoneBy e, ¬ p.ends := by
  intro p hp hends
  have hzero : s.ctr.position - e.q = 0 := by rw [hq, sub_self]
  obtain ⟨o, ho, hle⟩ := (State.mem_pointsGoneBy hpl (by rw [hzero]; decide)).mp hp
  have hpos := hpl.ahead p (by rcases hends with rfl | rfl <;> simp) o ho
  rw [hzero] at hle
  exact absurd hpos (Nat.not_lt.mpr hle)

/-! ## Nobody leaves -/

/-- Every tag of `s` is a tag of `t`. -/
def Whole (s t : State) : Prop := ∀ x ∈ s.ctr.queue, ∃ y ∈ t.ctr.queue, y.tag = x.tag

theorem Whole.of_tags {s t : State} (h : t.ctr.queue.map (·.tag) = s.ctr.queue.map (·.tag)) : Whole s t := fun x hx => by
  have := List.mem_map_of_mem (f := Entry.tag) hx
  rw [← h] at this
  obtain ⟨y, hy, hyx⟩ := List.mem_map.mp this
  exact ⟨y, hy, hyx⟩

theorem Whole.trans {s t u : State} (h : Whole s t) (g : Whole t u) : Whole s u := fun x hx => by
  obtain ⟨y, hy, hyx⟩ := h x hx
  obtain ⟨z, hz, hzy⟩ := g y hy
  exact ⟨z, hz, hzy.trans hyx⟩

theorem SameCans.whole {s t : State} (h : SameCans s t) : Whole s t := .of_tags (Entry.core_tag h.queue)

theorem State.cansOf_ne {s : State} {tag : Tag} : s.cansOf tag ≠ [] ↔ ∃ e ∈ s.ctr.queue, e.tag = tag := by
  constructor
  · intro h
    obtain ⟨y, hy⟩ := List.exists_mem_of_ne_nil _ h
    obtain ⟨e, he, ht, _⟩ := State.mem_cansOf.mp hy
    exact ⟨e, he, ht⟩
  · rintro ⟨e, he, ht⟩
    exact List.ne_nil_of_mem (State.mem_cansOf.mpr ⟨e, he, ht, rfl⟩)

/-- Where one can goes on and stays, all stay. -/
theorem Acts.whole {tag : Tag} {s t : State} (h : Acts (Eq tag) s t) (hc : s.cansOf tag ≠ [] → t.cansOf tag ≠ []) :
    Whole s t := fun x hx => by
  have hx' : s.cansOf x.tag ≠ [] := State.cansOf_ne.mpr ⟨x, hx, rfl⟩
  refine State.cansOf_ne.mp ?_
  by_cases ht : x.tag = tag
  · rw [ht] at hx' ⊢
    exact hc hx'
  · rwa [h.others ht]

/-! ## The announcements (R26) -/

theorem foldl_announce_absent {tag : Tag} (l : List Point) : ∀ u : State, u.cansOf tag = [] →
    l.foldl (fun t p => t.announce tag p) u = u := by
  induction l with
  | nil => exact fun _ _ => rfl
  | cons p l ih =>
    intro u hu
    have hnone : u.entry tag = none := by
      rw [State.cansOf, List.map_eq_nil_iff, List.filter_eq_nil_iff] at hu
      exact List.find?_eq_none.mpr hu
    rw [List.foldl_cons, State.announce_eq, if_pos hnone]
    exact ih u hu

/-- From `s` to `t` the points `l` of a can have been announced. -/
structure Announced (s t : State) (P : Tag → List Point) (tag : Tag) (l : List Point) : Prop where
  ordered : Ordered t (Function.update P tag [])
  fewer : Fewer s t
  points : pointsOf s.ctr.pointsDue tag = [] → pointsOf t.ctr.pointsDue = pointsOf s.ctr.pointsDue
  stays : (∀ p ∈ l, ¬ p.ends) → s.cansOf tag ≠ [] → t.cansOf tag ≠ []

theorem Ordered.announced {tag : Tag} (l : List Point) : ∀ (s : State) (P : Tag → List Point), Ordered s P →
    P tag = l →
    Announced s (l.foldl (fun t p => t.announce tag p) s) P tag l := by
  induction l with
  | nil =>
    intro s P h hP
    have hself := Function.update_eq_self tag P
    rw [hP] at hself
    exact ⟨by rwa [hself], .refl s, fun _ => rfl, fun _ h => h⟩
  | cons p l ih =>
    intro s P h hP
    obtain ⟨e, hf⟩ := h.facing hP
    have hne : s.entry tag ≠ none := by rw [hf.entry h.based.books]; exact nofun
    have hon := h.takes hP
    rw [List.foldl_cons, State.announce_eq, if_neg hne]
    by_cases hgone : (p.act s tag).cansOf tag = []
    · rw [foldl_announce_absent l _ hgone]
      have hord := hon.ordered
      have hpts := hon.points
      rw [if_pos hgone] at hord hpts
      refine ⟨hord, hon.fewer, fun hnil => ?_, fun hends => absurd (hon.gone hgone) (hends p List.mem_cons_self)⟩
      rw [hpts, pointsOf_filter, ← hnil, Function.update_eq_self]
    · have hord := hon.ordered
      have hpts := hon.points
      rw [if_neg hgone] at hord hpts
      obtain ⟨h1, h2, h3, h4⟩ := ih _ _ hord (Function.update_self _ _ _)
      rw [Function.update_idem] at h1
      rw [hpts] at h3
      exact ⟨h1, hon.fewer.trans h2, h3, fun hends _ => h4 (fun r hr => hends r (List.mem_cons_of_mem _ hr)) hgone⟩

/-! ## The hand-off (02 R42, R43) -/

/-- A record joins the occupancy list. -/
theorem Went.recordJoins {tag : Tag} {s t : State} {C : List Entry} {R : List WindowState} {X : List Pos}
    (h : Went tag s t C R X) (hC : C ≠ []) (r : Occupancy) (hr : r.tag = tag) (hroom : t.wge.records.length < 4) :
    Went tag s (t.onWge fun w => { w with records := w.records ++ [r] }) C (R ++ [r.window]) X where
  only := by
    have hq : t.ctr.queue ≠ [] := fun hq => hC (by rw [← h.cans, State.cansOf, hq]; rfl)
    refine ⟨h.only.acts.act (.handed t r hq hroom), fun x hx => ?_, h.only.fires⟩
    rw [← h.only.windows x hx]
    simp [State.windowsOf, State.onWge, hr, Ne.symm hx]
  cans := h.cans
  windows := by
    rw [← h.windows]
    simp [State.windowsOf, State.onWge, hr]
  fires := h.fires
  points := h.points
  inTurn := h.inTurn

/-- A can that has just arrived, all of its points gone by to be taken. -/
structure Arriving (s : State) (P : Tag → List Point) (e : Entry) : Prop where
  ordered : Ordered s (Function.update P e.tag (s.pointsGoneBy e))
  mem : e ∈ s.ctr.queue
  weighing : e.stage = .weighing
  windows : s.windowsOf e.tag = []
  near : (s.ctr.position - e.q).toNat < 65536

section
variable {s : State} {P : Tag → List Point} {e : Entry} (h : Arriving s P e)
include h

theorem Arriving.past : e.stage ≠ .enRoute := by
  rw [h.weighing]
  decide

/-- A record that waits for the settle point fits a can whose end point is still to come. -/
theorem Arriving.waits (hslot : e.slot ≠ none) :
    CanFits s e (s.pointsGoneBy e) [.waiting] (s.firesOf e.tag) := by
  have hfit := h.ordered.fits e h.mem h.past
  rw [Function.update_self] at hfit
  have hnone : ¬ s.tookPoint e (s.pointsGoneBy e) .endOfWindow := fun ht => ht.2
    ((State.mem_pointsGoneBy (h.ordered.based.placed h.mem) h.near).mpr ht.1)
  have hwindows : ∀ w ∈ [WindowState.waiting], e.slot ≠ none ∧
      (w = .closed ↔ s.tookPoint e (s.pointsGoneBy e) .endOfWindow) ∧ (w ≠ .closed → e.stage = .weighing) := by
    intro w hw
    rw [List.mem_singleton.mp hw]
    exact ⟨hslot, ⟨nofun, fun ht => absurd ht hnone⟩, fun _ => h.weighing⟩
  exact { hfit with windows := hwindows }

theorem Arriving.recordJoins (hslot : e.slot ≠ none) (hroom : s.wge.records.length < 4) (r : Occupancy)
    (hr : r.tag = e.tag) (hw : r.window = .waiting) :
    Ordered (s.onWge fun w => { w with records := w.records ++ [r] }) (Function.update P e.tag (s.pointsGoneBy e)) ∧
      Fewer s (s.onWge fun w => { w with records := w.records ++ [r] }) := by
  have hcans := h.ordered.based.books.cansOf h.mem
  have hne : s.cansOf e.tag ≠ [] := by rw [hcans]; exact List.cons_ne_nil _ _
  have hwent := (Went.refl hne h.ordered.inTurn).recordJoins hne r hr hroom
  rw [hcans, h.windows, List.nil_append, hw] at hwent
  have hon := hwent.onward (rest := s.pointsGoneBy e) (last := False) h.ordered (fun x hx ht => by
      rw [h.ordered.based.books.tag_inj hx h.mem ht]
      exact h.past) (fun hC => absurd hC (List.cons_ne_nil _ _)) (fun y hy => by
        rw [List.mem_singleton.mp hy]
        exact canFits_core (.refl _ s) (x := e.core) (e := e) rfl (h.waits hslot)) fun y hy => by
          rw [List.mem_singleton.mp hy, hcans]
          exact ⟨e.core, List.mem_singleton_self _, .refl _⟩
  have hord := hon.ordered
  rw [if_neg (by rw [hwent.cans]; exact List.cons_ne_nil _ _), Function.update_idem] at hord
  exact ⟨hord, hon.fewer⟩

theorem Arriving.handOff : Ordered (s.handOff e.tag e.slot) (Function.update P e.tag (s.pointsGoneBy e)) ∧
    Fewer s (s.handOff e.tag e.slot) ∧ Whole s (s.handOff e.tag e.slot) ∧
    (s.handOff e.tag e.slot).ctr.pointsDue = s.ctr.pointsDue := by
  have hwrite : ∀ w, Whole s (s.writeWeigh e.tag w) := fun w =>
    .of_tags (State.onEntry_map s e.tag _ (·.tag) fun _ => rfl)
  have hweighed := fun w => h.ordered.weighed h.mem (.inl h.weighing) h.windows w
  unfold State.handOff
  split
  · exact ⟨(hweighed _).1, (hweighed _).2, hwrite _, rfl⟩
  split
  · exact ⟨(hweighed _).1, (hweighed _).2, hwrite _, rfl⟩
  split
  · have hcrowd : ∀ u : State, SameCans u ((u.onWge fun w => { w with records := w.records.map fun r =>
        if r.window = .closed then r else r.markDouble }).bump .platformCrowded) := fun u =>
      ((SameCans.refl u).mapRecords _ fun r => by split <;> rfl).bump _
    unfold State.crowded
    exact ⟨(hweighed _).1.same (hcrowd _), (hweighed _).2.trans (hcrowd _).fewer, (hwrite _).trans (hcrowd _).whole, rfl⟩
  · rename_i hslot hroom
    obtain ⟨hord, hfew⟩ := h.recordJoins (by simpa using hslot) (by omega)
      { tag := e.tag, platform := .approaching, window := .waiting, acc := Accumulator.empty } rfl rfl
    exact ⟨hord, hfew, .of_tags rfl, rfl⟩

/-- The hand-off and the announcements of an arrival (R26). -/
theorem Arriving.arrived (hP : P e.tag = []) (hp : pointsOf s.ctr.pointsDue e.tag = []) :
    Ordered (s.arrived e.tag e.slot) P ∧ Fewer s (s.arrived e.tag e.slot) ∧
      pointsOf (s.arrived e.tag e.slot).ctr.pointsDue = pointsOf s.ctr.pointsDue ∧
      (e.q = s.ctr.position → Whole s (s.arrived e.tag e.slot)) := by
  obtain ⟨hord, hfew, hwhole, hdue⟩ := h.handOff
  have hacts : Acts (Eq e.tag) s (s.handOff e.tag e.slot) := Acts.handOff .refl rfl e.slot (List.ne_nil_of_mem h.mem)
  obtain ⟨y, hy, hyt⟩ := hwhole e h.mem
  obtain ⟨x, hx, hxy, hgrow⟩ := hfew y hy
  obtain rfl := h.ordered.based.books.tag_inj hx h.mem (hxy.trans hyt)
  have hslot : y.slot = x.slot := by
    have hmade := hgrow.made
    simp only [Entry.made, Prod.mk.injEq] at hmade
    obtain ⟨_, _, _, _, hslot, _⟩ := hmade
    exact hslot
  have hpoints : (s.handOff x.tag x.slot).pointsGoneBy y = s.pointsGoneBy x :=
    pointsGoneBy_congr (hacts.course.ground _) hslot (hgrow.arrived h.past)
  have hannounce := State.announceGoneBy_eq (State.entry_of_mem hord.based.books.tags hy)
  rw [hyt, hpoints] at hannounce
  have hfold : s.arrived x.tag x.slot =
      (s.pointsGoneBy x).foldl (fun t p => t.announce x.tag p) (s.handOff x.tag x.slot) := hannounce
  obtain ⟨h1, h2, h3, h4⟩ := hord.announced (tag := x.tag) (s.pointsGoneBy x) _ _ (Function.update_self _ _ _)
  rw [Function.update_idem, ← hP, Function.update_eq_self] at h1
  rw [← hfold] at h1 h2 h3 h4
  rw [hdue] at h3
  refine ⟨h1, hfew.trans h2, h3 hp, fun hq => ?_⟩
  have hall : Acts (Eq x.tag) s (s.arrived x.tag x.slot) := Acts.arrived .refl rfl x.slot (List.ne_nil_of_mem h.mem)
  refine hall.whole fun _ => h4 (State.pointsGoneBy_here (h.ordered.based.placed h.mem) hq) ?_
  exact State.cansOf_ne.mpr ⟨y, hy, hyt⟩

end

end Sys2Proof.Machine
end

section
namespace Sys2Proof.Machine

/-! ## An arrival pairs (R23) -/

/-- A can that has not arrived leaves no trace. -/
theorem Ordered.noTrace {s : State} {P : Tag → List Point} (h : Ordered s P) {e : Entry} (he : e ∈ s.ctr.queue)
    (hs : e.stage = .enRoute) : P e.tag = [] ∧ s.windowsOf e.tag = [] ∧ s.firesOf e.tag = [] := by
  by_contra hne
  obtain ⟨x, hx, ht, hpast⟩ := h.traces e.tag (by tauto)
  rw [h.based.books.tag_inj hx he ht] at hpast
  exact hpast hs

/-- The oldest can that has not arrived arrives: those behind it stay behind. -/
theorem enRouteLast_mark {l : List Entry} {e : Entry} {f : Entry → Entry} (hnd : (l.map (·.tag)).Nodup)
    (hl : l.Pairwise fun x y => x.stage = .enRoute → y.stage = .enRoute)
    (he : l.find? (fun x => x.stage == .enRoute) = some e) (hf : ∀ x, (f x).stage ≠ .enRoute) :
    (l.map fun x => if x.tag == e.tag then f x else x).Pairwise fun x y => x.stage = .enRoute → y.stage = .enRoute := by
  obtain ⟨_, as, bs, rfl, has⟩ := List.find?_eq_some_iff_append.mp he
  obtain ⟨_, hlb, _⟩ := List.pairwise_append.mp hl
  have hbs : (bs.map fun x => if x.tag == e.tag then f x else x) = bs := by
    refine (List.map_congr_left fun x hx => ?_).trans (List.map_id bs)
    rw [List.map_append, List.map_cons, List.nodup_append] at hnd
    have hne : x.tag ≠ e.tag := fun ht =>
      (List.nodup_cons.mp hnd.2.1).1 (ht ▸ List.mem_map_of_mem hx)
    simp [hne]
  rw [List.map_append, List.map_cons, hbs, if_pos (beq_self_eq_true e.tag), List.pairwise_append, List.pairwise_cons]
  have hpast : ∀ x ∈ as.map fun x => if x.tag == e.tag then f x else x, x.stage ≠ .enRoute := by
    intro x hx
    obtain ⟨y, hy, rfl⟩ := List.mem_map.mp hx
    split
    · exact hf y
    · simpa using has y hy
  refine ⟨List.pairwise_of_forall_mem_list fun x hx y _ hs => absurd hs (hpast x hx),
    ⟨fun _ _ hs => absurd hs (hf e), (List.pairwise_cons.mp hlb).2⟩, fun x hx y _ hs => absurd hs (hpast x hx)⟩

/-- The entry of an arrival at `q`. -/
def Entry.arrivedAt (e : Entry) (q : Pos) : Entry := { e with infeedPos := some q, stage := .weighing }

/-- The pairing itself (R23). -/
def State.paired (s : State) (e : Entry) (q : Pos) : State :=
  ((s.onEntry e.tag fun x => x.arrivedAt q).onCtr fun c => { c with slipRun := 0 }).bump .paired

section
variable {s : State} {P : Tag → List Point} (h : Ordered s P) {e : Entry} (he : s.oldestEnRoute = some e) {q : Pos}
  (hq : (s.ctr.position - q).toNat < 65536)
include h he

theorem Ordered.paired_only : OnlyAt e.tag s (s.paired e q) ∧ (s.paired e q).cansOf e.tag = [(e.arrivedAt q).core] := by
  have hmem := List.mem_of_find?_eq_some he
  have hsame : SameCans (s.onEntry e.tag fun x => x.arrivedAt q) (s.paired e q) := ((SameCans.refl _).slipRun 0).bump .paired
  refine ⟨⟨(Acts.act .refl (.mark s e.tag rfl (fun x => x.arrivedAt q) fun _ => ⟨rfl, rfl, nofun⟩)).same hsame,
    fun _ _ => rfl, fun _ _ => rfl⟩, ?_⟩
  have hfilter := filter_mapAt Entry.tag (fun x => x.arrivedAt q) (fun _ => rfl) e.tag e.tag s.ctr.queue
  rw [if_pos rfl] at hfilter
  rw [hsame.cansOf]
  refine (congrArg (List.map Entry.core) hfilter).trans ?_
  have hcans := h.based.books.cansOf hmem
  rw [State.cansOf] at hcans
  obtain ⟨x, hx, hxe⟩ := List.map_eq_singleton_iff.mp hcans
  rw [hx, List.map_singleton, List.map_singleton]
  have : (x.core.arrivedAt q).core = (e.core.arrivedAt q).core := by rw [hxe]
  exact congrArg (fun y => [y]) this

include hq

theorem Ordered.paired : Arriving (s.paired e q) P (e.arrivedAt q) := by
  have hmem := List.mem_of_find?_eq_some he
  have hstage : e.stage = .enRoute := by simpa using List.find?_some he
  obtain ⟨_, hwin, hfire⟩ := h.noTrace hmem hstage
  obtain ⟨honly, hcans⟩ := h.paired_only he (q := q)
  have hg := honly.acts.course.ground (e.arrivedAt q).slot
  have hpl : Placed s (e.arrivedAt q) := placed_congr (e := e) (.refl _ s) rfl (h.based.placed hmem)
  refine ⟨h.onlyAt honly (enRouteLast_mark h.based.books.tags h.enRouteLast he fun _ => nofun) (fun x hx ht => ?_) ?_
    (fun x hx => Function.update_of_ne hx _ _) (.inl (by rw [hcans]; exact List.cons_ne_nil _ _)) ?_, ?_, rfl, hwin, hq⟩
  · obtain ⟨y, hy, rfl⟩ := List.mem_map.mp (show x ∈ s.ctr.queue.map _ from hx)
    split
    · exact nofun
    · rename_i hne
      rw [if_neg hne] at ht
      exact absurd (beq_iff_eq.mpr ht) hne
  · have htags : (s.paired e q).ctr.queue.map (·.tag) = s.ctr.queue.map (·.tag) :=
      State.onEntry_map s e.tag _ (·.tag) fun _ => rfl
    rw [htags]
    exact h.inTurn
  · rw [hcans]
    intro y hy
    have hfit : CanFits s (e.arrivedAt q) (s.pointsGoneBy (e.arrivedAt q)) [] [] := .arriving hpl rfl hq
    rw [List.mem_singleton.mp hy, show (e.arrivedAt q).tag = e.tag from rfl, Function.update_self,
      pointsGoneBy_congr (s := s) (e := e.arrivedAt q) hg rfl rfl, show (s.paired e q).windowsOf e.tag = [] from hwin,
      show (s.paired e q).firesOf e.tag = [] from hfire]
    exact canFits_core (s := s) (.refl _ s) (x := (e.arrivedAt q).core) (e := e.arrivedAt q) rfl hfit
  · have := List.mem_map_of_mem (f := fun x : Entry => if x.tag == e.tag then x.arrivedAt q else x) hmem
    rwa [if_pos (beq_self_eq_true e.tag)] at this

end

theorem OnTrack.pair {s : State} (h : OnTrack s) {e : Entry} (he : s.oldestEnRoute = some e) {q : Pos}
    (hq : (s.ctr.position - q).toNat < 65536) :
    Keeping s (s.pair e q) ∧ (q = s.ctr.position → Whole s (s.pair e q)) := by
  have hmem := List.mem_of_find?_eq_some he
  have hstage : e.stage = .enRoute := by simpa using List.find?_some he
  obtain ⟨hP, _⟩ := h.order.noTrace hmem hstage
  obtain ⟨honly, hcans⟩ := h.order.paired_only he (q := q)
  obtain ⟨hord, hfew, hpts, hwhole⟩ := (h.order.paired he hq).arrived hP hP
  have hgrow : Grows e.core (e.arrivedAt q).core := by
    have hcore : e.core.stage = .enRoute := hstage
    refine ⟨?_, rfl, fun hne => absurd hcore hne, fun hd => ?_⟩
    · rw [hcore]
      exact Nat.zero_le _
    · rw [hcore] at hd
      rcases hd with hd | hd <;> cases hd
  have hfew' : Fewer s (s.paired e q) := honly.fewer fun y hy => by
    rw [hcans] at hy
    rw [List.mem_singleton.mp hy, h.order.based.books.cansOf hmem]
    exact ⟨e.core, List.mem_singleton_self _, hgrow⟩
  refine ⟨h.course ?_ (hfew'.trans hfew) (State.pair_acts s hmem q).course, fun hqp => ?_⟩
  · have hpts' : pointsOf (s.pair e q).ctr.pointsDue = pointsOf s.ctr.pointsDue := hpts
    rw [hpts']
    exact hord
  · have htags : Whole s (s.paired e q) := .of_tags (State.onEntry_map s e.tag _ (·.tag) fun _ => rfl)
    exact htags.trans (hwhole hqp)

end Sys2Proof.Machine
end

section
/-!
A new entry among the cans (01 R1, R2, R20, R24), and what taking an arrival or a discharge does to the order.
-/

namespace Sys2Proof.Machine

/-! ## A new entry -/

/-- The new entry as it joins the queue. -/
def State.entryAdded (s : State) (e : Entry) : Entry := { e with tag := s.tagOf s.freeIndex }

theorem State.mem_addEntry {s : State} {e y : Entry} :
    y ∈ (s.addEntry e).ctr.queue ↔ y = s.entryAdded e ∨ y ∈ s.ctr.queue := by
  rw [State.addEntry_ctr]
  exact (insertEntry_perm _ _).mem_iff.trans List.mem_cons

/-- No live entry has the new entry's tag. -/
theorem State.entryAdded_fresh {s : State} (hroom : s.ctr.queue.length < 256) (e : Entry) :
    ∀ x ∈ s.ctr.queue, x.tag ≠ (s.entryAdded e).tag := by
  obtain ⟨hlt, hfree, _⟩ := State.freeIndex_spec hroom
  intro x hx ht
  exact hfree x hx (by rw [ht]; exact State.tagIndex_tagOf s hlt)

theorem State.addEntry_whole (s : State) (e : Entry) : Whole s (s.addEntry e) :=
  fun x hx => ⟨x, State.mem_addEntry.mpr (.inr hx), rfl⟩

theorem State.addEntry_windowsOf (s : State) (e : Entry) (tag : Tag) :
    (s.addEntry e).windowsOf tag = s.windowsOf tag := by
  rw [State.windowsOf, State.addEntry_wge, State.windowsOf]

theorem State.addEntry_firesOf (s : State) (e : Entry) (tag : Tag) : (s.addEntry e).firesOf tag = s.firesOf tag := by
  rw [State.firesOf, State.addEntry_gtc, State.firesOf]

theorem insertEntry_sublist (e : Entry) (q : List Entry) : q.Sublist (insertEntry e q) := by
  unfold insertEntry
  split
  · exact List.sublist_append_left _ _
  · conv_lhs => rw [← List.takeWhile_append_dropWhile (p := fun x : Entry => x.stage != .enRoute) (l := q)]
    exact (List.Sublist.refl _).append (List.sublist_cons_self _ _)

/-- A FILLED entry joins behind the others, a STRAY entry before those that have not arrived. -/
theorem insertEntry_enRouteLast {e : Entry} {q : List Entry}
    (h : q.Pairwise fun x y => x.stage = .enRoute → y.stage = .enRoute)
    (he : e.origin = .filled → e.stage = .enRoute) (hs : e.origin = .stray → e.stage ≠ .enRoute) :
    (insertEntry e q).Pairwise fun x y => x.stage = .enRoute → y.stage = .enRoute := by
  unfold insertEntry
  split
  · rename_i ho
    exact List.pairwise_append.mpr ⟨h, List.pairwise_singleton _ _, fun x _ y hy _ => by
      rw [List.mem_singleton.mp hy]
      exact he ho⟩
  · rename_i ho
    have hpast : ∀ x ∈ q.takeWhile (fun x => x.stage != .enRoute), x.stage ≠ .enRoute := fun x hx => by
      simpa using List.mem_takeWhile_imp hx
    rw [List.pairwise_append, List.pairwise_cons]
    exact ⟨List.pairwise_of_forall_mem_list fun x hx y _ hx' => absurd hx' (hpast x hx),
      ⟨fun _ _ he' => absurd he' (hs ho), h.sublist (List.dropWhile_sublist _)⟩,
      fun x hx y _ hx' => absurd hx' (hpast x hx)⟩

section
variable {s : State} (hrun : s.ctr.run = .running) (hroom : s.ctr.queue.length < 256) {e : Entry}
  (hslot : ∀ k, e.slot = some k → (s.rcs.slot k).state = .active ∨ (s.rcs.slot k).state = .draining)
include hrun hroom hslot

theorem Based.added (h : Based s) : Based (s.addEntry e) where
  stopped := (Move.entered s e hrun hroom hslot).stoppedIsEmpty h.stopped
  books := (Move.entered s e hrun hroom hslot).booksAgree h.books
  recipes := (s.addEntry_course e).recipes h.recipes
  fit := (s.addEntry_course e).fit h.fit
  draining k hk := by
    rw [State.addEntry_slot] at hk ⊢
    exact Nat.lt_of_lt_of_le (h.draining k hk) (Nat.le_add_right _ _)

/-- The order with a new entry in its place. -/
theorem Ordered.added {P P' : Tag → List Point} (h : Ordered s P)
    (he : e.origin = .filled → e.stage = .enRoute) (hs : e.origin = .stray → e.stage ≠ .enRoute)
    (hP : ∀ x ≠ (s.entryAdded e).tag, P' x = P x)
    (hnew : if e.stage = .enRoute then P' (s.entryAdded e).tag = []
      else CanFits (s.addEntry e) (s.entryAdded e) (P' (s.entryAdded e).tag) [] []) : Ordered (s.addEntry e) P' := by
  have hfresh := State.entryAdded_fresh hroom e
  have hnone : s.windowsOf (s.entryAdded e).tag = [] ∧ s.firesOf (s.entryAdded e).tag = [] := by
    by_contra hne
    obtain ⟨x, hx, ht, _⟩ := h.traces (s.entryAdded e).tag (by tauto)
    exact hfresh x hx ht
  refine ⟨h.based.added hrun hroom hslot, ?_, ?_, fun tag ht => ?_, fun y hy hpast => ?_⟩
  · rw [State.addEntry_ctr]
    exact insertEntry_enRouteLast h.enRouteLast he hs
  · rw [State.addEntry_gtc, State.addEntry_ctr]
    exact h.inTurn.trans ((insertEntry_sublist _ _).map _)
  · rw [State.addEntry_windowsOf, State.addEntry_firesOf] at ht
    by_cases htag : tag = (s.entryAdded e).tag
    · subst htag
      rw [hnone.1, hnone.2] at ht
      split at hnew
      · rw [hnew] at ht
        simp at ht
      · rename_i hstage
        exact ⟨_, State.mem_addEntry.mpr (.inl rfl), rfl, hstage⟩
    · rw [hP tag htag] at ht
      obtain ⟨x, hx, hxt, hxs⟩ := h.traces tag ht
      exact ⟨x, State.mem_addEntry.mpr (.inr hx), hxt, hxs⟩
  · rw [State.addEntry_windowsOf, State.addEntry_firesOf]
    rcases State.mem_addEntry.mp hy with rfl | hy
    · have hstage : e.stage ≠ .enRoute := hpast
      rw [hnone.1, hnone.2]
      rwa [if_neg hstage] at hnew
    · rw [hP _ (hfresh y hy)]
      exact canFits_core ((s.addEntry_course e).ground _) rfl (h.fits y hy hpast)

omit hrun hslot in
/-- The points due stay in place beside a new entry. -/
theorem OnTrack.joined_here {t : State} (h : OnTrack s) (hf : Fewer (s.addEntry e) t) (hc : SameCourse s t) :
    t.pointsHere := by
  refine h.here.grown h.order s.due_ne (fun x _ => hc.ground x.slot) (fun d hd => hc.pointsDue_mem hd)
    fun y hy d hd ht => ?_
  obtain ⟨x, hx, hxy, hgrow⟩ := hf y hy
  rcases State.mem_addEntry.mp hx with rfl | hx
  · obtain ⟨z, hz, hzt, _⟩ := h.order.traces d.tag (.inl (s.due_ne d (hc.pointsDue_mem hd)))
    exact absurd (hzt.trans (ht.symm.trans hxy.symm)) (State.entryAdded_fresh hroom e z hz)
  · exact ⟨x, hx, hxy, hgrow⟩

omit hrun hslot in
/-- A new tag has no point to be taken. -/
theorem Ordered.points_fresh {P : Tag → List Point} (h : Ordered s P) : P (s.entryAdded e).tag = [] := by
  by_contra hne
  obtain ⟨x, hx, ht, _⟩ := h.traces _ (.inl hne)
  exact State.entryAdded_fresh hroom e x hx ht

end

/-! ## A stray arrival (R24, R25) -/

section
variable {s : State} (h : OnTrack s) (hrun : s.ctr.run = .running) (hroom : s.ctr.queue.length < 256) {q : Pos}
  (hq : (s.ctr.position - q).toNat < 65536)
include h hrun hroom hq

theorem OnTrack.stray_arriving : Arriving (((s.addEntry (s.strayEntry q)).bump .strays).raiseSlip)
    (pointsOf s.ctr.pointsDue) (s.entryAdded (s.strayEntry q)) := by
  have hslot : ∀ k, (s.strayEntry q).slot = some k → (s.rcs.slot k).state = .active ∨ (s.rcs.slot k).state = .draining :=
    fun k hk => .inl (State.activeSlot_active hk)
  have hmem : s.entryAdded (s.strayEntry q) ∈ (s.addEntry (s.strayEntry q)).ctr.queue := State.mem_addEntry.mpr (.inl rfl)
  have hnear : ((s.addEntry (s.strayEntry q)).ctr.position - (s.entryAdded (s.strayEntry q)).q).toNat < 65536 := by
    rw [(s.addEntry_course _).position]
    exact hq
  have hbase := h.order.based.added hrun hroom hslot
  have hfit := CanFits.arriving (hbase.placed hmem) rfl hnear
  have hord : Ordered (s.addEntry (s.strayEntry q)) (Function.update (pointsOf s.ctr.pointsDue)
      (s.entryAdded (s.strayEntry q)).tag ((s.addEntry (s.strayEntry q)).pointsGoneBy (s.entryAdded (s.strayEntry q)))) := by
    refine h.order.added hrun hroom hslot nofun (fun _ => nofun) (fun x hx => Function.update_of_ne hx _ _) ?_
    rw [if_neg nofun, Function.update_self]
    exact hfit
  have hsame : SameCans (s.addEntry (s.strayEntry q)) (((s.addEntry (s.strayEntry q)).bump .strays).raiseSlip) :=
    ((SameCans.refl _).bump _).raiseSlip
  have hctr : (((s.addEntry (s.strayEntry q)).bump .strays).raiseSlip).ctr.queue = (s.addEntry (s.strayEntry q)).ctr.queue := by
    rw [State.raiseSlip_ctr]
    rfl
  refine ⟨?_, by rw [hctr]; exact hmem, rfl, ?_, ?_⟩
  · rw [pointsGoneBy_congr (hsame.course.ground _) rfl rfl]
    exact hord.same hsame
  · rw [hsame.windowsOf, State.addEntry_windowsOf]
    by_contra hne
    obtain ⟨x, hx, ht, _⟩ := h.order.traces _ (.inr (.inl hne))
    exact State.entryAdded_fresh hroom _ x hx ht
  · rw [hsame.course.position]
    exact hnear

end

/-- The same entries, but for the results written into them, and no generation has advanced. -/
structure SameEntries (s t : State) : Prop where
  fewer : Fewer s t
  whole : Whole s t
  generations : t.ctr.generations = s.ctr.generations

theorem SameEntries.refl (s : State) : SameEntries s s := ⟨.refl s, .of_tags rfl, rfl⟩

theorem SameEntries.trans {s t u : State} (h : SameEntries s t) (g : SameEntries t u) : SameEntries s u :=
  ⟨h.fewer.trans g.fewer, h.whole.trans g.whole, g.generations.trans h.generations⟩

theorem SameCans.entries {s t : State} (h : SameCans s t) : SameEntries s t := ⟨h.fewer, h.whole, by rw [h.ctr]⟩

/-- What a step makes of the entries: they only grow, or one is new among them; if `stay`, none leaves. -/
def Grown (s t : State) (stay : Prop) : Prop :=
  (Fewer s t ∧ t.ctr.generations = s.ctr.generations ∧ (stay → Whole s t)) ∨
    ∃ u e, SameEntries s u ∧ u.ctr.queue.length < 256 ∧ Fewer (u.addEntry e) t ∧
      t.ctr.generations = (u.addEntry e).ctr.generations ∧ (stay → Whole (u.addEntry e) t)

theorem SameEntries.grown {s t : State} {stay : Prop} (h : SameEntries s t) : Grown s t stay :=
  .inl ⟨h.fewer, h.generations, fun _ => h.whole⟩

theorem Acts.generations {T : Tag → Prop} {s t : State} (h : Acts T s t) : t.ctr.generations = s.ctr.generations := by
  induction h with
  | refl => rfl
  | tail _ h ih => exact h.tags.2.trans ih

/-- A step after what writes no more than results. -/
theorem Grown.after {s u t : State} {stay : Prop} (hs : SameEntries s u) (h : Grown u t stay) : Grown s t stay := by
  rcases h with ⟨hf, hg, hw⟩ | ⟨v, e, hv, hroom, hf, hg, hw⟩
  · exact .inl ⟨hs.fewer.trans hf, hg.trans hs.generations, fun hst => hs.whole.trans (hw hst)⟩
  · exact .inr ⟨v, e, hs.trans hv, hroom, hf, hg, hw⟩

section
variable {s : State} (h : OnTrack s) (hrun : s.ctr.run = .running) {q : Pos}
  (hq : (s.ctr.position - q).toNat < 65536)
include h hrun hq

theorem OnTrack.strayArrives :
    OnTrack (s.strayArrives q) ∧ Grown s (s.strayArrives q) (q = s.ctr.position) := by
  by_cases hroom : s.ctr.queue.length < 256
  · have ha := h.stray_arriving hrun hroom hq
    have hsame : SameCans (s.addEntry (s.strayEntry q)) (((s.addEntry (s.strayEntry q)).bump .strays).raiseSlip) :=
      ((SameCans.refl _).bump _).raiseSlip
    have hdue : (((s.addEntry (s.strayEntry q)).bump .strays).raiseSlip).ctr.pointsDue = s.ctr.pointsDue := by
      rw [hsame.ctr, State.addEntry_ctr]
    have hfresh := h.order.points_fresh hroom (e := s.strayEntry q)
    obtain ⟨hord, hfew, hpts, hwhole⟩ := ha.arrived hfresh (by rw [hdue]; exact hfresh)
    have heq : s.strayArrives q = (((s.addEntry (s.strayEntry q)).bump .strays).raiseSlip).arrived
        (s.entryAdded (s.strayEntry q)).tag (s.entryAdded (s.strayEntry q)).slot := State.strayArrives_room hroom q
    rw [← heq] at hord hfew hpts hwhole
    have hgen : (s.strayArrives q).ctr.generations = (s.addEntry (s.strayEntry q)).ctr.generations := by
      rw [heq]
      exact (s.stray_acts _ _ _).generations
    have hcourse := s.strayArrives_course q
    have hfew' : Fewer (s.addEntry (s.strayEntry q)) (s.strayArrives q) := hsame.fewer.trans hfew
    refine ⟨⟨?_, h.joined_here hroom hfew' hcourse, hcourse.arrivalsNear h.near⟩,
      .inr ⟨s, s.strayEntry q, .refl s, hroom, hfew', hgen, fun hqp => ?_⟩⟩
    · rw [hpts, hdue]
      exact hord
    · refine hsame.whole.trans (hwhole ?_)
      rw [hsame.course.position, (s.addEntry_course _).position]
      exact hqp
  · have hsame := s.untracked_sameCans
    unfold State.strayArrives
    rw [if_neg hroom]
    exact ⟨(h.same hsame).track, hsame.entries.grown⟩

omit hrun in
/-- An arrival is taken (R17, R23). -/
theorem OnTrack.infeedArrives :
    OnTrack (s.infeedArrives q) ∧ Grown s (s.infeedArrives q) (q = s.ctr.position) := by
  have hbump : ∀ c, SameCans s (s.bump c) := fun c => (SameCans.refl s).bump c
  cases hrun : s.ctr.run with
  | stopped =>
    have heq : s.infeedArrives q = s.bump .infeedStopped := by
      unfold State.infeedArrives State.trackingRuns
      rw [hrun]
      rfl
    rw [heq]
    exact ⟨(h.same (hbump _)).track, (hbump _).entries.grown⟩
  | running =>
    have ht := (h.same (hbump .arrivals)).track
    by_cases hpair : ∃ e, s.oldestEnRoute = some e ∧ atOrAfter q (s.windowLow e) = true
    · obtain ⟨e, he, hw⟩ := hpair
      rw [State.infeedArrives_pair hrun he hw]
      obtain ⟨hkeep, hwhole⟩ := ht.pair (e := e) he hq
      have hgen := ((s.bump .arrivals).pair_acts (List.mem_of_find?_eq_some he) q).generations
      exact ⟨hkeep.track, .after (hbump .arrivals).entries (.inl ⟨hkeep.fewer, hgen, hwhole⟩)⟩
    · have hstray : s.oldestEnRoute = none ∨ ∃ e, s.oldestEnRoute = some e ∧ atOrAfter q (s.windowLow e) = false := by
        cases he : s.oldestEnRoute with
        | none => exact .inl rfl
        | some e => exact .inr ⟨e, rfl, by simpa using fun hw => hpair ⟨e, he, hw⟩⟩
      rw [State.infeedArrives_stray hrun hstray]
      obtain ⟨htrack, hgrown⟩ := ht.strayArrives hrun hq
      exact ⟨htrack, .after (hbump .arrivals).entries hgrown⟩

end

/-! ## A discharge (R18 to R20) -/

theorem OnTrack.addedEnRoute {s : State} (h : OnTrack s) (hrun : s.ctr.run = .running)
    (hroom : s.ctr.queue.length < 256) {e : Entry} (hslot : ∀ k, e.slot = some k →
      (s.rcs.slot k).state = .active ∨ (s.rcs.slot k).state = .draining) (ho : e.origin = .filled)
    (hs : e.stage = .enRoute) : OnTrack (s.addEntry e) := by
  have hc := s.addEntry_course e
  refine ⟨?_, h.joined_here hroom (.refl _) hc, hc.arrivalsNear h.near⟩
  rw [State.addEntry_ctr]
  refine h.order.added hrun hroom hslot (fun _ => hs) (fun hst => by rw [ho] at hst; cases hst) (fun _ _ => rfl) ?_
  rw [if_pos hs]
  exact h.order.points_fresh hroom

theorem State.discharge_course (s : State) (d : Discharge) : SameCourse s (s.discharge d) := by
  have hepoch := (s.epochCompared_sameCans d).course
  have hadd := hepoch.trans ((s.epochCompared d).addEntry_course (s.dischargeEntry d))
  rw [State.discharge_eq]
  split
  · split
    · exact hadd.trans ((SameCans.refl _).bump _).course
    · exact hadd
  · exact hepoch.trans ((SameCans.refl _).bump _).course

theorem OnTrack.discharge {s : State} (h : OnTrack s) (hrun : s.ctr.run = .running) (d : Discharge) :
    OnTrack (s.discharge d) ∧ Grown s (s.discharge d) True := by
  have hepoch := s.epochCompared_sameCans d
  have ht := (h.same hepoch).track
  have hlen := congrArg List.length hepoch.queue
  simp only [List.length_map] at hlen
  rw [State.discharge_eq]
  split
  · rename_i hroom
    have hadded : ∀ t, SameCans ((s.epochCompared d).addEntry (s.dischargeEntry d)) t →
        OnTrack t ∧ Grown s t True := fun t hsame => by
      have hon := ht.addedEnRoute (by rw [hepoch.ctr]; exact hrun) (by rw [hlen]; exact hroom) (e := s.dischargeEntry d)
        (fun k hk => by rw [hepoch.rcs]; exact State.slotForId_inUse hk) rfl rfl
      exact ⟨(hon.same hsame).track, .inr ⟨_, _, hepoch.entries, by rw [hlen]; exact hroom, hsame.fewer, by rw [hsame.ctr],
        fun _ => hsame.whole⟩⟩
    split
    · exact hadded _ ((SameCans.refl _).bump _)
    · exact hadded _ (.refl _)
  · have hsame := hepoch.bump .trackOverflow
    exact ⟨(h.same hsame).track, hsame.entries.grown⟩

/-! ## What is taken in -/

/-- From `s` to `t` an arrival or a discharge was taken, or neither: the cans stay in order, and only an arrival latched
before the present position can make one leave. -/
structure Entered (s t : State) : Prop where
  track : OnTrack t
  position : t.ctr.position = s.ctr.position
  entries : Grown s t True ∧ t.ctr.infeedDue.Sublist s.ctr.infeedDue ∨
    Grown s t False ∧ ∃ q, q ≠ s.ctr.position ∧ s.ctr.infeedDue = q :: t.ctr.infeedDue

theorem Grown.imp {s t : State} {stay stay' : Prop} (h : Grown s t stay) (hs : stay' → stay) : Grown s t stay' := by
  rcases h with ⟨hf, hg, hw⟩ | ⟨v, e, hv, hroom, hf, hg, hw⟩
  · exact .inl ⟨hf, hg, fun h => hw (hs h)⟩
  · exact .inr ⟨v, e, hv, hroom, hf, hg, fun h => hw (hs h)⟩

theorem OnTrack.arrived {s : State} (h : OnTrack s) {q : Pos} {rest : List Pos} (hd : s.ctr.infeedDue = q :: rest) :
    Entered s ((s.onCtr fun c => { c with infeedDue := rest }).infeedArrives q) := by
  have hroad : SameRoad s (s.onCtr fun c => { c with infeedDue := rest }) := ⟨rfl, rfl, rfl, rfl, rfl⟩
  have hnear : (s.onCtr fun c => { c with infeedDue := rest }).arrivalsNear :=
    h.near.of (fun x hx => by rw [hd]; exact List.mem_cons_of_mem _ hx) rfl rfl rfl
  have hkeep := hroad.keeping h h.order.based.books hnear
  have hq : (s.ctr.position - q).toNat < 65536 := h.near.1 q (by rw [hd]; exact List.mem_cons_self)
  obtain ⟨htrack, hgrown⟩ := hkeep.track.infeedArrives (q := q) hq
  have hc := State.infeedArrives_course (s.onCtr fun c => { c with infeedDue := rest }) q
  have hgrown' := hgrown.after ⟨hkeep.fewer, .of_tags rfl, rfl⟩
  refine ⟨htrack, hc.position, ?_⟩
  rw [hc.infeedDue, hd]
  by_cases hqp : q = s.ctr.position
  · exact .inl ⟨hgrown'.imp fun _ => hqp, List.sublist_cons_self _ _⟩
  · exact .inr ⟨hgrown'.imp False.elim, q, hqp, rfl⟩

theorem Entering.entered {s t : State} (h : Entering s t) (hs : OnTrack s) : Entered s t := by
  cases h with
  | same h => exact ⟨(hs.same h).track, h.course.position, .inl ⟨h.entries.grown, by rw [h.ctr]⟩⟩
  | aside h ht =>
    have hk := hs.aside h ht
    have hsame : SameEntries s t := ⟨hk.fewer, .of_tags (by rw [ht.ctr]), by rw [ht.ctr]⟩
    exact ⟨hk.track, by rw [ht.ctr], .inl ⟨hsame.grown, by rw [ht.ctr]⟩⟩
  | arrived q rest h => exact hs.arrived h
  | discharged d hr =>
    obtain ⟨htrack, hgrown⟩ := hs.discharge hr d
    have hc := State.discharge_course s d
    exact ⟨htrack, hc.position, .inl ⟨hgrown, by rw [hc.infeedDue]⟩⟩

end Sys2Proof.Machine
end

section
/-!
A tag names one entry for as long as it is live (01 R2): within a command so few entries are made at one index that its
generation cannot come round.
-/

namespace Sys2Proof.Machine

/-- The generation counter of a tag index. -/
def State.generation (s : State) (i : Nat) : Byte := s.ctr.generations.toList.getD i 0

/-- 1 if no live entry has the index, else 0. -/
def State.free (s : State) (i : Nat) : Nat := if ∃ y ∈ s.ctr.queue, tagIndex y.tag = i then 0 else 1

/-- How many arrivals that wait were latched before the present position. -/
def State.early (s : State) : Nat := (s.ctr.infeedDue.filter (· ≠ s.ctr.position)).length

theorem State.free_le (s : State) (i : Nat) : s.free i ≤ 1 := by
  unfold State.free
  split <;> decide

theorem Whole.free_le {s t : State} (h : Whole s t) (i : Nat) : t.free i ≤ s.free i := by
  unfold State.free
  split
  · exact Nat.zero_le _
  · rename_i hno
    rw [if_neg]
    rintro ⟨x, hx, rfl⟩
    obtain ⟨y, hy, ht⟩ := h x hx
    exact hno ⟨y, hy, by rw [ht]⟩

theorem State.free_freeIndex {s : State} (hroom : s.ctr.queue.length < 256) : s.free s.freeIndex = 1 := by
  obtain ⟨_, hfree, _⟩ := State.freeIndex_spec hroom
  exact if_neg fun ⟨x, hx, ht⟩ => hfree x hx ht

theorem State.addEntry_free {s : State} (hroom : s.ctr.queue.length < 256) (e : Entry) :
    (s.addEntry e).free s.freeIndex = 0 := by
  obtain ⟨hlt, _⟩ := State.freeIndex_spec hroom
  exact if_pos ⟨_, State.mem_addEntry.mpr (.inl rfl), State.tagIndex_tagOf s hlt⟩

theorem State.addEntry_generation {s : State} (e : Entry) {i : Nat} (hi : i < 256) :
    (s.addEntry e).generation i = if i = s.freeIndex then s.generation i + 1 else s.generation i := by
  unfold State.generation
  rw [State.addEntry_ctr, generations_getD _ hi, Vector.getElem_setIfInBounds]
  by_cases h : s.freeIndex = i
  · rw [if_pos h, if_pos h.symm, h]
  · rw [if_neg h, if_neg (Ne.symm h), generations_getD _ hi]

/-- Every entry of `t` was one of `s`, or has a tag that was none of `s`. -/
def Since (s t : State) : Prop := ∀ y ∈ t.ctr.queue,
  (∃ x ∈ s.ctr.queue, x.tag = y.tag ∧ Grows x y) ∨ ∀ x ∈ s.ctr.queue, x.tag ≠ y.tag

theorem Since.fewer {s t u : State} (h : Since s t) (g : Fewer t u) : Since s u := fun z hz => by
  obtain ⟨y, hy, hyz, gy⟩ := g z hz
  rcases h y hy with ⟨x, hx, hxy, gx⟩ | hno
  · exact .inl ⟨x, hx, hxy.trans hyz, gx.trans gy⟩
  · exact .inr fun x hx hxz => hno x hx (hxz.trans hyz.symm)

/-- The intake of a command so far: the entries made at one index, whether it is free, and the early arrivals that still
wait come to at most 2. -/
structure TakenIn (s t : State) : Prop where
  track : OnTrack t
  since : Since s t
  spent : ∀ i < 256, ∃ k, t.generation i = s.generation i + BitVec.ofNat 8 k ∧ k + t.free i + t.early ≤ 2

theorem TakenIn.refl {s : State} (h : OnTrack s) (hf : s.arrivalsFresh) : TakenIn s s := by
  refine ⟨h, fun y hy => .inl ⟨y, hy, rfl, .refl y⟩, fun i _ => ⟨0, by simp, ?_⟩⟩
  have hfree := s.free_le i
  have hearly : s.early ≤ 1 := hf.1
  omega

/-- An entry is made at a generation that no live entry of `s` took. -/
theorem TakenIn.since_added {s t u : State} (h : TakenIn s t) (hs : s.tagsSpent) (hu : SameEntries t u)
    (hroom : u.ctr.queue.length < 256) (e : Entry) : Since s (u.addEntry e) := by
  intro y hy
  rcases State.mem_addEntry.mp hy with rfl | hy
  · refine .inr fun x hx ht => ?_
    obtain ⟨hlt, _⟩ := State.freeIndex_spec hroom
    obtain ⟨k, hk, hle⟩ := h.spent u.freeIndex hlt
    have htag : (u.entryAdded e).tag = u.tagOf u.freeIndex := rfl
    have hidx : tagIndex x.tag = u.freeIndex := by rw [ht, htag, State.tagIndex_tagOf u hlt]
    have hgen : (x.tag >>> 8).setWidth 8 = t.generation u.freeIndex := by
      rw [ht, htag, State.tagOf, generation_append, State.generation, hu.generations]
    have hspent := hs x hx
    rw [hidx, hgen, hk] at hspent
    change s.generation u.freeIndex = _ at hspent
    have hnat := congrArg BitVec.toNat hspent
    simp only [BitVec.toNat_add, BitVec.toNat_ofNat, show (1 : Byte).toNat = 1 from rfl] at hnat
    have := (s.generation u.freeIndex).isLt
    omega
  · exact (h.since.fewer hu.fewer) y hy

theorem Entered.early {s t : State} (h : Entered s t) : Grown s t True ∧ t.early ≤ s.early ∨
    Grown s t False ∧ t.early + 1 ≤ s.early := by
  unfold State.early
  rw [h.position]
  rcases h.entries with ⟨hg, hsub⟩ | ⟨hg, q, hq, hd⟩
  · exact .inl ⟨hg, (hsub.filter _).length_le⟩
  · refine .inr ⟨hg, ?_⟩
    rw [hd, List.filter_cons_of_pos (by simpa using hq), List.length_cons]

theorem TakenIn.entered {s t u : State} (h : TakenIn s t) (hs : s.tagsSpent) (he : Entered t u) : TakenIn s u := by
  have hgrown : ∃ stay, Grown t u stay ∧ ∀ i, (stay ∧ u.early ≤ t.early) ∨ u.free i + u.early ≤ t.early := by
    rcases he.early with ⟨hg, hle⟩ | ⟨hg, hle⟩
    · exact ⟨True, hg, fun _ => .inl ⟨trivial, hle⟩⟩
    · refine ⟨False, hg, fun i => .inr ?_⟩
      have := u.free_le i
      omega
  obtain ⟨stay, hg, hbudget⟩ := hgrown
  rcases hg with ⟨hf, hgen, hw⟩ | ⟨v, e, hv, hroom, hf, hgen, hw⟩
  · refine ⟨he.track, h.since.fewer hf, fun i hi => ?_⟩
    obtain ⟨k, hk, hle⟩ := h.spent i hi
    refine ⟨k, by rw [State.generation, hgen]; exact hk, ?_⟩
    rcases hbudget i with ⟨hst, hearly⟩ | hearly
    · have := (hw hst).free_le i
      omega
    · omega
  · refine ⟨he.track, (h.since_added hs hv hroom e).fewer hf, fun i hi => ?_⟩
    obtain ⟨k, hk, hle⟩ := h.spent i hi
    have hvgen : v.generation i = s.generation i + BitVec.ofNat 8 k := by
      rw [State.generation, hv.generations]
      exact hk
    have hugen : u.generation i = (v.addEntry e).generation i := by rw [State.generation, hgen, State.generation]
    rw [hugen, State.addEntry_generation e hi, hvgen]
    have hvfree : v.free i ≤ t.free i := hv.whole.free_le i
    by_cases hidx : i = v.freeIndex
    · subst hidx
      rw [if_pos rfl]
      have hone := State.free_freeIndex hroom
      refine ⟨k + 1, by rw [BitVec.add_assoc]; congr 1; apply BitVec.eq_of_toNat_eq; simp, ?_⟩
      rcases hbudget v.freeIndex with ⟨hst, hearly⟩ | hearly
      · have hfree := (hw hst).free_le v.freeIndex
        rw [State.addEntry_free hroom] at hfree
        omega
      · omega
    · rw [if_neg hidx]
      refine ⟨k, rfl, ?_⟩
      rcases hbudget i with ⟨hst, hearly⟩ | hearly
      · have hfree := ((State.addEntry_whole v e).trans (hw hst)).free_le i
        omega
      · omega

theorem Enterings.takenIn {s t : State} (h : Enterings s t) (hs : OnTrack s) (hspent : s.tagsSpent)
    (hf : s.arrivalsFresh) : TakenIn s t := by
  induction h with
  | refl => exact .refl hs hf
  | tail _ h ih => exact ih.entered hspent (h.entered ih.track)

theorem Enterings.onTrack {s t : State} (h : Enterings s t) (hs : OnTrack s) : OnTrack t := by
  induction h with
  | refl => exact hs
  | tail _ h ih => exact (h.entered ih).track

/-! ## Along a command -/

theorem Story.onTrack {s t : State} (h : Story s t) (hs : OnTrack s) : OnTrack t := by
  obtain ⟨u, hin, hturns⟩ := h
  exact (hturns.keeping (hin.onTrack hs)).track

theorem Story.since {s t : State} (h : Story s t) (hs : OnTrack s) (hspent : s.tagsSpent) (hf : s.arrivalsFresh) :
    Since s t := by
  obtain ⟨u, hin, hturns⟩ := h
  have htaken := hin.takenIn hs hspent hf
  exact htaken.since.fewer (hturns.keeping htaken.track).fewer

theorem OnTrack.pending {s : State} (h : OnTrack s) (rest : List Instr) : OnTrack { s with pending := rest } :=
  (SameRoad.track (s := s) ⟨rfl, rfl, rfl, rfl, rfl⟩ h.order h.here h.order.based.books h.near)

theorem step_story {s t : State} (h : step s = .next t) : ∃ rest, Story { s with pending := rest } t := by
  unfold step at h
  split at h
  · cases h
    exact ⟨s.pending, s, .refl, .refl⟩
  · exact ⟨_, exec_story _ _ _ h⟩

/-- Settles O5. -/
theorem stoppedStaysEmpty : Obligations.StoppedStaysEmpty := by
  refine ⟨fun s t hs h => ?_, fun s t hs hb hr hc h => ?_, fun s t hs h => ?_,
    fun c s t hs hb hr hc hspent hf h x hx y hy ht => ?_⟩
  · exact step_keeps (inv := State.stoppedIsEmpty) (fun _ _ h => h) (fun _ _ h => h.stoppedIsEmpty)
      (fun _ _ h => h.stoppedIsEmpty) s t hs h
  · obtain ⟨rest, hstory⟩ := step_story h
    exact (hstory.onTrack ((hc.onTrack hs hb hr).pending rest)).cansInOrder
  · exact step_keeps (inv := State.arrivalsFresh) (fun _ _ h => h) (fun _ _ h => h.arrivalsFresh)
      (fun _ _ h => h.arrivalsFresh) s t hs h
  · rcases (exec_story c s t h).since (hc.onTrack hs hb hr) hspent hf y hy with ⟨z, hz, hzt, hgrow⟩ | hno
    · obtain rfl := hb.tag_inj hz hx (hzt.trans ht)
      have hmade := hgrow.made
      simp only [Entry.made, Prod.mk.injEq] at hmade
      obtain ⟨h1, h2, h3, h4, h5, h6, h7, h8, h9⟩ := hmade
      exact ⟨hgrow.stage, h1, h2, h3, h4, h5, h6, h7, h8, h9, hgrow.arrived, hgrow.decided⟩
    · exact absurd ht.symm (hno x hx)

end Sys2Proof.Machine
end

section
namespace Sys2Proof.Machine

/-! ## The weigh result (02 R50 to R54) -/

section
variable {s : State} {e : Entry} {a : Accumulator}

/-- A window that fails one of the first eight tests has no gross, net or zone (R52). -/
theorem State.weighResult_early {x : WeighReason} (h : s.earlyReason e a = some x) :
    s.weighResult e a = notWeighed x := by
  rw [State.weighResult, h]

/-- A window that passes the first eight tests is weighed under the recipe of its entry's slot. -/
theorem State.weighResult_full {k : SlotId} (h : s.earlyReason e a = none) (hk : e.slot = some k) :
    s.weighResult e a = s.fullResult (s.image k) a := by
  rw [State.weighResult, h, hk]

/-- A held engine weighs nothing (R50, R61). -/
theorem State.earlyReason_held (h : s.sup.holdWge = true) : s.earlyReason e a = some .engineHeld := if_pos h

variable (hh : s.sup.holdWge = false)
include hh

/-- Without a calibration there is no weight (R50, R60). -/
theorem State.earlyReason_noCalibration (h : s.wge.span = 0) : s.earlyReason e a = some .noCalibration := by
  simp [State.earlyReason, State.calAbsent, hh, h]

variable (hs : s.wge.span ≠ 0)
include hs

/-- An entry without a slot has no recipe (R50). -/
theorem State.earlyReason_noRecipe (h : e.slot = none) : s.earlyReason e a = some .noRecipe := by
  simp [State.earlyReason, State.calAbsent, hh, hs, h]

/-- Reasons 4 to 8 in the order of R50, with a recipe. -/
theorem State.earlyReason_window {k : SlotId} (h : e.slot = some k) : s.earlyReason e a =
    if a.noSamples then some .noSamples
    else if a.halt then some .excitationHalt
    else if a.double then some .doubleOnPlatform
    else if a.overrange then some .overrange
    else if a.count.toNat < (s.image k).minOutputs then some .shortWindow
    else none := by
  simp [State.earlyReason, State.calAbsent, hh, hs, h]

end

/-- The gross of a window, before it is compared with the capacity (R53). -/
def State.windowGross (s : State) (a : Accumulator) : Int :=
  grossOf s.wge.span s.wge.zero (roundDiv a.sum a.count.toNat)

section
variable (s : State) (img : Image) (a : Accumulator)

/-- The spread of the window is compared first (R50, case 9). -/
theorem State.fullResult_unstable (h : (img.stabilityLimit : Int) < a.spread) : s.fullResult img a =
    { status := .notWeighed, reason := some .unstable,
      gross := some (clampInt (-s.wge.capacity) s.wge.capacity (s.windowGross a)), net := none, zone := none } :=
  if_pos h

variable (hst : a.spread ≤ (img.stabilityLimit : Int))
include hst

/-- A gross beyond the capacity is clamped to it (R53). -/
theorem State.fullResult_overload (h : (s.wge.capacity : Int) < s.windowGross a) : s.fullResult img a =
    { status := .notWeighed, reason := some .overload, gross := some s.wge.capacity, net := none, zone := none } := by
  have hclamp : clampInt (-s.wge.capacity) s.wge.capacity (s.windowGross a) = s.wge.capacity := by
    rw [clampInt, if_neg (by omega), if_pos h]
  exact ((if_neg (not_lt.mpr hst)).trans (if_pos h)).trans (by rw [← State.windowGross, hclamp])

theorem State.fullResult_underload (h : s.windowGross a < -s.wge.capacity) : s.fullResult img a =
    { status := .notWeighed, reason := some .underload, gross := some (-s.wge.capacity), net := none,
      zone := none } := by
  have hclamp : clampInt (-s.wge.capacity) s.wge.capacity (s.windowGross a) = -s.wge.capacity := if_pos h
  have hover : ¬ (s.wge.capacity : Int) < s.windowGross a := by omega
  exact (((if_neg (not_lt.mpr hst)).trans (if_neg hover)).trans (if_pos h)).trans
    (by rw [← State.windowGross, hclamp])

/-- A window that passes all ten tests has a net and a zone; its status tells the excitation and the zero (R54). -/
theorem State.fullResult_weighed (hlow : -(s.wge.capacity : Int) ≤ s.windowGross a)
    (hhigh : s.windowGross a ≤ s.wge.capacity) : s.fullResult img a =
    { status := if a.warn = true ∨ s.wge.zeroState = .lost then .suspect else .ok
      reason := if a.warn = true then some .excitationWarn
        else if s.wge.zeroState = .lost then some .zeroLost else none
      gross := some (s.windowGross a)
      net := some (s.windowGross a - img.tare)
      zone := some (zoneOf img (s.windowGross a - img.tare)) } := by
  refine ((if_neg (not_lt.mpr hst)).trans ((if_neg (not_lt.mpr hhigh)).trans (if_neg (not_lt.mpr hlow)))).trans ?_
  rw [← State.windowGross]
  by_cases hw : a.warn = true
  · simp [hw]
  · by_cases hz : s.wge.zeroState = .lost <;> simp [hw, hz]

end

/-- Settles O35. -/
theorem weighResultFollowsTheOrder : Obligations.WeighResultFollowsTheOrder := by
  intro s e a w none_
  have early : ∀ x, s.earlyReason e a = some x → none_ x := fun x h => State.weighResult_early h
  refine ⟨fun hh => early _ (State.earlyReason_held hh), fun hh =>
    ⟨fun hs => ?_, fun hs => ⟨fun hk => ?_, fun k hk => ?_⟩⟩⟩
  · exact early _ (State.earlyReason_noCalibration hh hs)
  · exact early _ (State.earlyReason_noRecipe hh hs hk)
  have hwin := State.earlyReason_window (a := a) hh hs hk
  refine ⟨fun h1 => early _ (by simp [hwin, h1]), fun h1 h2 => early _ (by simp [hwin, h1, h2]),
    fun h1 h2 h3 => early _ (by simp [hwin, h1, h2, h3]), fun h1 h2 h3 =>
    ⟨fun h4 => early _ (by simp [hwin, h1, h2, h3, h4]),
      fun h4 h5 => early _ (by simp [hwin, h1, h2, h3, h4, h5]), fun h4 h5 => ?_⟩⟩
  have hw : w = s.fullResult (s.image k) a :=
    State.weighResult_full (by simp [hwin, h1, h2, h3, h4, h5]) hk
  exact ⟨fun h => hw.trans (s.fullResult_unstable _ a h), fun hst =>
    ⟨fun h => hw.trans (s.fullResult_overload _ a hst h), fun h => hw.trans (s.fullResult_underload _ a hst h),
      fun hlow hhigh => hw.trans (s.fullResult_weighed _ a hst hlow hhigh)⟩⟩

end Sys2Proof.Machine
end

section
namespace Sys2Proof.Machine

/-! ## The platform (02 R42 to R47) -/

section
variable (s : State) (tag : Tag)

/-- A calibration is absent when its span is 0 (R60). -/
theorem State.calAbsent_iff : s.calAbsent = true ↔ s.wge.span = 0 := by
  rw [State.calAbsent, beq_iff_eq]

/-- A reason that depends on the calibration, its test written as an equation. -/
theorem State.calReason_eq (x y : WeighReason) :
    (if s.calAbsent then x else y) = if s.wge.span = 0 then x else y := by
  simp only [State.calAbsent_iff]

/-- The result that is written moves the entry to AWAITING_DECISION and is counted by its status (R42, R46, R64). -/
theorem State.writeWeigh_eq (w : WeighResult) : s.writeWeigh tag w =
    (s.onCtr fun c => { c with queue := c.queue.map fun e => if e.tag = tag then
      { e with weigh := some w, stage := .awaitingDecision } else e }).bump w.status.counter := by
  rw [State.writeWeigh, State.onEntry_eq]

variable (slot : Option SlotId)

/-- A held engine takes no can (R42, R61). -/
theorem State.handOff_held (h : s.sup.holdWge = true) :
    s.handOff tag slot = s.writeWeigh tag (notWeighed .engineHeld) := if_pos h

variable {s} (hh : s.sup.holdWge = false)
include hh

/-- A can without a recipe is not weighed (R42). -/
theorem State.handOff_noSlot : s.handOff tag none =
    s.writeWeigh tag (notWeighed (if s.wge.span = 0 then .noCalibration else .noRecipe)) := by
  rw [← State.calReason_eq, State.handOff, if_neg (by simp [hh]), if_pos (by rfl)]

variable {slot} (hs : slot ≠ none)
include hs

/-- A can with a recipe takes a place on the platform's list, or finds it full (R42, R43). -/
theorem State.handOff_slot : s.handOff tag slot = if 4 ≤ s.wge.records.length then s.crowded tag
    else s.onWge fun w => { w with records := w.records ++
      [{ tag := tag, platform := .approaching, window := .waiting, acc := Accumulator.empty }] } := by
  have hsome : slot.isNone = false := by cases slot <;> trivial
  rw [State.handOff, if_neg (by simp [hh]), if_neg (by simp [hsome])]

end

/-- Settles O32. -/
theorem handOffFollowsItsCases : Obligations.HandOffFollowsItsCases := by
  intro s tag slot nw
  have write : ∀ x, s.writeWeigh tag (notWeighed x) = nw s x := fun x => s.writeWeigh_eq tag (notWeighed x)
  refine ⟨fun hh => (s.handOff_held tag slot hh).trans (write _), fun hh hs => ?_, fun hh hs hfull => ?_,
    fun hh hs hroom => ?_⟩
  · rw [hs, State.handOff_noSlot tag hh, write]
  · rw [State.handOff_slot tag hh hs, if_pos hfull.ge, State.crowded, State.calReason_eq, write]
    rfl
  · rw [State.handOff_slot tag hh hs, if_neg (by omega)]
    rfl

/-! ## The platform points (02 R44 to R47) -/

section
variable (s : State) (tag : Tag)

theorem State.record_none (h : ∀ r ∈ s.wge.records, r.tag ≠ tag) : s.record tag = none :=
  List.find?_eq_none.mpr fun r hr => by simpa using h r hr

theorem State.record_isSome (h : ∃ r ∈ s.wge.records, r.tag = tag) : ∃ r, s.record tag = some r := by
  obtain ⟨r, hr, ht⟩ := h
  exact Option.isSome_iff_exists.mp (List.find?_isSome.mpr ⟨r, hr, by simpa using ht⟩)

/-- What the empty platform has collected goes; it is counted when there was any (R56). -/
theorem State.discardEmpty_eq : s.discardEmpty =
    if s.wge.emptyCount = 0 then s.onWge fun w => { w with emptySum := 0, emptyCount := 0 }
    else (s.onWge fun w => { w with emptySum := 0, emptyCount := 0 }).bump .zeroAbandoned := rfl

/-- A change of one record, its test written as an equation. -/
theorem State.onRecord_eq (f : Occupancy → Occupancy) : s.onRecord tag f =
    s.onWge fun w => { w with records := w.records.map fun r => if r.tag = tag then f r else r } := by
  simp [State.onRecord]

/-- Without a record the three points change nothing (R44, R45, R46). -/
theorem State.platformEntry_none (h : s.record tag = none) : s.platformEntry tag = s := by
  rw [State.platformEntry, h]

theorem State.settle_none (h : s.record tag = none) : s.settle tag = s := by rw [State.settle, h]

theorem State.endWindow_none (h : s.record tag = none) : s.endWindow tag = s := by rw [State.endWindow, h]

variable {s tag} {r : Occupancy} (hr : s.record tag = some r)
include hr

/-- The can is on the platform; the open windows of others are crowded (R44). -/
theorem State.platformEntry_some : s.platformEntry tag = (s.onWge fun w =>
    { w with records := w.records.map fun r =>
        if r.tag = tag then { r with platform := .onPlatform }
        else if r.window = .opened then r.markDouble else r }).discardEmpty := by
  simp only [State.platformEntry, hr, beq_iff_eq]

/-- The window opens, with its marks (R45). -/
theorem State.settle_some : s.settle tag = s.onRecord tag fun r =>
    { r with
      window := .opened
      acc := { r.acc with
        double := r.acc.double || s.wge.records.any fun x => x.tag != tag && x.platform == .onPlatform
        noSamples := r.acc.noSamples || s.wge.sampleState == .sampleLoss } } := by
  rw [State.settle, hr]

/-- The window closes and its result is written and offered (R46). -/
theorem State.endWindow_some {e : Entry} (he : s.entry tag = some e) : s.endWindow tag =
    ((s.onRecord tag fun r => { r with window := .closed }).writeWeigh tag (s.weighResult e r.acc)).offer e
      (s.weighResult e r.acc) := by
  rw [State.endWindow, hr]
  simp only [he]

end

/-- Taking a point is the tracker's alone (01 R30). -/
theorem State.pointTaken_touches (s : State) (tag : Tag) (p : Point) {ps : List Part} {cs : List Counter}
    (hp : .ctr ∈ ps := by decide) : Touches ps cs s (s.pointTaken tag p) :=
  (Touches.refl s).onCtr (fun c => { c with pointsDue := c.pointsDue.erase { tag := tag, point := p } }) hp

/-- Settles O33. -/
theorem platformPointsMoveTheRecord : Obligations.PlatformPointsMoveTheRecord := by
  intro s e
  refine ⟨fun ha => ?_, fun ha => ?_, fun ha => ?_⟩
  · intro u v
    have hexec : exec (.platformEntryPoint e.tag) s = .next (u.platformEntry e.tag) :=
      congrArg _ (ha.atPoint State.platformEntry)
    refine ⟨fun h => ?_, fun h => ?_⟩
    · obtain ⟨r, hr⟩ := u.record_isSome e.tag h
      rw [hexec, State.platformEntry_some hr, State.discardEmpty_eq]
      rfl
    · rw [hexec, u.platformEntry_none e.tag (u.record_none e.tag h)]
  · intro u
    have hexec : exec (.settlePoint e.tag) s = .next (u.settle e.tag) := congrArg _ (ha.atPoint State.settle)
    refine ⟨fun h => ?_, fun h => ?_⟩
    · obtain ⟨r, hr⟩ := u.record_isSome e.tag h
      rw [hexec, State.settle_some hr, State.onRecord_eq]
      rfl
    · rw [hexec, u.settle_none e.tag (u.record_none e.tag h)]
  · exact congrArg _ (ha.atPoint State.leavePlatform)

/-- Settles O34. -/
theorem endPointWritesAndOffersTheResult : Obligations.EndPointWritesAndOffersTheResult := by
  intro s e ha
  let v := s.pointTaken e.tag .endOfWindow
  have hexec : exec (.endPoint e.tag) s = .next (v.endWindow e.tag) := congrArg _ (ha.atPoint State.endWindow)
  refine ⟨fun r hr => ?_, fun h => ?_⟩
  · intro w
    let u := (v.onRecord e.tag fun r => { r with window := .closed }).writeWeigh e.tag w
    have hu : u = ((v.onWge fun x => { x with records := x.records.map fun r =>
          if r.tag = e.tag then { r with window := .closed } else r }).onCtr fun c =>
        { c with queue := c.queue.map fun x => if x.tag = e.tag then
          { x with weigh := some w, stage := .awaitingDecision } else x }).bump w.status.counter :=
      (State.writeWeigh_eq _ _ _).trans (by rw [State.onRecord_eq])
    refine ⟨u, hexec.trans (congrArg _ (State.endWindow_some (s := v) hr ha.entry_taken)), ?_, ?_, ?_, ?_⟩
    · rw [hu]
      rfl
    · rw [hu]
      rfl
    · rw [hu]
      rfl
    · rw [hu]
      have hv : Touches [.ctr, .wge, .counters] [w.status.counter] s v := s.pointTaken_touches e.tag .endOfWindow
      exact (((hv.onWge _).onCtr _).bump _ (hc := List.mem_singleton_self _)).parts
  · rw [hexec, v.endWindow_none e.tag (v.record_none e.tag h)]

/-! ## Sample loss (02 R35) -/

/-- Settles O30. -/
theorem sampleLossEmptiesTheFilter : Obligations.SampleLossEmptiesTheFilter := by
  intro s n hp hg u
  have hexec : exec .sampleGapExpiry s = .next s.loseSamples := by
    simp [exec, execSampleGapExpiry, State.taking, hp, hg]
  rw [hexec, State.loseSamples, State.discardEmpty_eq]
  by_cases h : s.wge.emptyCount = 0
  · rw [if_pos h, if_pos (by exact h)]
    rfl
  · rw [if_neg h, if_neg (by exact h)]
    rfl

end Sys2Proof.Machine
end

section
namespace Sys2Proof.Machine

/-! ## The start-up read (09 R183, R184) -/

section
variable (s : State)

/-- An eye that is watched changes the tracker alone (01 R22). -/
theorem State.watchEye_ctr (eye : Eye) : ∃ f, s.watchEye eye = s.onCtr f := by
  rw [State.watchEye]
  split
  · cases eye
    · exact ⟨_, s.eyeBlocks_infeed⟩
    · exact ⟨_, s.eyeBlocks_confirm⟩
  · exact ⟨id, rfl⟩

/-- Start-up completes with the eyes and the readiness inputs watched (R183). -/
theorem State.watchInputs_eq : ∃ f, s.watchInputs = (s.onSup fun u =>
    { u with phase := .running, binFull := { active := false, timing := s.binReads },
             airOk := { active := true, timing := !s.airReads } }).onCtr f := by
  obtain ⟨f, hf⟩ := State.watchEye_ctr (s.onSup fun u =>
    { u with phase := .running, binFull := { active := false, timing := s.binReads },
             airOk := { active := true, timing := !s.airReads } }) .infeed
  rw [State.watchInputs, hf]
  obtain ⟨g, hg⟩ := State.watchEye_ctr _ .confirm
  exact ⟨g ∘ f, hg⟩

/-- The copies and Z, taken while the zero is TRACKING (02 R60). -/
theorem State.takeCopies_tracking (c : CalRecord) (h : s.wge.zeroState = .tracking) : s.takeCopies c = s.onWge fun w =>
    { w with span := c.span, capacity := c.capacity, calZero := c.zero, zero := c.zero, zeroState := .tracking,
             driftRun := 0, emptySum := 0, emptyCount := 0 } := by
  rw [State.takeCopies, if_neg (by simp [h])]
  rfl

end

/-- `s` once the store is read and the copies are taken (R184, 02 R60). -/
def State.storeRead (s : State) : State :=
  (s.onSup fun u => { u with storeValid := u.store.checkAgrees, phase := .endingBypass }).onWge fun w =>
    let c : CalRecord := if s.sup.store.checkAgrees then s.sup.store.record else CalRecord.treated
    { w with span := c.span, capacity := c.capacity, calZero := c.zero, zero := c.zero, zeroState := .tracking,
             driftRun := 0, emptySum := 0, emptyCount := 0 }

section
variable {s : State}

theorem State.readStore_eq (h : s.wge.zeroState = .tracking) :
    s.readStore = if s.addressed then s.storeRead else s.storeRead.watchInputs := by
  have hcopies := State.takeCopies_tracking
    (s.onSup fun u => { u with storeValid := u.store.checkAgrees, phase := .endingBypass })
  rw [State.readStore, hcopies _ h]
  rfl

/-- What the start-up read leaves, with an address of one station and without (R183, 07 R162). -/
theorem State.readStore_cases (h : s.wge.zeroState = .tracking) :
    (s.addressed = true ∧ s.readStore = s.storeRead) ∨
      (s.addressed = false ∧ ∃ bin air f, s.readStore =
        (s.storeRead.onSup fun u => { u with phase := .running, binFull := bin, airOk := air }).onCtr f) := by
  rw [State.readStore_eq h]
  cases ha : s.addressed
  · obtain ⟨f, hf⟩ := s.storeRead.watchInputs_eq
    exact .inr ⟨rfl, _, _, f, hf⟩
  · exact .inl ⟨rfl, rfl⟩

theorem State.storeRead_touches : Touches [.sup, .wge, .ctr] [] s s.storeRead := ((Touches.refl s).onSup _).onWge _

end

theorem State.addressed_iff (s : State) :
    s.addressed = true ↔ 1 ≤ s.sup.address.toNat ∧ s.sup.address.toNat ≤ 62 := by
  simp [State.addressed]

/-- Settles O13. -/
theorem calibrationReadTakesCopies : Obligations.CalibrationReadTakesCopies := by
  intro s hp hz
  refine ⟨s.readStore, by simp [exec, execCalibrationRead, hp], ?_⟩
  rcases State.readStore_cases hz with ⟨ha, ht⟩ | ⟨ha, bin, air, f, ht⟩
  · have haddr := s.addressed_iff.mp ha
    rw [ht]
    exact ⟨⟨rfl, rfl, rfl⟩, rfl, rfl, rfl, fun _ => ⟨rfl, rfl⟩, fun h => by omega, State.storeRead_touches.parts⟩
  · have haddr : ¬ (1 ≤ s.sup.address.toNat ∧ s.sup.address.toNat ≤ 62) := by simp [← s.addressed_iff, ha]
    have hbypass : s.readStore.bypassed = true := by
      have hsame : s.readStore.addressed = false := by rw [ht]; exact ha
      rw [State.bypassed, hsame, Bool.and_false, Bool.not_false]
    rw [ht] at hbypass ⊢
    exact ⟨⟨rfl, rfl, rfl⟩, rfl, rfl, rfl, fun h => absurd h haddr, fun _ => ⟨rfl, hbypass⟩,
      ((State.storeRead_touches.onSup _).onCtr _).parts⟩

/-! ## The empty platform and the zero (02 R56 to R59) -/

/-- The platform's state is not read when a notice is formed. -/
theorem State.notify_onWge (s : State) (f : Wge → Wge) (n : Notice) : (s.onWge f).notify n = (s.notify n).onWge f := by
  have hbeside : (s.onWge f).notify n = (s.notify n).beside (s.onWge f) := State.beside_notify s (s.onWge f) n
  rw [hbeside]
  simp [State.beside, State.onWge]


section
variable (s : State)

/-- The Weigh Engine changed by `f`, with a ZERO_STATE notice of the zero it leaves when `changes` (R57, R58, R59). -/
def State.zeroReported (changes : Prop) [Decidable changes] (f : Wge → Wge) : State :=
  (if changes then s.notify (.zeroState (f s.wge).zeroState (f s.wge).zero) else s).onWge f

/-- What an evaluation that changes the zero leaves: a ZERO_STATE notice when the zero state `changes`, and one
count more. -/
def State.zeroReports (done : State) (changes : Prop) [Decidable changes] (z : ZeroState) (zero : Int)
    (c : Counter) : Prop :=
  let u := if changes then s.notify (.zeroState z zero) else s
  done.lif = u.lif ∧ done.mga = u.mga ∧ u.countsOnly done [c] ∧ s.changesOnly done [.wge, .lif, .mga, .counters]

section
variable (changes : Prop) [Decidable changes] (f : Wge → Wge)

theorem State.notifyZero_eq :
    (if changes then (s.onWge f).notifyZero else s.onWge f) = s.zeroReported changes f := by
  unfold State.zeroReported
  split
  · exact s.notify_onWge f _
  · rfl

theorem State.zeroReported_wge : (s.zeroReported changes f).wge = f s.wge := by
  unfold State.zeroReported
  split <;> simp

theorem State.zeroReported_reports (c : Counter) : s.zeroReports ((s.zeroReported changes f).bump c).clearEmpty
    changes (f s.wge).zeroState (f s.wge).zero c := by
  refine ⟨rfl, rfl, rfl, ?_⟩
  have hu : Touches [.wge, .lif, .mga, .counters] (c :: noticeCounts) s
      (if changes then s.notify (.zeroState (f s.wge).zeroState (f s.wge).zero) else s) := by
    split
    · exact (Touches.refl s).notify _ (by decide) (List.subset_cons_self _ _)
    · exact .refl s
  exact (((hu.onWge f).bump c (hc := List.mem_cons_self)).onWge _).parts

end

/-- An armed capture takes the empty value as Z (R59). -/
theorem State.captureZero_eq (ze : Int) : s.captureZero ze = (s.zeroReported (s.wge.zeroState = .lost) fun w =>
    { w with zero := ze, zeroState := .tracking, driftRun := 0, captureArmed := false }).bump .zeroCaptures :=
  congrArg (State.bump · .zeroCaptures) (s.notifyZero_eq _ _)

/-- An in-band evaluation moves Z by its share (R57). -/
theorem State.trackZero_eq (diff : Int) : s.trackZero diff = (s.zeroReported (s.wge.zeroState = .lost) fun w =>
    { w with zero := w.zero + roundDiv (diff * s.zeroCoefficient) 16, zeroState := .tracking,
             driftRun := 0 }).bump .zeroUpdates :=
  congrArg (State.bump · .zeroUpdates) (s.notifyZero_eq _ _)

/-- An out-of-band evaluation below the drift limit (R58). -/
theorem State.zeroOutOfBand_below (h : s.wge.driftRun + 1 < s.driftLimit) : s.zeroOutOfBand =
    (s.onWge fun w => { w with driftRun := s.wge.driftRun + 1 }).bump .zeroOutOfBand := by
  rw [State.zeroOutOfBand, if_neg (by omega)]

/-- An out-of-band evaluation at the drift limit declares the zero LOST (R58). -/
theorem State.zeroOutOfBand_limit (h : s.driftLimit ≤ s.wge.driftRun + 1) : s.zeroOutOfBand =
    (s.zeroReported (s.wge.zeroState = .tracking) fun w =>
      { w with driftRun := 0, zeroState := .lost }).bump .zeroOutOfBand := by
  rw [State.zeroOutOfBand, if_pos h]
  exact congrArg (State.bump · .zeroOutOfBand) (s.notifyZero_eq _ _)

/-- An armed capture comes before the tests of R57 (R59). -/
theorem State.evaluateEmpty_armed (ze : Int) (h : s.wge.captureArmed = true) : s.evaluateEmpty ze = s.captureZero ze :=
  if_pos h

variable (harm : s.wge.captureArmed = false)
include harm

theorem State.evaluateEmpty_noBand (ze : Int) (h : s.zeroBand = 0) : s.evaluateEmpty ze = s := by
  rw [State.evaluateEmpty, if_neg (by simp [harm]), if_pos h]

variable (hband : 0 < s.zeroBand)
include hband

theorem State.evaluateEmpty_inBand (ze : Int) (h : (ze - s.wge.zero).natAbs ≤ s.zeroBand) :
    s.evaluateEmpty ze = s.trackZero (ze - s.wge.zero) := by
  rw [State.evaluateEmpty, if_neg (by simp [harm]), if_neg hband.ne', if_pos h]

theorem State.evaluateEmpty_outOfBand (ze : Int) (h : s.zeroBand < (ze - s.wge.zero).natAbs) :
    s.evaluateEmpty ze = s.zeroOutOfBand := by
  rw [State.evaluateEmpty, if_neg (by simp [harm]), if_neg hband.ne', if_neg (by omega)]

end

section
variable (s : State)

/-- An output that is flagged or not NORMAL discards what was collected (R56). -/
theorem State.emptyTakes_flagged {y : Output} (h : y.overrange = true ∨ y.exc ≠ .normal) :
    s.emptyTakes y = s.discardEmpty := if_pos h

/-- An unflagged NORMAL output is collected below the window (R56). -/
theorem State.emptyTakes_collects (x : Int) (h : s.wge.emptyCount + 1 < s.emptyWindow) :
    s.emptyTakes { value := x, overrange := false, exc := .normal } =
      s.onWge fun w => { w with emptySum := s.wge.emptySum + x, emptyCount := s.wge.emptyCount + 1 } := by
  rw [State.emptyTakes, if_neg (by simp), if_neg (by omega)]

/-- The last of the window makes the evaluation (R56, R57). -/
theorem State.emptyTakes_evaluates (x : Int) (h : s.wge.emptyCount + 1 = s.emptyWindow) :
    s.emptyTakes { value := x, overrange := false, exc := .normal } =
      (s.evaluateEmpty (roundDiv (s.wge.emptySum + x) s.emptyWindow)).clearEmpty := by
  rw [State.emptyTakes, if_neg (by simp), if_pos h.ge, h]

end

/-- The Weigh Engine after an evaluation that changes it by `f`, whatever is reported. -/
theorem State.zeroReported_done (s : State) (changes : Prop) [Decidable changes] (f : Wge → Wge) (c : Counter) :
    ((s.zeroReported changes f).bump c).clearEmpty.wge = { f s.wge with emptySum := 0, emptyCount := 0 } := by
  rw [State.clearEmpty, State.onWge_wge, State.bump_wge, State.zeroReported_wge]

/-- Settles O31. -/
theorem emptyPlatformMovesTheZero : Obligations.EmptyPlatformMovesTheZero := by
  intro s x o sum ze done tracked reports
  refine ⟨s.emptyTakes_collects x, fun hn => ?_, fun y hy => ?_⟩
  · have hdone : done = (s.evaluateEmpty ze).clearEmpty := s.emptyTakes_evaluates x hn
    refine ⟨by rw [hdone]; rfl, by rw [hdone]; rfl, fun ha => ?_, fun ha hb => ?_, fun ha hb hin => ?_,
      fun ha hb hout => ?_⟩
    · rw [s.evaluateEmpty_armed ze ha, s.captureZero_eq] at hdone
      have hwge := (congrArg State.wge hdone).trans (s.zeroReported_done _ _ _)
      have hreports : s.zeroReports done (s.wge.zeroState = .lost) .tracking ze .zeroCaptures :=
        hdone ▸ s.zeroReported_reports _ _ _
      rw [hwge]
      exact ⟨rfl, rfl, rfl, rfl, hreports⟩
    · rw [hdone, s.evaluateEmpty_noBand ha ze hb]
      rfl
    · rw [s.evaluateEmpty_inBand ha hb ze hin, s.trackZero_eq] at hdone
      have hwge := (congrArg State.wge hdone).trans (s.zeroReported_done _ _ _)
      have hreports : s.zeroReports done (s.wge.zeroState = .lost) .tracking tracked .zeroUpdates :=
        hdone ▸ s.zeroReported_reports _ _ _
      rw [hwge]
      exact ⟨rfl, rfl, rfl, hreports⟩
    · rw [s.evaluateEmpty_outOfBand ha hb ze hout] at hdone
      by_cases hlimit : s.driftLimit ≤ s.wge.driftRun + 1
      · rw [s.zeroOutOfBand_limit hlimit] at hdone
        have hwge := (congrArg State.wge hdone).trans (s.zeroReported_done _ _ _)
        have hreports : s.zeroReports done (s.wge.zeroState = .tracking) .lost s.wge.zero .zeroOutOfBand :=
          hdone ▸ s.zeroReported_reports _ _ _
        rw [hwge]
        exact ⟨rfl, fun h => by omega, fun _ => ⟨rfl, rfl, hreports⟩⟩
      · rw [s.zeroOutOfBand_below (by omega)] at hdone
        rw [hdone]
        exact ⟨rfl, fun _ => ⟨rfl, rfl, rfl, rfl⟩, fun h => absurd h hlimit⟩
  · rw [s.emptyTakes_flagged hy, State.discardEmpty_eq]
    split
    · exact ⟨rfl, rfl, ((Touches.refl (cs := []) s).onWge _).parts⟩
    · exact ⟨rfl, rfl, (((Touches.refl (cs := [.zeroAbandoned]) s).onWge _).bump _).parts⟩

end Sys2Proof.Machine
end

section
namespace Sys2Proof.Machine

/-! ## A sample (02 R34 to R39) -/

/-- An output joins an open window (R49). -/
theorem Occupancy.take_eq (r : Occupancy) (o : Output) : r.take o =
    if r.window = .opened then
      { r with acc := { r.acc with
          sum := r.acc.sum + o.value, count := satInc r.acc.count,
          minimum := some ((r.acc.minimum.map fun m => min m o.value).getD o.value),
          maximum := some ((r.acc.maximum.map fun m => max m o.value).getD o.value),
          overrange := r.acc.overrange || o.overrange, warn := r.acc.warn || o.exc == .warn,
          halt := r.acc.halt || o.exc == .halt } }
    else r := by
  rw [Occupancy.take, Accumulator.join]
  cases r.acc.minimum <;> cases r.acc.maximum <;> rfl

section
variable (s : State) (x : FlaggedValue)

/-- `s` once a sample has been received (R34, R36): the gap timer restarts, and a sample loss ends with a notice. -/
def State.sampled : State :=
  (if s.wge.sampleState = .sampleLoss then s.notify (.sampleState .samplesOk) else s).onWge fun w =>
    { w with gapTimer := some s.sampleGap, sampleState := .samplesOk }

theorem State.takeSample_eq : s.takeSample x = s.sampled.decimate x := by
  rw [State.takeSample, State.sampled]
  cases hs : s.wge.sampleState with
  | samplesOk => simp [State.onWge, hs]
  | sampleLoss =>
    exact congrArg (State.decimate · x) (s.notify_onWge
      (fun w => { w with gapTimer := some s.sampleGap, sampleState := .samplesOk }) _)

theorem State.sampled_wge :
    s.sampled.wge = { s.wge with gapTimer := some s.sampleGap, sampleState := .samplesOk } := by
  unfold State.sampled
  split <;> simp

theorem State.sampled_touches : Touches [.wge, .lif, .mga, .counters] noticeCounts s s.sampled := by
  unfold State.sampled
  split
  · exact ((Touches.refl s).notify _).onWge _
  · exact (Touches.refl s).onWge _

/-- The decimated value joins the history, whose oldest values go (R38). -/
def State.joined : List FlaggedValue :=
  let h := s.wge.history ++
    [{ value := roundDiv (s.wge.decSum + x.value) s.decimation, overrange := s.wge.decFlag || x.overrange }]
  h.drop (h.length - s.averageLength)

/-- The output of a full history (R38). -/
def State.average (h : List FlaggedValue) : Output :=
  { value := roundDiv (h.map (·.value)).sum s.averageLength, overrange := h.any (·.overrange), exc := s.sup.exc }

/-- The sample is the last of its decimation, and the history it gives is full (R37, R38). -/
def State.fills : Bool :=
  decide (s.decimation ≤ s.wge.decCount + 1) && decide ((s.joined x).length = s.averageLength)

/-- `s` once the sample has gone through the filter (R37, R38, R39). -/
def State.filtered : State :=
  s.onWge fun w => { w with
    decSum := if s.decimation ≤ s.wge.decCount + 1 then 0 else s.wge.decSum + x.value
    decCount := if s.decimation ≤ s.wge.decCount + 1 then 0 else s.wge.decCount + 1
    decFlag := if s.decimation ≤ s.wge.decCount + 1 then false else s.wge.decFlag || x.overrange
    history := if s.decimation ≤ s.wge.decCount + 1 then s.joined x else s.wge.history
    output := if s.fills x then some (s.average (s.joined x)) else s.wge.output
    records := if s.fills x then s.wge.records.map (·.take (s.average (s.joined x))) else s.wge.records }

theorem State.platformEmpty_iff : s.platformEmpty = true ↔ ∀ r ∈ s.wge.records, r.platform ≠ .onPlatform := by
  simp [State.platformEmpty]

/-- A sample goes through the filter, and an output on an empty platform goes to its accumulator. -/
theorem State.decimate_eq : s.decimate x =
    if s.fills x = true ∧ s.platformEmpty = true then (s.filtered x).emptyTakes (s.average (s.joined x))
    else s.filtered x := by
  by_cases hd : s.decimation ≤ s.wge.decCount + 1
  · have hjoin : s.decimate x =
        (s.onWge fun w => { w with decSum := 0, decCount := 0, decFlag := false }).joinHistory
          { value := roundDiv (s.wge.decSum + x.value) s.decimation,
            overrange := s.wge.decFlag || x.overrange } := if_pos hd
    by_cases hl : (s.joined x).length = s.averageLength
    · have hfills : s.fills x = true := by simp [State.fills, hd, hl]
      have hout : s.decimate x = if s.platformEmpty then (s.filtered x).emptyTakes (s.average (s.joined x))
          else s.filtered x := by
        rw [hjoin, State.filtered, if_pos hd, if_pos hd, if_pos hd, if_pos hd, if_pos hfills, if_pos hfills]
        exact if_pos hl
      simp [hout, hfills]
    · have hfills : s.fills x = false := by simp [State.fills, hl]
      rw [if_neg (by simp [hfills]), hjoin, State.filtered, if_pos hd, if_pos hd, if_pos hd, if_pos hd,
        if_neg (by simp [hfills]), if_neg (by simp [hfills])]
      exact if_neg hl
  · have hfills : s.fills x = false := by simp [State.fills, hd]
    rw [if_neg (by simp [hfills]), State.filtered, if_neg hd, if_neg hd, if_neg hd, if_neg hd,
      if_neg (by simp [hfills]), if_neg (by simp [hfills])]
    exact if_neg hd

end

/-- Settles O29. -/
theorem sampleFlowsThroughTheFilter : Obligations.SampleFlowsThroughTheFilter := by
  refine ⟨fun value flag s h => ?_, fun value flag s hp hh => ?_⟩
  · rcases h with h | h <;> simp [exec, execSampleArrival, State.taking, h]
  intro sum set h₀ h full o
  let x : FlaggedValue := { value := value.toInt, overrange := flag }
  have hwge := s.sampled_wge
  have htouch := s.sampled_touches
  have hsetup : s.sampled.setup = s.setup := htouch.part .setup
  have hsup : s.sampled.sup = s.sup := htouch.part .sup
  have hdec : s.sampled.decimation = s.decimation := by rw [State.decimation, hsetup, State.decimation]
  have hlen : s.sampled.averageLength = s.averageLength := by rw [State.averageLength, hsetup, State.averageLength]
  have hjoined : s.sampled.joined x = h := by rw [State.joined, hwge, hdec, hlen]
  have hfull : s.sampled.fills x = full := by rw [State.fills, hjoined, hwge, hdec, hlen]
  have ho : s.sampled.average h = o := by rw [State.average, hsup, hlen]
  refine ⟨s.sampled.filtered x, ?_, ?_, ?_, ?_, ?_⟩
  · have hexec : exec (.sampleArrival value flag) s = .next (s.takeSample x) := by
      simp [exec, execSampleArrival, State.taking, hp, hh, x]
    have hempty : s.sampled.platformEmpty = true ↔ ∀ r ∈ s.wge.records, r.platform ≠ .onPlatform := by
      rw [State.platformEmpty_iff, hwge]
    rw [hexec, State.takeSample_eq, State.decimate_eq, hfull, hjoined, ho]
    exact congrArg _ (if_congr (and_congr_right' hempty) rfl rfl)
  · exact (htouch.onWge _).parts
  · rw [State.filtered, State.onWge_wge, hfull, hjoined, ho, hdec, hwge]
    simp only [Occupancy.take_eq]
    rfl
  · intro hs
    rw [State.filtered, State.sampled, if_neg (by simp [hs])]
    exact ⟨rfl, rfl, rfl⟩
  · intro hs
    rw [State.filtered, State.sampled, if_pos hs]
    exact ⟨rfl, rfl, rfl⟩

end Sys2Proof.Machine
end

section
namespace Sys2Proof.Machine

/-! ## Results written into several entries -/

/-- The entry of each of `l` that satisfies `p` changed by `f`, each counted: an entry is changed once, whatever number
of `l` name it. -/
theorem State.foldl_writes {α : Type} (p : α → Bool) (tag : α → Tag) (f : Entry → Entry) (c : Counter)
    (htag : ∀ e, (f e).tag = e.tag) (hf : ∀ e, f (f e) = f e) (l : List α) (s : State) :
    l.foldl (fun t x => if p x then (t.onEntry (tag x) f).bump c else t) s =
      { s with
        ctr := { s.ctr with
          queue := s.ctr.queue.map fun e => if l.any (fun x => tag x == e.tag && p x) then f e else e }
        counters := (((l.filter p).map fun _ => c).foldl State.bump s).counters } := by
  induction l generalizing s with
  | nil => simp
  | cons x l ih =>
    rw [List.foldl_cons, ih]
    cases hx : p x with
    | false => simp [hx]
    | true =>
      have hcount : ∀ cs : List Counter, (cs.foldl State.bump ((s.onEntry (tag x) f).bump c)).counters =
          (cs.foldl State.bump (s.bump c)).counters := 
        fun cs => foldl_bump_counters (s := s.bump c) (t := (s.onEntry (tag x) f).bump c) rfl cs
      have hentry : ∀ e : Entry,
          (if l.any (fun y => tag y == (if e.tag == tag x then f e else e).tag && p y) then
              f (if e.tag == tag x then f e else e) else if e.tag == tag x then f e else e) =
            if (x :: l).any (fun y => tag y == e.tag && p y) then f e else e := fun e => by
        by_cases he : e.tag = tag x
        · simp [he, htag, hf, hx]
        · simp [he, Ne.symm he, hx]
      simp only [if_true, List.filter_cons_of_pos hx, List.map_cons, List.foldl_cons, hcount]
      simp only [State.bump_ctr, State.onEntry, State.onCtr_ctr, List.map_map, Function.comp_def, hentry]
      rfl

/-- One counter more. -/
theorem State.countsOnly_bump {s t : State} {cs : List Counter} (h : s.countsOnly t cs) (c : Counter) :
    s.countsOnly (t.bump c) (cs ++ [c]) := by
  rw [State.countsOnly, List.foldl_append]
  exact foldl_bump_counters h [c]

/-! ## HOLD_BLOCK and RELEASE_BLOCK (09 R193) -/

section
variable {s : State} {b : Byte} {k : Block}

/-- The three blocks that can be held are the bytes 3, 4 and 5, in the order of their flags. -/
theorem blockOf_holdable {i : Nat} (hi : i < 3) (hb : b.toNat = i + 3) : ∃ k, blockOf b = some k ∧
    s.holdFlag k = some ([s.sup.holdWge, s.sup.holdCck, s.sup.holdDrg].getD i false) := by
  rw [blockOf, hb]
  match i, hi with
  | 0, _ => exact ⟨.wge, rfl, rfl⟩
  | 1, _ => exact ⟨.cck, rfl, rfl⟩
  | 2, _ => exact ⟨.drg, rfl, rfl⟩

/-- The other six cannot. -/
theorem blockOf_unholdable (hb : b.toNat < 9) (h : b.toNat ∉ [3, 4, 5]) :
    ∃ k, blockOf b = some k ∧ s.holdFlag k = none := by
  have hrow : ∀ n < 9, n ∉ [3, 4, 5] → ∃ k ∈ [Block.lif, .mga, .ctr, .gtc, .rcs, .sup],
      [Block.lif, .mga, .ctr, .wge, .cck, .drg, .gtc, .rcs, .sup][n]? = some k := by decide
  obtain ⟨k, hmem, hk⟩ := hrow _ hb h
  refine ⟨k, hk, ?_⟩
  fin_cases hmem <;> rfl

variable (hk : blockOf b = some k)
include hk

theorem serveHoldBlock_refused (h : s.holdFlag k = none) : serveHoldBlock s [b] = s.refuse .notHoldable := by
  simp only [serveHoldBlock, hk, h]

theorem serveHoldBlock_held (h : s.holdFlag k = some true) : serveHoldBlock s [b] = s.okay := by
  simp only [serveHoldBlock, hk, h]

theorem serveHoldBlock_holds (h : s.holdFlag k = some false) :
    serveHoldBlock s [b] = (((s.setHold k true).holdAction k).bump .holds).okay := by
  simp only [serveHoldBlock, hk, h]

theorem serveReleaseBlock_refused (h : s.holdFlag k = none) : serveReleaseBlock s [b] = s.refuse .notHoldable := by
  simp only [serveReleaseBlock, hk, h]

theorem serveReleaseBlock_free (h : s.holdFlag k = some false) : serveReleaseBlock s [b] = s.okay := by
  simp only [serveReleaseBlock, hk, h]

theorem serveReleaseBlock_releases (h : s.holdFlag k = some true) :
    serveReleaseBlock s [b] = (((s.setHold k false).releaseAction k).bump .releases).okay := by
  simp only [serveReleaseBlock, hk, h]

end

/-! ## What each block does at its hold (02 R61, 03 R80, 04 R102) -/

/-- An entry whose window ends at the hold of the Weigh Engine (02 R61). -/
def Entry.engineHeld (e : Entry) : Entry :=
  { e with weigh := some (notWeighed .engineHeld), stage := .awaitingDecision }

/-- An entry whose request ends at the hold of the Code Checker (03 R80). -/
def Entry.notChecked (e : Entry) : Entry := { e with codeState := .result, code := some (bareCode .notChecked) }

/-- A held Weigh Engine: its unclosed windows end as ENGINE_HELD, and it keeps nothing but its calibration. -/
theorem State.holdWgeBlock_eq (s : State) : s.holdWgeBlock = { s with
    ctr := { s.ctr with
      queue := s.ctr.queue.map fun e =>
        if s.wge.records.any (fun r => r.tag == e.tag && r.window != .closed) then e.engineHeld else e }
    wge := { Wge.reset with
      span := s.wge.span, capacity := s.wge.capacity, calZero := s.wge.calZero, zero := s.wge.calZero }
    counters := (((s.wge.records.filter fun r => r.window != .closed).map fun _ =>
      Counter.resultsNotWeighed).foldl State.bump s).counters } := by
  have hstep : (fun (t : State) (r : Occupancy) =>
      if r.window = .closed then t else t.writeWeigh r.tag (notWeighed .engineHeld)) =
      fun t r => if r.window != .closed then (t.onEntry r.tag Entry.engineHeld).bump .resultsNotWeighed else t := by
    funext t r
    by_cases hr : r.window = .closed
    · simp [hr]
    · simp only [hr, if_false, bne_iff_ne, ne_eq, not_false_eq_true, if_true]
      rfl
  rw [State.holdWgeBlock, hstep, State.foldl_writes _ _ Entry.engineHeld _ (fun _ => rfl) fun _ => rfl]
  rfl

/-- A held Code Checker: its open requests end as NOT_CHECKED, and its dates and its run are forgotten. -/
theorem State.holdCckBlock_eq (s : State) : s.holdCckBlock = { s with
    ctr := { s.ctr with
      queue := s.ctr.queue.map fun e =>
        if s.ctr.queue.any (fun x => x.tag == e.tag && x.codeState == .requested) then e.notChecked else e }
    cck := Cck.reset
    counters := (((s.ctr.queue.filter fun e => e.codeState == .requested).map fun _ =>
      Counter.codeNotChecked).foldl State.bump s).counters } := by
  have hstep : (fun (t : State) (e : Entry) =>
      if e.codeState = .requested then t.storeCode e.tag (bareCode .notChecked) else t) =
      fun t e => if e.codeState == .requested then (t.onEntry e.tag Entry.notChecked).bump .codeNotChecked else t := by
    funext t e
    simp only [beq_iff_eq]
    rfl
  rw [State.holdCckBlock, hstep, State.foldl_writes _ _ Entry.notChecked _ (fun _ => rfl) fun _ => rfl]
  rfl

/-! ## The Dose Regulator's release (04 R100, R104) -/

/-- What the transmit port reads is the same in both states: its queues, the setup, the phase and the station. -/
structure SamePort (s t : State) : Prop where
  lif : t.lif = s.lif
  setup : t.setup = s.setup
  phase : t.sup.phase = s.sup.phase
  address : t.sup.address = s.sup.address

namespace SamePort

variable {s t : State} (h : SamePort s t)
include h

theorem startSending (c : TxClass) : (t.startSending c).lif = (s.startSending c).lif := by
  have hframe : ∀ x, t.frameToSend x = s.frameToSend x := fun x => by
    unfold State.frameToSend State.ownStation State.hopStart
    rw [h.lif, h.setup, h.address]
  unfold State.startSending
  rw [h.lif]
  split
  · exact h.lif
  · simp only [hframe]
    split <;> simp only [State.onLif_lif, h.lif]

theorem arbitrate : t.arbitrate.lif = s.arbitrate.lif := by
  have hbypass : t.bypassed = s.bypassed := by
    unfold State.bypassed State.taking State.addressed
    rw [h.phase, h.address]
  have hnext : t.nextClass = s.nextClass := by
    unfold State.nextClass State.elevation
    rw [h.lif, h.setup]
  unfold State.arbitrate
  rw [hbypass, h.lif, hnext]
  split
  · exact h.lif
  · split
    · exact h.lif
    · exact h.startSending _

theorem join (c : TxClass) (x : Queued) : (t.join c x).lif = (s.join c x).lif :=
  SamePort.arbitrate (s := s.onLif fun l => l.setQueue c (l.queue c ++ [x]))
    (t := t.onLif fun l => l.setQueue c (l.queue c ++ [x]))
    ⟨by rw [State.onLif_lif, State.onLif_lif, h.lif], h.setup, h.phase, h.address⟩

/-- A frame for the filler goes, and is counted, in the same way from both states (04 R89, R100). -/
theorem toFiller (hc : t.counters = s.counters) (c : Counter) (x : Queued) :
    (t.toFiller c x).lif = (s.toFiller c x).lif ∧ (t.toFiller c x).counters = (s.toFiller c x).counters := by
  have hstation : t.fillerStation = s.fillerStation := by
    rw [State.fillerStation, h.setup, State.fillerStation]
  have hbump : ∀ {u v : State}, v.counters = u.counters → ∀ d, (v.bump d).counters = (u.bump d).counters :=
    fun huv d => foldl_bump_counters huv [d]
  unfold State.toFiller
  rw [h.lif, hstation]
  split_ifs
  · exact ⟨h.lif, hbump hc _⟩
  · exact ⟨h.lif, hbump hc _⟩
  · exact ⟨h.join _ _, hbump (by rw [State.join_counters, State.join_counters, hc]) _⟩

end SamePort

namespace Touches

variable {ps : List Part} {cs : List Counter} {s t : State} (h : Touches ps cs s t)
include h

theorem onValves (f : Nat → Valve → Valve) (hp : .drg ∈ ps := by decide) : Touches ps cs s (t.onValves f) :=
  h.trans (of_counters (State.changesOnly_part .drg hp rfl fun p hp => by
    cases p <;> simp_all [Part.same, State.onValves]) rfl)

theorem toFiller (c : Counter) (x : Queued) (hp : [.lif, .counters] ⊆ ps := by decide)
    (hc : [c, .trimOverflow, .trimNoStation] ⊆ cs := by decide) : Touches ps cs s (t.toFiller c x) := by
  have hl : Part.lif ∈ ps := hp (by decide)
  have hn : Part.counters ∈ ps := hp (by decide)
  unfold State.toFiller
  split_ifs
  · exact h.bump _ hn (hc (by simp))
  · exact h.bump _ hn (hc (by simp))
  · exact (h.join _ _ hl).bump _ hn (hc (by simp))

end Touches

/-- The first `n` valves of the table, as far as it goes. -/
theorem State.take_valves (s : State) (n : Nat) :
    s.drg.valves.toList.take n = (List.range (min n 96)).map s.valve := by
  have hlen : s.drg.valves.toList.length = 96 := by simp
  rw [List.take_eq_take_min, hlen]
  have h := take_drop_eq_map s.drg.valves.toList Valve.reset (off := 0) (n := min n 96) (by omega)
  simp only [List.drop_zero, Nat.zero_add] at h
  exact h

/-- `s` with every valve below the valve count cleared (R99). -/
def State.tableCleared (s : State) : State := s.onValves fun i x => if i < s.valveCount then x.cleared else x

theorem State.tableCleared_valve (s : State) {i : Nat} (hi : i < 96) :
    s.tableCleared.valve i = if i < s.valveCount then (s.valve i).cleared else s.valve i :=
  s.onValves_valve _ hi

/-- The TRIM_CLEAR of a release tells recipe id 0 and the advanced epochs (R100, R104). -/
theorem State.clearTable_zero (s : State) :
    s.clearTable 0 = s.tableCleared.toFiller .trimClears (s.trimClear 0) := by
  have hepochs : (s.tableCleared.drg.valves.toList.take s.valveCount).map (·.epoch) =
      (List.range (min s.valveCount 96)).map fun v => (s.valve v).epoch + 1 := by
    rw [State.take_valves, List.map_map]
    refine List.map_congr_left fun v hv => ?_
    have hv := List.mem_range.mp hv
    rw [Function.comp_apply, s.tableCleared_valve (by omega), if_pos (by omega)]
    rfl
  have hclear : s.clearTable 0 = s.tableCleared.toFiller .trimClears (.own s.fillerStation 0x54
      (trimClearPayload 0 ((s.tableCleared.drg.valves.toList.take s.valveCount).map (·.epoch))) false) :=
    State.sendTrimClear_eq _ 0
  rw [hclear, hepochs]
  simp only [State.trimClear, trimClearPayload, counted, List.length_map, List.length_range]
  rfl

/-! ## Holds and releases with their flags and counts -/

/-- The hold of the Weigh Engine, its flag and its count with it. -/
theorem State.holdWge_done (s : State) :
    let v := ((s.setHold .wge true).holdAction .wge).bump .holds
    v.sup = { s.sup with holdWge := true } ∧
      v.ctr = { s.ctr with
        queue := s.ctr.queue.map fun e =>
          if s.wge.records.any (fun r => r.tag == e.tag && r.window != .closed) then e.engineHeld else e } ∧
      v.wge = { Wge.reset with
        span := s.wge.span, capacity := s.wge.capacity, calZero := s.wge.calZero, zero := s.wge.calZero } ∧
      s.countsOnly v (((s.wge.records.filter fun r => r.window != .closed).map fun _ => .resultsNotWeighed) ++
        [.holds]) ∧
      s.changesOnly v [.sup, .ctr, .wge, .counters] := by
  intro v
  have hv : v = State.bump _ .holds := congrArg (State.bump · .holds) (s.setHold .wge true).holdWgeBlock_eq
  rw [hv]
  refine ⟨rfl, rfl, rfl, State.countsOnly_bump ?_ .holds, rfl, fun p hp => ?_⟩
  · exact foldl_bump_counters (s := s) (t := s.setHold .wge true) rfl _
  · cases p <;> simp_all [Part.same, State.setHold]

/-- The hold of the Code Checker, its flag and its count with it. -/
theorem State.holdCck_done (s : State) :
    let v := ((s.setHold .cck true).holdAction .cck).bump .holds
    v.sup = { s.sup with holdCck := true } ∧
      v.ctr = { s.ctr with
        queue := s.ctr.queue.map fun e =>
          if s.ctr.queue.any (fun x => x.tag == e.tag && x.codeState == .requested) then e.notChecked else e } ∧
      v.cck = Cck.reset ∧
      s.countsOnly v (((s.ctr.queue.filter fun e => e.codeState == .requested).map fun _ => .codeNotChecked) ++
        [.holds]) ∧
      s.changesOnly v [.sup, .ctr, .cck, .counters] := by
  intro v
  have hv : v = State.bump _ .holds := congrArg (State.bump · .holds) (s.setHold .cck true).holdCckBlock_eq
  rw [hv]
  refine ⟨rfl, rfl, rfl, State.countsOnly_bump ?_ .holds, rfl, fun p hp => ?_⟩
  · exact foldl_bump_counters (s := s) (t := s.setHold .cck true) rfl _
  · cases p <;> simp_all [Part.same, State.setHold]

/-- The hold of the Dose Regulator, its flag and its count with it. -/
theorem State.holdDrg_done (s : State) :
    let v := ((s.setHold .drg true).holdAction .drg).bump .holds
    v.sup = { s.sup with holdDrg := true } ∧ (∀ i < 96, v.valve i = (s.valve i).heldReset) ∧
      s.countsOnly v [.holds] ∧ s.changesOnly v [.sup, .drg, .counters] :=
  ⟨rfl, fun _ hi => (s.setHold .drg true).onValves_valve _ hi, rfl,
    ((((Touches.refl (cs := [.holds]) s).onSup _).onValves _).bump _).parts⟩

/-- The release of the Dose Regulator: the table is cleared, and the filler is told as it would be from `s`. -/
theorem State.releaseDrg_done (s : State) :
    let v := (((s.setHold .drg false).releaseAction .drg).bump .releases)
    let a := s.toFiller .trimClears (s.trimClear 0)
    v.sup = { s.sup with holdDrg := false } ∧
      (∀ i < 96, v.valve i = if i < s.valveCount then (s.valve i).cleared else s.valve i) ∧
      v.counter .releases = satInc (s.counter .releases) ∧ (v.lif = a.lif ∧ a.countsOnly v [.releases]) ∧
      s.changesOnly v [.sup, .drg, .lif, .counters] := by
  intro v a
  let y := (s.setHold .drg false).tableCleared
  let t := y.toFiller .trimClears (s.trimClear 0)
  have hv : v = t.bump .releases := congrArg (State.bump · .releases) (s.setHold .drg false).clearTable_zero
  have hsent : Touches [.lif, .counters] [.trimClears, .trimOverflow, .trimNoStation] y t :=
    (Touches.refl y).toFiller _ _
  have hcleared : Touches [.sup, .drg, .lif, .counters] [.trimClears, .trimOverflow, .trimNoStation] s y :=
    ((Touches.refl s).onSup _).onValves _
  have hall : Touches [.sup, .drg, .lif, .counters] [.trimClears, .trimOverflow, .trimNoStation] s t :=
    hcleared.toFiller _ _
  have hfiller := SamePort.toFiller (s := s) (t := y) ⟨rfl, rfl, rfl, rfl⟩ rfl .trimClears (s.trimClear 0)
  rw [hv]
  refine ⟨hsent.part .sup, fun i hi => ?_, ?_, ⟨hfiller.1, foldl_bump_counters hfiller.2 [.releases]⟩, ?_⟩
  · exact (State.valve_congr (hsent.part .drg) i).trans ((s.setHold .drg false).tableCleared_valve hi)
  · rw [State.counter_bump, if_pos rfl, hall.counter .releases]
  · exact ((hall.mono (List.Subset.refl _) (List.subset_cons_self .releases _)).bump .releases).parts

/-! ## The requests served -/

section
variable {s : State} {r : Request} {rest : List Request} {b : Byte} (hb : s.begins r rest) (ha : r.args = [b])
include hb ha

theorem State.begins.holdBlock (hc : r.code = 0x41) :
    exec .holdBlock s = .next (replyTo r (serveHoldBlock (s.took rest) [b])) := by
  rw [exec, execHoldBlock, hb.serve hc, ha]

theorem State.begins.releaseBlock (hc : r.code = 0x42) :
    exec .releaseBlock s = .next (replyTo r (serveReleaseBlock (s.took rest) [b])) := by
  rw [exec, execReleaseBlock, hb.serve hc, ha]

end

/-- Settles O59. -/
theorem holdsAndReleasesTakeEffect : Obligations.HoldsAndReleasesTakeEffect := by
  intro s r rest b hb ha u done flags
  refine ⟨fun hc => ?_, fun hc => ?_⟩
  · have hexec := hb.holdBlock ha hc
    have holds : ∀ {k : Block}, blockOf b = some k → u.holdFlag k = some false →
        done .holdBlock (((u.setHold k true).holdAction k).bump .holds) := fun hk hf =>
      hexec.trans (next_replyTo (serveHoldBlock_holds hk hf))
    refine ⟨fun h9 hout => ?_, fun i hi hbi hf => ?_, fun h3 hf => ?_, fun h4 hf => ?_, fun h5 hf => ?_⟩
    · obtain ⟨k, hk, hnone⟩ := blockOf_unholdable (s := u) h9 hout
      exact hexec.trans (next_replyTo (serveHoldBlock_refused hk hnone))
    · obtain ⟨k, hk, hflag⟩ := blockOf_holdable (s := u) hi hbi
      exact hexec.trans (next_replyTo (serveHoldBlock_held hk (hflag.trans (congrArg some hf))))
    · refine ⟨_, holds (k := .wge) (by rw [h3]; rfl) (congrArg some hf), ?_⟩
      exact u.holdWge_done
    · refine ⟨_, holds (k := .cck) (by rw [h4]; rfl) (congrArg some hf), ?_⟩
      exact u.holdCck_done
    · refine ⟨_, holds (k := .drg) (by rw [h5]; rfl) (congrArg some hf), ?_⟩
      exact u.holdDrg_done
  · have hexec := hb.releaseBlock ha hc
    have releases : ∀ {k : Block}, blockOf b = some k → u.holdFlag k = some true →
        done .releaseBlock (((u.setHold k false).releaseAction k).bump .releases) := fun hk hf =>
      hexec.trans (next_replyTo (serveReleaseBlock_releases hk hf))
    refine ⟨fun h9 hout => ?_, fun i hi hbi hf => ?_, fun h3 hf => ?_, fun h4 hf => ?_, fun h5 hf => ?_⟩
    · obtain ⟨k, hk, hnone⟩ := blockOf_unholdable (s := u) h9 hout
      exact hexec.trans (next_replyTo (serveReleaseBlock_refused hk hnone))
    · obtain ⟨k, hk, hflag⟩ := blockOf_holdable (s := u) hi hbi
      exact hexec.trans (next_replyTo (serveReleaseBlock_free hk (hflag.trans (congrArg some hf))))
    · exact releases (k := .wge) (by rw [h3]; rfl) (congrArg some hf)
    · exact releases (k := .cck) (by rw [h4]; rfl) (congrArg some hf)
    · refine ⟨_, releases (k := .drg) (by rw [h5]; rfl) (congrArg some hf), ?_⟩
      exact u.releaseDrg_done

end Sys2Proof.Machine
end


section
namespace Sys2Proof.Machine

/-! ## The form of a CODE reply (03 R69) -/

/-- The two bytes of a tag are those it was put together from. -/
theorem append_halves (a b : Byte) :
    (((a ++ b : Word16) >>> 8).setWidth 8 : Byte) = a ∧ ((a ++ b : Word16).setWidth 8 : Byte) = b := by
  have hab := toNat_append_byte a b
  constructor
  · apply BitVec.eq_of_toNat_eq
    rw [BitVec.toNat_setWidth, BitVec.toNat_ushiftRight, hab, Nat.shiftRight_eq_div_pow]
    omega
  · apply BitVec.eq_of_toNat_eq
    rw [BitVec.toNat_setWidth, hab]
    omega

/-- A flag byte that R69 lets pass is 0 for a read and 1 for none. -/
theorem readFlag_iff {flag : Byte} : flag.toNat ≤ 1 ↔ flag = if flag == 0 then 0 else 1 := by
  by_cases h : flag = 0
  · simp [h]
  · simp only [beq_iff_eq, h, if_false]
    constructor
    · intro; bv_omega
    · rintro rfl; decide

/-- A well formed payload and the reply it holds, byte by byte. -/
theorem codeReplyOf_eq_some (payload : List Byte) (r : CodeReply) : codeReplyOf payload = some r ↔
    ∃ flag grade : Byte, payload = [(r.tag >>> 8).setWidth 8, r.tag.setWidth 8, flag, grade,
        BitVec.ofNat 8 r.text.length] ++ r.text ∧
      flag = (if r.read then 0 else 1) ∧ r.text.length ≤ 32 ∧
      (∀ b ∈ r.text, 0x20 ≤ b.toNat ∧ b.toNat ≤ 0x7E) ∧
      ((grade = 0xFF ∧ r.grade = none) ∨ (grade.toNat ≤ 4 ∧ r.grade = some grade.toNat)) := by
  constructor
  · intro h
    unfold codeReplyOf at h
    split at h
    · rename_i t1 t0 flag grade len text
      split at h
      · rename_i hform
        obtain ⟨hflag, hgrade, hlen, hprint, hcount⟩ := hform
        obtain rfl := Option.some.inj h
        obtain ⟨h1, h0⟩ := append_halves t1 t0
        refine ⟨flag, grade, ?_, readFlag_iff.mp hflag, by simpa [hcount] using hlen, ?_, ?_⟩
        · simp [h1, h0, hcount]
        · simpa only [List.all_eq_true, printable_iff] using hprint
        · by_cases hg : grade = 0xFF
          · exact .inl ⟨hg, if_pos hg⟩
          · exact .inr ⟨hgrade.resolve_right hg, if_neg hg⟩
      · cases h
    · cases h
  · obtain ⟨tag, read, got, text⟩ := r
    rintro ⟨flag, grade, rfl, hflag, hlen, hprint, hgrade⟩
    have hread : (flag == 0) = read := by cases read <;> simp_all
    have hall : text.all printable = true := by simpa only [List.all_eq_true, printable_iff] using hprint
    have hgrade' : (grade.toNat ≤ 4 ∨ grade = 0xFF) ∧
        (if grade = 0xFF then none else some grade.toNat) = got := by
      rcases hgrade with ⟨rfl, rfl⟩ | ⟨h4, rfl⟩
      · exact ⟨.inr rfl, if_pos rfl⟩
      · exact ⟨.inl h4, if_neg (by rintro rfl; exact absurd h4 (by decide))⟩
    have hcount : (BitVec.ofNat 8 text.length).toNat = text.length := by
      simp only [BitVec.toNat_ofNat]
      dsimp only at hlen
      omega
    have hform : flag.toNat ≤ 1 := readFlag_iff.mpr (by rw [hread]; exact hflag)
    simp only [List.cons_append, List.nil_append, codeReplyOf]
    rw [if_pos ⟨hform, hgrade'.1, by rw [hcount]; exact hlen, hall, hcount.symm⟩, halves_append, hread, hgrade'.2]

/-! ## The expanded pattern (03 R73, R74) -/

theorem expandElement_eq (lot date : List Byte) (w : Word16) : expandElement lot date w =
    if w.toNat / 256 = 1 then [.exactly (w.setWidth 8)] else if w.toNat / 256 = 2 then [.digit]
    else if w.toNat / 256 = 3 then [.letter] else if w.toNat / 256 = 4 then [.any]
    else if w.toNat / 256 = 5 then lot.map .exactly else if w.toNat / 256 = 6 then date.map .exactly else [] := by
  unfold expandElement
  split
  · rename_i h; simp [h, BitVec.ofNat_toNat]
  all_goals simp_all

theorem Position.admits_iff (b c : Byte) : ((Position.exactly c).admits b = true ↔ b = c) ∧
    (Position.digit.admits b = true ↔ 0x30 ≤ b.toNat ∧ b.toNat ≤ 0x39) ∧
    (Position.letter.admits b = true ↔ 0x41 ≤ b.toNat ∧ b.toNat ≤ 0x5A) ∧
    (Position.any.admits b = true ↔ 0x20 ≤ b.toNat ∧ b.toNat ≤ 0x7E) := by
  refine ⟨?_, ?_, ?_, printable_iff b⟩ <;> simp [Position.admits]

theorem Cck.resolveDate_eq (c : Cck) (gen : Byte) : c.resolveDate gen =
    if gen = c.generation then (match c.current with | some t => .ok t | none => .error .noDate)
    else if gen + 1 = c.generation then (match c.previous with | some t => .ok t | none => .error .noDate)
    else .error .staleDate := by
  have hprev : gen = c.generation - 1 ↔ gen + 1 = c.generation := by constructor <;> intro <;> bv_omega
  exact if_congr Iff.rfl rfl (if_congr hprev rfl rfl)

theorem hasDate_iff (img : Image) : hasDate img = true ↔ ∃ w ∈ img.elements, w.toNat / 256 = 6 := by
  simp [hasDate]

/-! ## The failing index (03 R75) -/

/-- The count of a failing index starts at the index of the heads. -/
theorem failIndex_shift (n : Nat) (ps : List Position) (text : List Byte) :
    failIndex n ps text = (failIndex 0 ps text).map (· + n) := by
  induction ps generalizing n text with
  | nil => cases text <;> simp [failIndex]
  | cons p ps ih =>
    cases text with
    | nil => simp [failIndex]
    | cons b bs =>
      simp only [failIndex]
      split
      · rw [ih (n + 1), ih (0 + 1), Option.map_map]
        congr 1
        funext i
        simp only [Function.comp_apply]
        omega
      · simp

/-- Heads that match are passed over; heads that do not, fail at once. -/
theorem failIndex_cons (p : Position) (ps : List Position) (b : Byte) (bs : List Byte) :
    failIndex 0 (p :: ps) (b :: bs) = if p.admits b then (failIndex 0 ps bs).map (· + 1) else some 0 := by
  rw [failIndex, failIndex_shift (0 + 1)]

theorem failIndex_eq_none (ps : List Position) (text : List Byte) : failIndex 0 ps text = none ↔
    ps.length = text.length ∧
      ∀ (i : Nat) (p : Position) (b : Byte), ps[i]? = some p → text[i]? = some b → p.admits b = true := by
  induction ps generalizing text with
  | nil => cases text <;> simp [failIndex]
  | cons p ps ih =>
    cases text with
    | nil => simp [failIndex]
    | cons b bs =>
      rw [failIndex_cons]
      cases hb : p.admits b with
      | true =>
        simp only [if_true, Option.map_eq_none_iff, ih, List.length_cons, Nat.add_right_cancel_iff]
        refine and_congr_right fun _ => ⟨fun h i => ?_, fun h i => h (i + 1)⟩
        cases i with
        | zero => simp [hb]
        | succ i => exact h i
      | false => exact ⟨nofun, fun h => absurd (h.2 0 p b rfl rfl) (by simp [hb])⟩

theorem failIndex_eq_some (ps : List Position) (text : List Byte) (i : Nat) : failIndex 0 ps text = some i ↔
    (∀ j < i, ∃ (p : Position) (b : Byte), ps[j]? = some p ∧ text[j]? = some b ∧ p.admits b = true) ∧
      (ps[i]? ≠ none ∨ text[i]? ≠ none) ∧
      (∀ (p : Position) (b : Byte), ps[i]? = some p → text[i]? = some b → p.admits b = false) := by
  induction ps generalizing text i with
  | nil =>
    cases text with
    | nil => simp [failIndex]
    | cons b bs =>
      cases i with
      | zero => simp [failIndex]
      | succ i =>
        rw [Nat.forall_lt_succ_left]
        simp [failIndex]
  | cons p ps ih =>
    cases text with
    | nil =>
      cases i with
      | zero => simp [failIndex]
      | succ i =>
        rw [Nat.forall_lt_succ_left]
        simp [failIndex]
    | cons b bs =>
      rw [failIndex_cons]
      cases i with
      | zero => cases hb : p.admits b <;> simp [hb]
      | succ i =>
        rw [Nat.forall_lt_succ_left]
        cases hb : p.admits b with
        | true => simpa [hb] using ih bs i
        | false => simp [hb]

/-- Settles O38. -/
theorem codeTextIsJudgedByThePattern : Obligations.CodeTextIsJudgedByThePattern := by
  refine ⟨codeReplyOf_eq_some, expandElement_eq, Position.admits_iff, Cck.resolveDate_eq,
    fun ps text => ⟨failIndex_eq_none ps text, failIndex_eq_some ps text⟩, fun c img gen text => ?_⟩
  intro fails
  refine ⟨fun hnone => ?_, fun hdate => ?_⟩
  · have hno : hasDate img = false := by
      rw [← Bool.not_eq_true, hasDate_iff]
      push Not
      exact hnone
    rw [patternFailure, hno]
    rfl
  · rw [patternFailure, if_pos ((hasDate_iff img).mpr hdate)]
    refine ⟨fun date hd => ?_, fun d hd => ?_⟩ <;> rw [hd]
    rfl

end Sys2Proof.Machine
end

section
namespace Sys2Proof.Machine

/-! ## What is sent and reported the same from two states -/

/-- A count of `c` before counts of `cs` or after them gives the same. -/
theorem foldl_bump_comm (cs : List Counter) (s : State) (c : Counter) :
    cs.foldl State.bump (s.bump c) = (cs.foldl State.bump s).bump c := by
  induction cs generalizing s with
  | nil => rfl
  | cons d cs ih => rw [List.foldl_cons, State.bump_comm, ih, List.foldl_cons]

/-- Frames, notices and line-stop causes come the same from `s` and from `t`: what they read is the same in both, and
`t` has counted `cs` more. -/
structure SameVoice (cs : List Counter) (s t : State) : Prop where
  sup : t.sup = s.sup
  lif : t.lif = s.lif
  mga : t.mga = s.mga
  setup : t.setup = s.setup
  counts : s.countsOnly t cs

namespace SameVoice

theorem refl (s : State) : SameVoice [] s s := ⟨rfl, rfl, rfl, rfl, rfl⟩

variable {cs : List Counter} {s t : State} (h : SameVoice cs s t)
include h

theorem port : SamePort s t := ⟨h.lif, h.setup, by rw [h.sup], by rw [h.sup]⟩

/-! ### Changes of `t` alone -/

theorem bump (c : Counter) : SameVoice (cs ++ [c]) s (t.bump c) :=
  ⟨h.sup, h.lif, h.mga, h.setup, State.countsOnly_bump h.counts c⟩

theorem onCtr (f : Ctr → Ctr) : SameVoice cs s (t.onCtr f) := { h with }

theorem pointTaken (tag : Tag) (p : Point) : SameVoice cs s (t.pointTaken tag p) := { h with }

theorem onEntry (tag : Tag) (f : Entry → Entry) : SameVoice cs s (t.onEntry tag f) := { h with }

theorem onCck (f : Cck → Cck) : SameVoice cs s (t.onCck f) := { h with }

theorem onGtc (f : Gtc → Gtc) : SameVoice cs s (t.onGtc f) := { h with }

theorem onValve (v : Nat) (f : Valve → Valve) : SameVoice cs s (t.onValve v f) := { h with }

/-! ### The same change of both -/

theorem bump_both (c : Counter) : SameVoice cs (s.bump c) (t.bump c) :=
  ⟨h.sup, h.lif, h.mga, h.setup, by
    rw [State.countsOnly, foldl_bump_comm]
    exact foldl_bump_counters h.counts [c]⟩

theorem onMga_both (f : Mga → Mga) : SameVoice cs (s.onMga f) (t.onMga f) :=
  ⟨h.sup, h.lif, congrArg f h.mga, h.setup, h.counts.trans (foldl_bump_counters (s := s.onMga f) (t := s) rfl cs)⟩

theorem onSup_both (f : Sup → Sup) : SameVoice cs (s.onSup f) (t.onSup f) :=
  ⟨congrArg f h.sup, h.lif, h.mga, h.setup, h.counts.trans (foldl_bump_counters (s := s.onSup f) (t := s) rfl cs)⟩

theorem join_both (c : TxClass) (x : Queued) : SameVoice cs (s.join c x) (t.join c x) :=
  ⟨by simp [h.sup], h.port.join c x, by simp [h.mga], by simp [h.setup], by
    rw [State.countsOnly, State.join_counters, h.counts]
    exact foldl_bump_counters (by simp) cs⟩

theorem notify_both (n : Notice) : SameVoice cs (s.notify n) (t.notify n) := by
  have hstation : t.noticeStation = s.noticeStation := by rw [State.noticeStation, h.setup]; rfl
  have hfull : t.queueFull .notice = s.queueFull .notice := by rw [State.queueFull, h.lif]; rfl
  unfold State.notify State.placeNotice
  rw [hstation, hfull, h.mga]
  split_ifs
  · exact h.bump_both _
  · exact (h.onMga_both _).bump_both _
  · exact ((h.onMga_both _).join_both _ _).bump_both _

theorem addCause_both (c : LineStopCause) : SameVoice cs (s.addCause c) (t.addCause c) := by
  have hcause : t.hasCause c = s.hasCause c := by rw [State.hasCause, h.sup]; rfl
  unfold State.addCause
  rw [hcause, h.sup]
  split_ifs
  · exact h
  · exact ((h.onSup_both _).notify_both _).bump_both _

/-- A reader fault is reported the same from both (R79). -/
theorem readerReported_both (tag : Tag) (cls : CodeClass) :
    SameVoice cs (s.readerReported tag cls) (t.readerReported tag cls) := by
  have hoption : t.readerLineStop = s.readerLineStop := by rw [State.readerLineStop, h.setup]; rfl
  unfold State.readerReported
  rw [hoption]
  split_ifs
  · exact ((h.notify_both _).addCause_both _).bump_both _
  · exact (h.notify_both _).bump_both _

end SameVoice

/-! ## The reader fault run (03 R79) -/

/-- The counters of a reader fault that is reported (R79). -/
def readerCounts : List Counter := .readerFaults :: .lineStopAdds :: noticeCounts

theorem Touches.onCck {ps : List Part} {cs : List Counter} {s t : State} (h : Touches ps cs s t) (f : Cck → Cck)
    (hp : .cck ∈ ps := by decide) : Touches ps cs s (t.onCck f) :=
  h.trans (of_counters (State.changesOnly_part .cck hp rfl fun p hp => by cases p <;> simp_all [Part.same]) rfl)

theorem Touches.onEntry {ps : List Part} {cs : List Counter} {s t : State} (h : Touches ps cs s t) (tag : Tag)
    (f : Entry → Entry) (hp : .ctr ∈ ps := by decide) : Touches ps cs s (t.onEntry tag f) := h.onCtr _ hp

theorem Touches.readerReported {ps : List Part} {cs : List Counter} {s t : State} (h : Touches ps cs s t) (tag : Tag)
    (cls : CodeClass) (hp : [.sup, .lif, .mga, .counters] ⊆ ps := by decide) (hc : readerCounts ⊆ cs := by decide) :
    Touches ps cs s (t.readerReported tag cls) := by
  obtain ⟨hfaults, hc⟩ := List.cons_subset.mp hc
  have hn := h.notify (.readerFault tag cls) (List.cons_subset.mp hp).2 (List.cons_subset.mp hc).2
  unfold State.readerReported
  dsimp only
  split_ifs
  · exact (hn.addCause _ hp hc).bump _ (hp (by decide)) hfaults
  · exact hn.bump _ (hp (by decide)) hfaults

section
variable (s : State) (tag : Tag)

theorem State.readerReported_touches (cls : CodeClass) :
    Touches [.sup, .lif, .mga, .counters] readerCounts s (s.readerReported tag cls) :=
  (Touches.refl s).readerReported tag cls

/-- A report with the line-stop option ON leaves the cause in the set (R79). -/
theorem State.readerReported_hasCause (cls : CodeClass) (h : s.readerLineStop = true) :
    (s.readerReported tag cls).hasCause .readerFault = true := by
  rw [State.readerReported, if_pos h]
  exact State.addCause_has _ _ _ (.inl rfl)

/-- A report with the option OFF leaves the Supervisor alone (R79). -/
theorem State.readerReported_sup (cls : CodeClass) (h : s.readerLineStop = false) :
    (s.readerReported tag cls).sup = s.sup := by
  rw [State.readerReported, if_neg (by simp [h])]
  exact State.notify_sup _ _

theorem State.readerReported_faults (cls : CodeClass) :
    (s.readerReported tag cls).counter .readerFaults = satInc (s.counter .readerFaults) := by
  have hbefore : ∀ u, Touches [.sup, .lif, .mga, .counters] (.lineStopAdds :: noticeCounts) s u →
      (u.bump .readerFaults).counter .readerFaults = satInc (s.counter .readerFaults) := fun u hu => by
    rw [State.counter_bump, if_pos rfl, hu.counter .readerFaults]
  have hn := (Touches.refl (ps := [.sup, .lif, .mga, .counters]) (cs := .lineStopAdds :: noticeCounts) s).notify
    (.readerFault tag cls)
  unfold State.readerReported
  dsimp only
  split_ifs
  · exact hbefore _ (hn.addCause _)
  · exact hbefore _ hn

variable {s tag} {cls : CodeClass}

/-- A class that is not NO_READ or NO_RESULT sets the run to 0. -/
theorem State.readerRun_clears (h : cls ≠ .noRead) (h' : cls ≠ .noResult) :
    s.readerRun tag cls = s.onCck fun c => { c with faultRun := 0 } := by
  cases cls <;> trivial

/-- NO_READ and NO_RESULT raise the run below its limit. -/
theorem State.readerRun_raises (h : cls = .noRead ∨ cls = .noResult) (hl : s.cck.faultRun + 1 < s.readerFaultLimit) :
    s.readerRun tag cls = s.onCck fun c => { c with faultRun := c.faultRun + 1 } := by
  have hl : ¬ s.readerFaultLimit ≤ s.cck.faultRun + 1 := by omega
  rcases h with rfl | rfl <;> simp only [State.readerRun, hl, if_false]

/-- A raise that brings the run to its limit sets it to 0 and reports a reader fault. -/
theorem State.readerRun_reports (h : cls = .noRead ∨ cls = .noResult)
    (hl : s.readerFaultLimit ≤ s.cck.faultRun + 1) :
    s.readerRun tag cls = (s.onCck fun c => { c with faultRun := 0 }).readerReported tag cls := by
  rcases h with rfl | rfl <;> simp only [State.readerRun, hl, if_true] <;> rfl

end

theorem State.readerRun_touches (s : State) (tag : Tag) (cls : CodeClass) :
    Touches [.sup, .lif, .mga, .cck, .counters] readerCounts s (s.readerRun tag cls) := by
  have h := Touches.refl (ps := [.sup, .lif, .mga, .cck, .counters]) (cs := readerCounts) s
  by_cases hcls : cls = .noRead ∨ cls = .noResult
  · rcases Nat.lt_or_ge (s.cck.faultRun + 1) s.readerFaultLimit with hl | hl
    · rw [State.readerRun_raises hcls hl]
      exact h.onCck _
    · rw [State.readerRun_reports hcls hl]
      exact (h.onCck _).readerReported _ _
  · obtain ⟨hread, hresult⟩ := not_or.mp hcls
    rw [State.readerRun_clears hread hresult]
    exact h.onCck _

/-! ## A result is written (03 R66, R79) -/

section
variable (s : State) (tag : Tag) (c : CodeResult)

theorem State.writeCode_touches :
    Touches [.sup, .lif, .mga, .ctr, .cck, .counters] (c.cls.counter :: readerCounts) s (s.writeCode tag c) := by
  have hstore : Touches [.sup, .lif, .mga, .ctr, .cck, .counters] (c.cls.counter :: readerCounts) s
      (s.storeCode tag c) := ((Touches.refl s).onEntry _ _).bump _ (hc := List.mem_cons_self)
  exact hstore.trans ((State.readerRun_touches _ _ _).mono (by decide) (List.subset_cons_self _ _))

theorem State.writeCode_ctr : (s.writeCode tag c).ctr = { s.ctr with
    queue := s.ctr.queue.map fun e =>
      if e.tag = tag then { e with codeState := .result, code := some c } else e } := by
  refine (State.readerRun_touches (s.storeCode tag c) tag c.cls).part .ctr |>.trans ?_
  rw [State.storeCode, State.onEntry_eq]
  rfl

/-- The result is counted by its class, if that is none of the counters of a reader fault. -/
theorem State.writeCode_counter :
    (s.writeCode tag c).counter c.cls.counter = satInc (s.counter c.cls.counter) := by
  have hcls : c.cls.counter ∉ readerCounts := by cases c.cls <;> decide
  rw [State.writeCode, (State.readerRun_touches _ _ _).counter _ hcls, State.storeCode, State.counter_bump, if_pos rfl]
  rfl

variable {s c}

/-- A result that sets the run to 0. -/
theorem State.writeCode_clears (h : c.cls ≠ .noRead) (h' : c.cls ≠ .noResult) :
    s.writeCode tag c = (s.storeCode tag c).onCck fun x => { x with faultRun := 0 } :=
  State.readerRun_clears h h'

/-- NO_READ or NO_RESULT below the limit of the run. -/
theorem State.writeCode_raises (h : c.cls = .noRead ∨ c.cls = .noResult)
    (hl : s.cck.faultRun + 1 < s.readerFaultLimit) :
    s.writeCode tag c = (s.storeCode tag c).onCck fun x => { x with faultRun := x.faultRun + 1 } :=
  State.readerRun_raises (s := s.storeCode tag c) h hl

/-- NO_READ or NO_RESULT at the limit of the run. -/
theorem State.writeCode_reports (h : c.cls = .noRead ∨ c.cls = .noResult)
    (hl : s.readerFaultLimit ≤ s.cck.faultRun + 1) :
    s.writeCode tag c =
      ((s.storeCode tag c).onCck fun x => { x with faultRun := 0 }).readerReported tag c.cls :=
  State.readerRun_reports (s := s.storeCode tag c) h hl

end

theorem SameVoice.storeCode {cs : List Counter} {s t : State} (h : SameVoice cs s t) (tag : Tag) (c : CodeResult) :
    SameVoice (cs ++ [c.cls.counter]) s (t.storeCode tag c) := (h.onEntry tag _).bump _

/-! ## The read trigger point (03 R67, R68) -/

section
variable {s : State} {tag : Tag} {e : Entry}

/-- The check is asked for: the CCK is not held, and the entry's recipe has code checking ON (R67). -/
def State.asksFor (s : State) (e : Entry) : Prop :=
  s.sup.holdCck = false ∧ ∃ k, e.slot = some k ∧ (s.image k).word 40 = 1

theorem State.checksCode_iff : s.checksCode e = true ↔ ∃ k, e.slot = some k ∧ (s.image k).word 40 = 1 := by
  unfold State.checksCode
  cases e.slot <;> simp [Image.codeChecking]

theorem State.asksFor_iff : s.asksFor e ↔ (s.sup.holdCck || !s.checksCode e) = false := by
  rw [State.asksFor, ← State.checksCode_iff]
  simp

variable (he : s.entry tag = some e)
include he

theorem State.readTrigger_unasked (h : ¬ s.asksFor e) :
    s.readTrigger tag = s.writeCode tag (bareCode .notChecked) := by
  rw [State.asksFor_iff, Bool.not_eq_false] at h
  simp only [State.readTrigger, he, h, if_true]

variable (h : s.asksFor e)
include h

theorem State.readTrigger_noStation (hs : s.readerStation = 0) :
    s.readTrigger tag = (s.writeCode tag (bareCode .noResult)).bump .triggerNoStation := by
  simp only [State.readTrigger, he, State.asksFor_iff.mp h, hs, if_true]
  rfl

variable (hs : s.readerStation ≠ 0)
include hs

theorem State.readTrigger_full (hf : 4 ≤ s.lif.trigger.length) :
    s.readTrigger tag = (s.writeCode tag (bareCode .noResult)).bump .triggerOverflow := by
  have hfull : s.queueFull .trigger = true := (s.queueFull_iff .trigger).mpr hf
  simp only [State.readTrigger, he, State.asksFor_iff.mp h, hs, hfull, if_false, if_true]
  rfl

theorem State.readTrigger_queued (hf : s.lif.trigger.length < 4) : s.readTrigger tag =
    ((s.join .trigger (.own s.readerStation 0x52 [(tag >>> 8).setWidth 8, tag.setWidth 8] false)).onEntry tag
      fun x => { x with codeState := .requested }).bump .triggers := by
  have hroom : s.queueFull .trigger = false := by
    rw [← Bool.not_eq_true, State.queueFull_iff]
    exact Nat.not_le.mpr hf
  simp only [State.readTrigger, he, State.asksFor_iff.mp h, hs, hroom, if_false, bytesBE_two_append]
  rfl

omit hs in
/-- A trigger that is asked for and cannot be queued is written NO_RESULT, and its cause is counted (R68). -/
theorem State.readTrigger_noResult (hf : s.readerStation = 0 ∨ 4 ≤ s.lif.trigger.length) :
    ∃ x : Counter, x ∈ [Counter.triggerNoStation, .triggerOverflow] ∧
      s.readTrigger tag = (s.writeCode tag (bareCode .noResult)).bump x ∧
      (s.readerStation = 0 → x = .triggerNoStation) ∧ (s.readerStation ≠ 0 → x = .triggerOverflow) := by
  by_cases hs : s.readerStation = 0
  · exact ⟨_, by decide, State.readTrigger_noStation he h hs, fun _ => rfl, fun hn => absurd hs hn⟩
  · exact ⟨_, by decide, State.readTrigger_full he h hs (hf.resolve_left hs), fun h0 => absurd h0 hs, fun _ => rfl⟩

end

/-- Settles O36. -/
theorem readTriggerAsksTheReader : Obligations.ReadTriggerAsksTheReader := by
  intro s e ha u asked written
  have he : u.entry e.tag = some e := ha.entry_taken
  have hexec : exec (.readTriggerPoint e.tag) s = .next (u.readTrigger e.tag) :=
    congrArg _ (ha.atPoint State.readTrigger)
  have hu : SameVoice [] s u := (SameVoice.refl s).pointTaken e.tag .readTrigger
  refine ⟨fun hn => ?_, fun hasked hs hroom => ?_, fun hasked hcause => ?_⟩
  · rw [hexec, State.readTrigger_unasked he hn, State.writeCode_clears _ (by decide) (by decide), State.storeCode,
      State.onEntry_eq]
    rfl
  · refine ⟨_, hexec.trans (congrArg _ (State.readTrigger_queued he hasked hs hroom)), ?_, ?_, ?_, ?_⟩
    · exact hu.port.join _ _
    · rw [State.onEntry_eq, State.bump_ctr, State.onCtr_ctr, State.join_ctr]
      rfl
    · have hjoined := State.join_counters u .trigger
        (.own u.readerStation 0x52 [(e.tag >>> 8).setWidth 8, e.tag.setWidth 8] false)
      exact foldl_bump_counters hjoined [.triggers]
    · have ht : Touches [.ctr, .lif, .counters] [.triggers] s u := s.pointTaken_touches e.tag .readTrigger
      exact (((ht.join _ _).onEntry _ _).bump _).parts
  · obtain ⟨x, hx, hread, hnone, hfull⟩ := State.readTrigger_noResult he hasked hcause
    let c := bareCode .noResult
    let v := u.writeCode e.tag c
    have hv : Touches [.sup, .lif, .mga, .ctr, .cck, .counters] (.codeNoResult :: readerCounts) s v :=
      (s.pointTaken_touches e.tag .readTrigger).trans (u.writeCode_touches e.tag c)
    have hxc : x ≠ .codeNoResult ∧ x ∉ .codeNoResult :: readerCounts ∧ .readerFaults ≠ x := by
      simp only [List.mem_cons, List.not_mem_nil, or_false] at hx
      rcases hx with rfl | rfl <;> decide
    have hcount : (v.bump x).counter x = satInc (s.counter x) := by
      rw [State.counter_bump, if_pos rfl, hv.counter x hxc.2.1]
    refine ⟨v.bump x, hexec.trans (congrArg _ hread), u.writeCode_ctr e.tag c, ?_, fun h => hnone h ▸ hcount,
      fun h => hfull h ▸ hcount, fun hl => ?_, fun hl => ?_, ?_⟩
    · rw [State.counter_bump, if_neg hxc.1.symm]
      exact u.writeCode_counter e.tag c
    · have hraise : v = _ := State.writeCode_raises (s := u) e.tag (.inr rfl) hl
      rw [hraise]
      exact ⟨rfl, rfl, rfl⟩
    · have hreport : v = _ := State.writeCode_reports (s := u) e.tag (.inr rfl) hl
      have hsame : SameVoice [.codeNoResult] (s.readerReported e.tag .noResult) v := by
        rw [hreport]
        exact ((hu.storeCode e.tag c).onCck _).readerReported_both _ _
      refine ⟨?_, ?_, hsame.lif, hsame.mga, fun hon => ?_, fun hoff => ?_⟩
      · rw [hreport]
        exact (State.readerReported_touches _ _ _).part .cck
      · rw [State.counter_bump, if_neg hxc.2.2, hreport, State.readerReported_faults]
        exact congrArg satInc (((Touches.refl (ps := [.ctr, .counters]) (cs := [.codeNoResult]) u).onEntry e.tag _).bump
          .codeNoResult |>.counter .readerFaults)
      · rw [State.hasCause, State.bump_sup, hsame.sup]
        exact s.readerReported_hasCause e.tag .noResult hon
      · exact hsame.sup.trans (s.readerReported_sup e.tag .noResult hoff)
    · exact ((hv.mono (List.Subset.refl _) (List.subset_cons_self x _)).bump x (hc := List.mem_cons_self)).parts

end Sys2Proof.Machine
end

section
namespace Sys2Proof.Machine

/-! ## Code replies (03 R69 to R72, R76) -/

theorem exec_code {s : State} {f : Frame} {p : PassEntry} (hf : s.admits f) (hd : f.dest = s.ownStation)
    (hk : f.kind ≠ 0x40) (hm : s.passMatch f = some p) (hi : p.intake = .code) :
    exec (.frameCompletion f.bytes) s = .next (((s.bump .rxFrames).bump .takenCode).codeIntake f.payload) := by
  obtain ⟨source, kind, intake, forward⟩ := p
  have hm' : (s.bump .rxFrames).passMatch f = some ⟨source, kind, .code, forward⟩ := by
    rw [← hi]
    exact hm
  rw [exec, hf.exec, State.classify, if_pos (by exact hd), State.classifyOwn, if_neg hk, hm']
  rfl

section
variable (s : State)

/-- The three ways a reply that finds its entry is discarded (R70). -/
theorem discardCounter_eq (e : Entry) [Decidable (∃ c, e.code = some c ∧ c.text ≠ none)] : discardCounter e =
    if ∃ c, e.code = some c ∧ c.text ≠ none then .duplicate
    else if e.stage = .decided ∨ e.stage = .awaitingConfirm then .late else .unsolicited := by
  have htext : (e.code.bind (·.text)).isSome = true ↔ ∃ c, e.code = some c ∧ c.text ≠ none := by
    cases e.code <;> simp [Option.isSome_iff_ne_none]
  rw [discardCounter]
  exact if_congr htext rfl rfl

variable {s} {r : CodeReply}

theorem State.codeIntake_held (h : s.sup.holdCck = true) (payload : List Byte) :
    s.codeIntake payload = s.bump .codeHeld := if_pos h

theorem State.codeIntake_malformed (h : s.sup.holdCck = false) {payload : List Byte} (hp : codeReplyOf payload = none) :
    s.codeIntake payload = s.bump .codeMalformed := by
  simp only [State.codeIntake, h, hp]
  rfl

theorem State.codeIntake_reply (h : s.sup.holdCck = false) {payload : List Byte} (hp : codeReplyOf payload = some r) :
    s.codeIntake payload = (s.bump .codeReplies).matchReply r := by
  simp only [State.codeIntake, h, hp]
  rfl

theorem State.matchReply_unknown (h : s.entry r.tag = none) : s.matchReply r = s.bump .unknownTag := by
  rw [State.matchReply, h]

theorem State.matchReply_discards {e : Entry} (h : s.entry r.tag = some e) (hc : e.codeState ≠ .requested) :
    s.matchReply r = s.bump (discardCounter e) := by
  simp only [State.matchReply, h, hc, if_false]

theorem State.matchReply_takes {e : Entry} {k : SlotId} (h : s.entry r.tag = some e) (hc : e.codeState = .requested)
    (hk : e.slot = some k) :
    s.matchReply r = s.writeCode r.tag (codeResultOf s.cck (s.image k) e.dateGen r) := by
  simp only [State.matchReply, h, hc, hk, if_true]

end

/-! ## The result of a reply (03 R72, R76) -/

section
variable (c : Cck) (img : Image) (gen : Byte) (r : CodeReply)

theorem lowGrade_eq (grade : Option Nat) : lowGrade img grade = decide (grade.getD 0 < img.word 41) := by
  cases grade <;> rfl

theorem codeResultOf_grade : (codeResultOf c img gen r).grade = r.grade := by
  unfold codeResultOf
  split
  · rfl
  · split <;> rfl

theorem codeResultOf_text : (codeResultOf c img gen r).text = some r.text := by
  unfold codeResultOf
  split
  · rfl
  · split <;> rfl

theorem codeResultOf_unread (h : r.read = false) :
    (codeResultOf c img gen r).cls = .noRead ∧ (codeResultOf c img gen r).detail = none := by
  simp [codeResultOf, h]

variable {c img gen r} (h : r.read = true)
include h

theorem codeResultOf_fails {d : MismatchDetail} (hd : patternFailure c img gen r.text = some d) :
    (codeResultOf c img gen r).cls = .mismatch ∧ (codeResultOf c img gen r).detail = some d := by
  simp [codeResultOf, h, hd]

theorem codeResultOf_passes (hd : patternFailure c img gen r.text = none) :
    (codeResultOf c img gen r).detail = none ∧
      (codeResultOf c img gen r).cls = if r.grade.getD 0 < img.word 41 then .lowGrade else .isMatch := by
  simp [codeResultOf, h, hd, lowGrade_eq]

end

/-- A reply that was read gives one of the three classes that break the reader fault run. -/
theorem codeResultOf_read {c : Cck} {img : Image} {gen : Byte} {r : CodeReply}
    (h : (codeResultOf c img gen r).cls ≠ .noRead) : (codeResultOf c img gen r).cls = .mismatch ∨
      (codeResultOf c img gen r).cls = .lowGrade ∨ (codeResultOf c img gen r).cls = .isMatch := by
  cases hread : r.read with
  | false => exact absurd (codeResultOf_unread c img gen r hread).1 h
  | true =>
    cases hd : patternFailure c img gen r.text with
    | some d => exact .inl (codeResultOf_fails hread hd).1
    | none =>
      rw [(codeResultOf_passes hread hd).2]
      split_ifs <;> simp

/-- Settles O37. -/
theorem codeReplyTakesEffect : Obligations.CodeReplyTakesEffect := by
  intro s f p hf hd hk hm hi u
  have hexec := exec_code hf hd hk hm hi
  refine ⟨fun hh => ?_, fun hh hp => ?_, fun hh r hr => ?_⟩
  · rw [hexec, State.codeIntake_held (by exact hh)]
  · rw [hexec, State.codeIntake_malformed (by exact hh) hp]
  · have hreply : exec (.frameCompletion f.bytes) s = .next ((u.bump .codeReplies).matchReply r) :=
      hexec.trans (congrArg _ (State.codeIntake_reply (by exact hh) hr))
    refine ⟨fun he => ?_, fun e he hc => ?_, fun e k he hc hs => ?_⟩
    · rw [hreply, State.matchReply_unknown (by exact he)]
    · rw [hreply, State.matchReply_discards (by exact he) hc, discardCounter_eq]
    · let v := u.bump .codeReplies
      let c := codeResultOf s.cck (s.image k) e.dateGen r
      have htaken : exec (.frameCompletion f.bytes) s = .next (v.writeCode r.tag c) :=
        hreply.trans (congrArg _ (State.matchReply_takes (s := v) he hc hs))
      have hcounted : ∀ {ps : List Part}, .counters ∈ ps → s.changesOnly v ps := fun hp =>
        ((((Touches.refl (cs := [.rxFrames, .takenCode, .codeReplies]) s).bump _ hp).bump _ hp).bump _ hp).parts
      have hstored : ∀ g, s.changesOnly ((v.storeCode r.tag c).onCck g) [.ctr, .cck, .counters] := fun g =>
        (hcounted (by decide)).trans
          ((((Touches.refl v).onEntry r.tag _).bump _ (hc := List.mem_cons_self (l := []))).onCck g).parts
      refine ⟨v.writeCode r.tag c, c, htaken, v.writeCode_ctr r.tag c, codeResultOf_grade _ _ _ r,
        codeResultOf_text _ _ _ r, codeResultOf_unread _ _ _ r,
        fun hread => ⟨fun d => codeResultOf_fails hread, codeResultOf_passes hread⟩,
        fun hcls => ?_, fun hcls => ?_, ?_⟩
      · have hthree : c.cls = .mismatch ∨ c.cls = .lowGrade ∨ c.cls = .isMatch := codeResultOf_read hcls
        have hresult : c.cls ≠ .noResult := by rcases hthree with h | h | h <;> rw [h] <;> decide
        have hclears : v.writeCode r.tag c = _ := State.writeCode_clears r.tag hcls hresult
        rw [hclears]
        refine ⟨rfl, ?_, hstored _⟩
        rw [State.countsOnly, State.onCck_counters, State.storeCode]
        rcases hthree with h | h | h <;> rw [h] <;> rfl
      · intro w
        have hsame : SameVoice [] w (v.storeCode r.tag c) :=
          ⟨rfl, rfl, rfl, rfl, by rw [State.storeCode, hcls]; rfl⟩
        refine ⟨fun hl => ?_, fun hl => ?_⟩
        · have hraises : v.writeCode r.tag c = _ := State.writeCode_raises (s := v) r.tag (.inl hcls) hl
          rw [hraises]
          exact ⟨rfl, hsame.counts, hstored _⟩
        · have hreports : v.writeCode r.tag c = _ := State.writeCode_reports (s := v) r.tag (.inl hcls) hl
          rw [hreports, hcls]
          have hboth := (hsame.onCck fun x => { x with faultRun := 0 }).readerReported_both r.tag .noRead
          exact ⟨(State.readerReported_touches _ _ _).part .cck, hboth.sup, hboth.lif, hboth.mga, hboth.counts⟩
      · exact (hcounted (by decide)).trans (v.writeCode_touches r.tag c).parts

end Sys2Proof.Machine
end

section
namespace Sys2Proof.Machine

/-! ## The reject cause set (05 R109) -/

theorem RejectCause.bit_getLsbD (c d : RejectCause) : d.bit.getLsbD c.ctorIdx = decide (c = d) := by
  cases c <;> cases d <;> rfl

/-- A mask holds the bit of a cause exactly when the cause is in its list. -/
theorem causeMask_getLsbD (cs : List RejectCause) (c : RejectCause) :
    (causeMask cs).getLsbD c.ctorIdx = decide (c ∈ cs) := by
  have hfold : ∀ m : BitVec 12, (cs.foldl (fun m d => m ||| d.bit) m).getLsbD c.ctorIdx =
      (m.getLsbD c.ctorIdx || decide (c ∈ cs)) := by
    induction cs with
    | nil => simp
    | cons d cs ih =>
      intro m
      rw [List.foldl_cons, ih, BitVec.getLsbD_or, RejectCause.bit_getLsbD, Bool.or_assoc, ← Bool.decide_or]
      simp only [List.mem_cons]
  rw [causeMask, hfold]
  simp

/-- The causes of a weigh result: its zone unless it is GOOD, and its status unless it is OK. -/
theorem mem_weighCauses (w : Option WeighResult) (c : RejectCause) : decide (c ∈ (w.map weighCauses).getD []) =
    let zone := w.bind (·.zone)
    let status := w.map (·.status)
    [zone == some .grossUnder, zone == some .under, zone == some .over, zone == some .grossOver,
      status == some .notWeighed, status == some .suspect].getD c.ctorIdx false := by
  cases w with
  | none => cases c <;> rfl
  | some w =>
    obtain ⟨status, reason, gross, net, zone⟩ := w
    rcases zone with _ | zone
    · cases status <;> cases c <;> rfl
    · cases zone <;> cases status <;> cases c <;> rfl

/-- The cause of a code class: the class itself unless it is MATCH or NOT_CHECKED. -/
theorem mem_codeCauses (code : Option CodeResult) (c : RejectCause) :
    decide (c ∈ (code.map fun x => codeCauses x.cls).getD []) =
      let cls := code.map (·.cls)
      [false, false, false, false, false, false, cls == some .mismatch, cls == some .lowGrade, cls == some .noRead,
        cls == some .noResult].getD c.ctorIdx false := by
  cases code with
  | none => cases c <;> rfl
  | some x =>
    obtain ⟨cls, grade, text, detail⟩ := x
    cases cls <;> cases c <;> rfl

/-- The cause set, one bit a cause. -/
theorem Entry.causeSet_getLsbD (e : Entry) (c : RejectCause) : e.causeSet.getLsbD c.ctorIdx =
    let zone := e.weigh.bind (·.zone)
    let status := e.weigh.map (·.status)
    let cls := e.code.map (·.cls)
    [zone == some .grossUnder, zone == some .under, zone == some .over, zone == some .grossOver,
      status == some .notWeighed, status == some .suspect, cls == some .mismatch, cls == some .lowGrade,
      cls == some .noRead, cls == some .noResult, e.origin == .stray, e.slot == none].getD c.ctorIdx false := by
  rw [Entry.causeSet, causeMask_getLsbD]
  simp only [List.mem_append, Bool.decide_or, mem_weighCauses, mem_codeCauses]
  have hstray : decide (c ∈ if e.origin = .stray then [RejectCause.stray] else []) =
      (decide (c = .stray) && (e.origin == .stray)) := by
    by_cases h : e.origin = .stray <;> simp [h]
  have hslot : decide (c ∈ if e.slot.isNone then [RejectCause.noRecipe] else []) =
      (decide (c = .noRecipe) && (e.slot == none)) := by
    cases e.slot <;> simp
  rw [hstray, hslot]
  cases c <;> simp [RejectCause.ctorIdx]

theorem RejectCause.exists_ctorIdx : ∀ i < 12, ∃ c : RejectCause, c.ctorIdx = i := by
  intro i hi
  have : ∀ i < 12, ∃ c ∈ [RejectCause.grossUnder, .under, .over, .grossOver, .notWeighed, .suspect, .codeMismatch,
      .codeLowGrade, .codeNoRead, .codeNoResult, .stray, .noRecipe], c.ctorIdx = i := by decide
  obtain ⟨c, _, hc⟩ := this i hi
  exact ⟨c, hc⟩

/-! ## The request closes (03 R71) -/

/-- An entry whose open request has been closed (R71). -/
def Entry.requestClosed (e : Entry) : Entry :=
  if e.codeState = .requested then { e with codeState := .result, code := some (bareCode .noResult) } else e

/-- The next unread result brings the run to its limit (R79). -/
def State.runEnds (s : State) : Bool := decide (s.readerFaultLimit ≤ s.cck.faultRun + 1)

theorem State.entry_onEntry {s : State} {tag : Tag} {e : Entry} (h : s.entry tag = some e) {f : Entry → Entry}
    (hf : ∀ x, (f x).tag = x.tag) : (s.onEntry tag f).entry tag = some (f e) := by
  have htag : ((fun x : Entry => x.tag == tag) ∘ fun x => if x.tag == tag then f x else x) =
      fun x => x.tag == tag := by
    funext x
    simp only [Function.comp_apply]
    split_ifs <;> simp_all
  rw [State.entry, State.onEntry, State.onCtr_ctr, List.find?_map, htag, show s.ctr.queue.find? _ = some e from h,
    Option.map_some, if_pos (by simpa using (State.entry_some h).2)]

section
variable {s u : State} {tag : Tag} {e : Entry} (he : u.entry tag = some e)
include he

theorem State.closeCode_open (h : e.codeState = .requested) :
    u.closeCode tag = (u.writeCode tag (bareCode .noResult)).bump .codeDeadlines := by
  simp only [State.closeCode, he, h, if_true]

theorem State.closeCode_other (h : e.codeState ≠ .requested) : u.closeCode tag = u := by
  simp only [State.closeCode, he, h, if_false]

theorem State.closeCode_touches : Touches [.sup, .lif, .mga, .ctr, .cck, .counters]
    (.codeDeadlines :: .codeNoResult :: readerCounts) u (u.closeCode tag) := by
  by_cases h : e.codeState = .requested
  · rw [State.closeCode_open he h]
    exact ((u.writeCode_touches tag (bareCode .noResult)).mono (List.Subset.refl _) (List.subset_cons_self _ _)).bump _
  · rw [State.closeCode_other he h]
    exact Touches.refl u

theorem State.closeCode_ctr : (u.closeCode tag).ctr = { u.ctr with
    queue := u.ctr.queue.map fun y => if y.tag = tag then
      { y with
        codeState := if e.codeState == .requested then .result else y.codeState
        code := if e.codeState == .requested then some (bareCode .noResult) else y.code }
      else y } := by
  by_cases h : e.codeState = .requested
  · rw [State.closeCode_open he h]
    simp only [State.bump_ctr, State.writeCode_ctr, h]
    rfl
  · rw [State.closeCode_other he h]
    simp [h]

theorem State.closeCode_entry : (u.closeCode tag).entry tag = some e.requestClosed := by
  by_cases h : e.codeState = .requested
  · have hctr : (u.closeCode tag).ctr =
        (u.onEntry tag fun x => { x with codeState := .result, code := some (bareCode .noResult) }).ctr := by
      rw [State.closeCode_open he h, State.bump_ctr, State.writeCode_ctr, State.onEntry_eq]
      rfl
    rw [State.entry, hctr, Entry.requestClosed, if_pos h]
    exact State.entry_onEntry he fun _ => rfl
  · rw [State.closeCode_other he h, Entry.requestClosed, if_neg h, he]

theorem State.closeCode_cck : (u.closeCode tag).cck = { u.cck with
    faultRun := if (e.codeState == .requested) = false then u.cck.faultRun
      else if u.runEnds then 0 else u.cck.faultRun + 1 } := by
  by_cases h : e.codeState = .requested
  · rw [State.closeCode_open he h, State.bump_cck]
    rcases Nat.lt_or_ge (u.cck.faultRun + 1) u.readerFaultLimit with hl | hl
    · rw [State.writeCode_raises tag (.inr rfl) hl]
      simp [h, State.runEnds, hl, State.storeCode]
    · rw [State.writeCode_reports tag (.inr rfl) hl, (State.readerReported_touches _ _ _).part .cck]
      simp [h, State.runEnds, hl, State.storeCode]
  · rw [State.closeCode_other he h]
    simp [h]

/-- What closing the request counts and reports, as it comes from `s`. -/
theorem SameVoice.closeCode (hu : SameVoice [] s u) :
    SameVoice (if e.codeState == .requested then [.codeNoResult, .codeDeadlines] else [])
      (if e.codeState == .requested && u.runEnds then s.readerReported tag .noResult else s) (u.closeCode tag) := by
  by_cases h : e.codeState = .requested
  · have hc : (e.codeState == .requested) = true := by simp [h]
    rw [State.closeCode_open he h, if_pos hc, hc, Bool.true_and]
    rcases Nat.lt_or_ge (u.cck.faultRun + 1) u.readerFaultLimit with hl | hl
    · rw [State.writeCode_raises tag (.inr rfl) hl, if_neg (by simp [State.runEnds, hl])]
      exact ((hu.storeCode tag (bareCode .noResult)).onCck _).bump .codeDeadlines
    · rw [State.writeCode_reports tag (.inr rfl) hl, if_pos (by simp [State.runEnds, hl])]
      exact (((hu.storeCode tag (bareCode .noResult)).onCck _).readerReported_both _ _).bump .codeDeadlines
  · have hc : (e.codeState == .requested) = false := by simp [h]
    rw [State.closeCode_other he h, hc]
    exact hu

end

/-! ## The decision (05 R108 to R112) -/

/-- An entry once it is decided, `unfired` when no room was left in the reject queue (R112). -/
def Entry.decidedAs (causes selected : BitVec 12) (unfired : Bool) (y : Entry) : Entry :=
  { Entry.asDecided causes selected y with unfired := y.unfired || unfired }

theorem Entry.decidedAs_false (causes selected : BitVec 12) :
    Entry.decidedAs causes selected false = Entry.asDecided causes selected := by
  funext y
  simp [Entry.decidedAs, Entry.asDecided]

/-- The queue's order is read off its tags, which a change of an entry keeps. -/
theorem State.rank_onEntry (s : State) (tag x : Tag) {f : Entry → Entry} (hf : ∀ y, (f y).tag = y.tag) :
    (s.onEntry tag f).rank x = s.rank x := by
  rw [State.rank_eq, State.rank_eq, State.onEntry, State.onCtr_ctr, List.map_map]
  congr 2
  funext y
  simp only [Function.comp_apply]
  split_ifs <;> simp [hf]

theorem State.countValve_valve (s : State) (v : Option Nat) (f : Valve → Valve) {i : Nat} (hi : i < 96) :
    (s.countValve v f).valve i = if v = some i ∧ i < s.valveCount then f (s.valve i) else s.valve i := by
  cases v with
  | none => simp [State.countValve]
  | some v =>
    by_cases hin : v < s.valveCount
    · have : s.inert v = false := by simp [State.inert, hin]
      simp only [State.countValve, this, Bool.false_eq_true, if_false, State.onValve_valve]
      by_cases hv : i = v
      · subst hv
        simp [hi, hin]
      · simp [hv, Ne.symm hv]
    · have : s.inert v = true := by simpa [State.inert] using hin
      simp only [State.countValve, this, if_true]
      rw [if_neg]
      rintro ⟨hv, hlt⟩
      obtain rfl := Option.some.inj hv
      exact hin hlt

theorem Touches.countValve {ps : List Part} {cs : List Counter} {s t : State} (h : Touches ps cs s t) (v : Option Nat)
    (f : Valve → Valve) (hp : .drg ∈ ps := by decide) : Touches ps cs s (t.countValve v f) := by
  unfold State.countValve
  split
  · exact h
  · split
    · exact h
    · exact h.onValve _ _ hp

theorem SameVoice.countValve {cs : List Counter} {s t : State} (h : SameVoice cs s t) (v : Option Nat)
    (f : Valve → Valve) : SameVoice cs s (t.countValve v f) := by
  unfold State.countValve
  split
  · exact h
  · split
    · exact h
    · exact h.onValve _ _

/-- The items of the reject queue that stand before the entry `tag` (R112). -/
def State.before (s : State) (tag : Tag) (x : RejectItem) : Bool := decide (s.rank x.tag < s.rank tag)

section
variable (w : State) (e : Entry) (causes selected : BitVec 12)

/-- `w` once `e` has been accepted (R108). -/
def State.accepted : State := (w.onEntry e.tag (Entry.asDecided causes selected)).bump .decisionsAccept

/-- `w` once the decision REJECT has been written into `e` (R108). -/
def State.rejected : State := (w.onEntry e.tag (Entry.asDecided causes selected)).bump .decisionsReject

/-- `w` once the REJECT of `e` has joined the reject queue, in the order of the entries (R112). -/
def State.rejectJoined : State := (w.rejected e causes selected).onGtc fun g =>
  { g with rejects := g.rejects.takeWhile (w.before e.tag) ++
      { tag := e.tag, fire := w.firePos e } :: g.rejects.dropWhile (w.before e.tag) }

/-- `w` once the REJECT of `e` has found the reject queue full (R112). -/
def State.rejectUnfired : State :=
  (((w.rejected e causes selected).onEntry e.tag fun x => { x with unfired := true }).addCause .rejectOverflow).bump
    .rejectOverflows

/-- One more REJECT of the entry's valve (04 R105). -/
def State.rejectCounted : State := w.countValve e.valve fun x => { x with rejected := satInc x.rejected }

theorem State.rejectCounted_touches : Touches [.drg] [] w (w.rejectCounted e) := (Touches.refl w).countValve _ _

variable {w e causes selected}

/-- The decision is one of three: ACCEPT, a REJECT with room in the reject queue, a REJECT without (R108 to R112). -/
theorem State.decideEntry_cases (he : w.entry e.tag = some e) (hc : e.causeSet = causes)
    (hs : causes &&& w.selectionFor e = selected) :
    ((selected != 0) = false ∧ w.decideEntry e.tag = w.accepted e causes selected) ∨
    ((selected != 0) = true ∧ decide (w.gtc.rejects.length < 32) = true ∧
      w.decideEntry e.tag = (w.rejectJoined e causes selected).rejectCounted e) ∨
    ((selected != 0) = true ∧ decide (w.gtc.rejects.length < 32) = false ∧
      w.decideEntry e.tag = (w.rejectUnfired e causes selected).rejectCounted e) := by
  rw [State.decideEntry_eq he, hc, hs]
  by_cases hsel : selected = 0
  · exact .inl ⟨by simpa using hsel, if_pos hsel⟩
  · refine .inr ?_
    rw [if_neg hsel, State.queueReject]
    by_cases hroom : w.gtc.rejects.length < 32
    · have hbefore : (fun x : RejectItem => decide ((w.rejected e causes selected).rank x.tag <
          (w.rejected e causes selected).rank e.tag)) = w.before e.tag := by
        have hrank : ∀ tag, (w.rejected e causes selected).rank tag = w.rank tag :=
          fun tag => w.rank_onEntry e.tag tag fun _ => rfl
        funext x
        rw [hrank, hrank, State.before]
      refine .inl ⟨by simpa using hsel, by simpa using hroom, ?_⟩
      rw [State.rejectJoined, ← hbefore]
      exact congrArg (State.rejectCounted · e) (if_pos hroom)
    · exact .inr ⟨by simpa using hsel, by simpa using hroom, congrArg (State.rejectCounted · e) (if_neg hroom)⟩

variable (he : w.entry e.tag = some e) (hc : e.causeSet = causes) (hs : causes &&& w.selectionFor e = selected)
include he hc hs

theorem State.decideEntry_ctr : (w.decideEntry e.tag).ctr = { w.ctr with
    queue := w.ctr.queue.map fun y => if y.tag = e.tag then
      Entry.decidedAs causes selected (selected != 0 && !decide (w.gtc.rejects.length < 32)) y else y } := by
  have hmarked : (w.onEntry e.tag (Entry.asDecided causes selected)).ctr = { w.ctr with
      queue := w.ctr.queue.map fun y => if y.tag = e.tag then Entry.decidedAs causes selected false y else y } := by
    rw [State.onEntry_eq, Entry.decidedAs_false]
    rfl
  rcases State.decideEntry_cases he hc hs with ⟨hr, hd⟩ | ⟨hr, hf, hd⟩ | ⟨hr, hf, hd⟩
  · rw [hd, hr]
    exact hmarked
  · rw [hd, hr, hf, (State.rejectCounted_touches _ e).part .ctr]
    exact hmarked
  · rw [hd, hr, hf, (State.rejectCounted_touches _ e).part .ctr, State.rejectUnfired, State.bump_ctr,
      State.addCause_ctr, State.onEntry_eq, State.onCtr_ctr]
    refine (congrArg (fun c : Ctr => { c with queue := c.queue.map fun (y : Entry) =>
      if y.tag = e.tag then { y with unfired := true } else y }) hmarked).trans ?_
    simp only [List.map_map]
    congr 2
    funext y
    simp only [Function.comp_apply]
    split_ifs with h
    · simp [Entry.decidedAs]
    · simp_all [Entry.decidedAs, Entry.asDecided]
    · rfl

theorem State.decideEntry_gtc : (w.decideEntry e.tag).gtc = { w.gtc with
    rejects := if selected != 0 && decide (w.gtc.rejects.length < 32) then
      w.gtc.rejects.takeWhile (w.before e.tag) ++
        { tag := e.tag, fire := w.firePos e } :: w.gtc.rejects.dropWhile (w.before e.tag)
      else w.gtc.rejects } := by
  rcases State.decideEntry_cases he hc hs with ⟨hr, hd⟩ | ⟨hr, hf, hd⟩ | ⟨hr, hf, hd⟩
  · rw [hd, hr]
    rfl
  · rw [hd, hr, hf, (State.rejectCounted_touches _ e).part .gtc]
    rfl
  · rw [hd, hr, hf, (State.rejectCounted_touches _ e).part .gtc, State.rejectUnfired, State.bump_gtc,
      State.addCause_gtc]
    rfl

theorem State.decideEntry_valve {v : Nat} (hv : v < 96) : (w.decideEntry e.tag).valve v =
    if (selected != 0) = true ∧ e.valve = some v ∧ v < w.valveCount then
      { w.valve v with rejected := satInc (w.valve v).rejected } else w.valve v := by
  have hcounted : ∀ t : State, t.drg = w.drg → t.setup = w.setup → (t.rejectCounted e).valve v =
      if e.valve = some v ∧ v < w.valveCount then { w.valve v with rejected := satInc (w.valve v).rejected }
      else w.valve v := fun t hdrg hsetup => by
    rw [State.rejectCounted, State.countValve_valve _ _ _ hv, State.valve_congr hdrg, State.valveCount, hsetup]
    rfl
  rcases State.decideEntry_cases he hc hs with ⟨hr, hd⟩ | ⟨hr, _, hd⟩ | ⟨hr, _, hd⟩
  · rw [hd, hr, if_neg (by simp)]
    rfl
  · rw [hd, hr, hcounted (w.rejectJoined e causes selected) rfl rfl]
    simp only [true_and]
  · rw [hd, hr, hcounted (w.rejectUnfired e causes selected) (by simp [State.rejectUnfired, State.rejected])
      (by simp [State.rejectUnfired, State.rejected])]
    simp only [true_and]

/-- What a decision counts and reports, as it comes from `a`. -/
theorem SameVoice.decideEntry {cs : List Counter} {a : State} (h : SameVoice cs a w) :
    SameVoice (cs ++ [if selected != 0 then .decisionsReject else .decisionsAccept] ++
        if selected != 0 && !decide (w.gtc.rejects.length < 32) then [.rejectOverflows] else [])
      (if selected != 0 && !decide (w.gtc.rejects.length < 32) then a.addCause .rejectOverflow else a)
      (w.decideEntry e.tag) := by
  have hmarked := h.onEntry e.tag (Entry.asDecided causes selected)
  have hrejected : SameVoice (cs ++ [.decisionsReject]) a (w.rejected e causes selected) := hmarked.bump _
  rcases State.decideEntry_cases he hc hs with ⟨hr, hd⟩ | ⟨hr, hf, hd⟩ | ⟨hr, hf, hd⟩
  · simp only [hd, hr, Bool.false_and, Bool.false_eq_true, if_false, List.append_nil]
    exact hmarked.bump _
  · simp only [hd, hr, hf, Bool.not_true, Bool.and_false, Bool.false_eq_true, if_false, if_true, List.append_nil]
    exact (hrejected.onGtc _).countValve _ _
  · simp only [hd, hr, hf, Bool.not_false, Bool.and_true, if_true]
    exact (((hrejected.onEntry _ _).addCause_both _).bump _).countValve _ _

theorem State.decideEntry_changesOnly :
    w.changesOnly (w.decideEntry e.tag) [.sup, .lif, .mga, .ctr, .drg, .gtc, .counters] := by
  have hrejected : Touches [.sup, .lif, .mga, .ctr, .drg, .gtc, .counters]
      (.decisionsReject :: .rejectOverflows :: .lineStopAdds :: noticeCounts) w (w.rejected e causes selected) :=
    ((Touches.refl w).onEntry _ _).bump _
  rcases State.decideEntry_cases he hc hs with ⟨_, hd⟩ | ⟨_, _, hd⟩ | ⟨_, _, hd⟩ <;> rw [hd]
  · exact (((Touches.refl (cs := [.decisionsAccept]) w).onEntry _ _).bump _).parts
  · exact ((hrejected.onGtc _).countValve _ _).parts
  · exact ((((hrejected.onEntry _ _).addCause _).bump _).countValve _ _).parts

end

/-! ## The decision point (03 R71, 05 R108) -/

theorem Entry.requestClosed_fields (e : Entry) : e.requestClosed.tag = e.tag ∧ e.requestClosed.slot = e.slot ∧
    e.requestClosed.valve = e.valve ∧ e.requestClosed.origin = e.origin ∧ e.requestClosed.weigh = e.weigh ∧
    e.requestClosed.infeedPos = e.infeedPos ∧
    e.requestClosed.code = if e.codeState == .requested then some (bareCode .noResult) else e.code := by
  by_cases h : e.codeState = .requested <;> simp [Entry.requestClosed, h]

/-- The request that closes changes no place in the queue. -/
theorem State.closeCode_rank {u : State} {tag : Tag} {e : Entry} (he : u.entry tag = some e) (x : Tag) :
    (u.closeCode tag).rank x = u.rank x := by
  rw [State.rank_eq, State.rank_eq, State.closeCode_ctr he, List.map_map]
  congr 2
  funext y
  simp only [Function.comp_apply]
  split_ifs <;> rfl

theorem State.changesOnly.mono {s t : State} {ps qs : List Part} (h : s.changesOnly t ps)
    (hq : ps ⊆ qs := by decide) :
    s.changesOnly t qs := ⟨h.1, fun p hp => h.2 p fun hm => hp (hq hm)⟩

/-- Settles O39. -/
theorem decisionFollowsThePolicy : Obligations.DecisionFollowsThePolicy := by
  intro s e ha
  let u := s.pointTaken e.tag .decision
  let w := u.closeCode e.tag
  have hexec : exec (.decisionPoint e.tag) s = .next (w.decideEntry e.tag) :=
    congrArg _ (ha.atPoint State.decisionPoint)
  have hu : SameVoice [] s u := (SameVoice.refl s).pointTaken e.tag .decision
  have hue : u.entry e.tag = some e := ha.entry_taken
  have hwe : w.entry e.tag = some e.requestClosed := State.closeCode_entry hue
  have hw := State.closeCode_touches hue
  obtain ⟨x, hx⟩ : ∃ x, x = e.requestClosed := ⟨_, rfl⟩
  obtain ⟨htag, hslot, hvalve, horigin, hweigh, hpos, hcode⟩ := hx ▸ e.requestClosed_fields
  have hwx : w.entry x.tag = some x := by rw [htag, hwe, hx]
  have hchanges := State.decideEntry_changesOnly hwx rfl rfl
  rw [htag] at hchanges
  have hgtc : w.gtc = s.gtc := hw.part .gtc
  have hsetup : w.setup = s.setup := hw.part .setup
  have himage : ∀ k, w.image k = s.image k := fun k => congrArg (fun r : Rcs => (r.slot k).image) (hw.part .rcs)
  refine ⟨w.decideEntry e.tag, x.causeSet, hexec, ?_, ?_⟩
  · intro closes limit code zone status cls holds selected rejects fits fire place ahead
    have hsel : x.causeSet &&& w.selectionFor x = selected := by
      simp only [selected, State.selectionFor, hslot]
      cases e.slot with
      | none => rfl
      | some k => simp only [himage, Image.rejectSelection]
    have hahead : w.before e.tag = ahead := funext fun y => by
      simp only [State.before, w, State.closeCode_rank hue]
      rfl
    have hfire : w.firePos x = fire := by
      rw [State.firePos, Entry.q, hpos, State.gatePosition, State.actuatorLead, hsetup]
      rfl
    have hctr := State.decideEntry_ctr hwx rfl hsel
    have hgtc' := State.decideEntry_gtc hwx rfl hsel
    have hvoice := SameVoice.decideEntry hwx rfl hsel (hu.closeCode hue)
    rw [htag, hgtc] at hctr hgtc' hvoice
    rw [hahead, hfire] at hgtc'
    refine ⟨fun i hi => ?_, ?_, hgtc', fun v hv => ?_, ?_, ?_, ?_⟩
    · obtain ⟨c, rfl⟩ := RejectCause.exists_ctorIdx i hi
      rw [Entry.causeSet_getLsbD, hweigh, hcode, horigin, hslot]
      rfl
    · rw [hctr, State.closeCode_ctr hue]
      refine congrArg (fun q => { u.ctr with queue := q }) ?_
      rw [List.map_map]
      refine List.map_congr_left fun y _ => ?_
      by_cases hy : y.tag = e.tag
      · have hdecision : (if selected = 0 then Decision.accept else .reject) =
            if rejects then .reject else .accept := by
          by_cases h0 : selected = 0 <;> simp [rejects, h0]
        have hresult : (if closes then code else y.code) =
            if e.codeState == .requested then some (bareCode .noResult) else y.code := by
          simp only [code, closes]
          split_ifs <;> rfl
        simp only [Function.comp_apply, hy, if_true, Entry.decidedAs, Entry.asDecided, hdecision, hresult]
        rfl
      · simp only [Function.comp_apply, hy, if_false]
    · rw [← htag, State.decideEntry_valve hwx rfl hsel hv, State.valve_congr (hw.part .drg),
        State.valveCount, hsetup, hvalve]
      rfl
    · exact (hchanges.2 .cck (by decide)).trans (State.closeCode_cck hue)
    · exact ⟨hvoice.sup, hvoice.lif, hvoice.mga, hvoice.counts⟩
    · intro hr hf
      have hunfired : (selected != 0 && !decide (s.gtc.rejects.length < 32)) = true := by
        rw [show (selected != 0) = true from hr, show decide (s.gtc.rejects.length < 32) = false from hf]
        rfl
      rw [State.hasCause, hvoice.sup, if_pos hunfired]
      exact State.addCause_has _ _ _ (.inl rfl)
  · have htaken : Touches [.ctr] [] s u := s.pointTaken_touches e.tag .decision
    exact (htaken.parts.mono.trans hw.parts.mono).trans hchanges.mono

end Sys2Proof.Machine
end

section
namespace Sys2Proof.Machine

/-! ## CLEAR_LINE_STOP (09 R192) -/

theorem LineStopCause.bit_getLsbD (c d : LineStopCause) : d.bit.getLsbD c.ctorIdx = decide (c = d) := by
  cases c <;> cases d <;> rfl

/-- A cause stands in the set when its bit is set. -/
theorem State.hasCause_eq (s : State) (c : LineStopCause) : s.hasCause c = s.sup.lineStop.getLsbD c.ctorIdx := by
  have hbit : c.bit = BitVec.twoPow 9 c.ctorIdx := by cases c <;> rfl
  rw [State.hasCause, hbit, BitVec.and_twoPow]
  cases s.sup.lineStop.getLsbD c.ctorIdx with
  | true =>
    rw [if_pos rfl, ← hbit]
    simpa using c.bit_ne_zero
  | false => rfl

/-- The request names the cause, and it stands in the set. -/
def State.names (s : State) (mask : Nat) (c : LineStopCause) : Bool := mask.testBit c.ctorIdx && s.hasCause c

section
variable (s : State) (mask : Nat) (c : LineStopCause)

/-- One cause of the request: it stays if it is not named, is kept while its condition holds, and goes otherwise. -/
theorem State.clearCause_eq : s.clearCause mask c =
    if s.names mask c then
      if s.levelHolds c then s.bump .lineStopKept
      else (s.onSup fun u => { u with lineStop := u.lineStop &&& ~~~c.bit }).bump .lineStopClears
    else s := by
  rw [State.clearCause, State.names]
  cases mask.testBit c.ctorIdx && s.hasCause c <;> rfl

theorem State.clearCause_touches :
    Touches [.sup, .counters] [.lineStopKept, .lineStopClears] s (s.clearCause mask c) := by
  have h := Touches.refl (ps := [.sup, .counters]) (cs := [.lineStopKept, .lineStopClears]) s
  rw [State.clearCause_eq]
  split_ifs
  · exact h.bump _
  · exact (h.onSup _).bump _
  · exact h

theorem State.clearCause_sup :
    (s.clearCause mask c).sup = { s.sup with lineStop := (s.clearCause mask c).sup.lineStop } := by
  rw [State.clearCause_eq]
  split_ifs <;> rfl

theorem State.clearCause_levelHolds (d : LineStopCause) : (s.clearCause mask c).levelHolds d = s.levelHolds d := by
  unfold State.levelHolds
  rw [State.clearCause_sup]

theorem State.clearCause_hasCause (d : LineStopCause) : (s.clearCause mask c).hasCause d =
    (s.hasCause d && !(decide (d = c) && mask.testBit c.ctorIdx && !s.levelHolds c)) := by
  have hlt : d.ctorIdx < 9 := by cases d <;> decide
  rw [State.clearCause_eq]
  split_ifs with hn hl
  · simp [State.hasCause, hl]
  · have hmask : mask.testBit c.ctorIdx = true := (Bool.and_eq_true_iff.mp hn).1
    rw [State.hasCause_eq, State.bump_sup, State.onSup_sup, BitVec.getLsbD_and, BitVec.getLsbD_not,
      LineStopCause.bit_getLsbD, ← State.hasCause_eq, hmask]
    simp [hlt, hl]
  · by_cases hd : d = c
    · subst hd
      simp only [State.names, Bool.and_eq_true, not_and, Bool.not_eq_true] at hn
      cases hb : mask.testBit d.ctorIdx with
      | true => simp [hn hb]
      | false => simp
    · simp [hd]

/-- What a cause of the request counts. -/
theorem State.clearCause_counts : s.countsOnly (s.clearCause mask c) (if s.names mask c then
    [if s.levelHolds c then .lineStopKept else .lineStopClears] else []) := by
  rw [State.clearCause_eq]
  split_ifs <;> rfl

end

/-- The causes of the request one after another: those named go unless their condition holds, and each is counted. -/
theorem State.foldl_clearCause (mask : Nat) (cs : List LineStopCause) (hnd : cs.Nodup) (s : State) :
    let v := cs.foldl (fun t c => t.clearCause mask c) s
    (∀ d, v.hasCause d = (s.hasCause d && !(decide (d ∈ cs) && mask.testBit d.ctorIdx && !s.levelHolds d))) ∧
      v.sup = { s.sup with lineStop := v.sup.lineStop } ∧
      s.countsOnly v ((cs.filter (s.names mask)).map fun c =>
        if s.levelHolds c then .lineStopKept else .lineStopClears) ∧
      s.changesOnly v [.sup, .counters] := by
  induction cs generalizing s with
  | nil => exact ⟨fun d => by simp, rfl, rfl, s.changesOnly_refl _⟩
  | cons c cs ih =>
    obtain ⟨hc, hnd⟩ := List.nodup_cons.mp hnd
    obtain ⟨hcause, hsup, hcount, hparts⟩ := ih hnd (s.clearCause mask c)
    have hlevel := s.clearCause_levelHolds mask c
    have hnames : ∀ d ∈ cs, (s.clearCause mask c).names mask d = s.names mask d := fun d hd => by
      have hdc : d ≠ c := fun h => hc (h ▸ hd)
      simp [State.names, State.clearCause_hasCause, hdc]
    refine ⟨fun d => ?_, ?_, ?_, (s.clearCause_touches mask c).parts.trans hparts⟩
    · rw [List.foldl_cons, hcause, State.clearCause_hasCause, hlevel]
      by_cases hdc : d = c
      · subst hdc
        simp [hc]
      · simp [hdc]
    · rw [List.foldl_cons, hsup, State.clearCause_sup]
    · rw [List.foldl_cons, State.countsOnly, hcount, List.filter_congr hnames]
      simp only [hlevel]
      rw [foldl_bump_counters (s.clearCause_counts mask c), ← List.foldl_append]
      congr 2
      cases hn : s.names mask c with
      | true => rw [List.filter_cons_of_pos hn]; rfl
      | false => rw [List.filter_cons_of_neg (by simp [hn])]; rfl

/-- Counters raised in another order give the same. -/
theorem foldl_bump_perm {cs ds : List Counter} (h : cs.Perm ds) (s : State) :
    cs.foldl State.bump s = ds.foldl State.bump s := by
  have : RightCommutative State.bump := ⟨State.bump_comm⟩
  exact h.foldl_eq s

theorem LineStopCause.mem_causes (c : LineStopCause) : c ∈ lineStopCauses := by cases c <;> decide

/-- CLEAR_LINE_STOP with a mask of the nine causes (R192). -/
theorem State.lineStopCleared (s : State) (mask : Nat) :
    let v := lineStopCauses.foldl (fun t c => t.clearCause mask c) s
    (∀ c, v.hasCause c = (s.hasCause c && !(mask.testBit c.ctorIdx && !s.levelHolds c))) ∧
      v.sup = { s.sup with lineStop := v.sup.lineStop } ∧
      s.countsOnly v
        ((((lineStopCauses.filter (s.names mask)).filter fun c => !s.levelHolds c).map fun _ => .lineStopClears) ++
          ((lineStopCauses.filter (s.names mask)).filter fun c => s.levelHolds c).map fun _ => .lineStopKept) ∧
      s.changesOnly v [.sup, .counters] := by
  obtain ⟨hcause, hsup, hcount, hparts⟩ := State.foldl_clearCause mask lineStopCauses (by decide) s
  refine ⟨fun c => ?_, hsup, ?_, hparts⟩
  · rw [hcause]
    simp [c.mem_causes]
  · generalize lineStopCauses.filter (s.names mask) = named at hcount ⊢
    have hperm := (List.filter_append_perm (fun c => !s.levelHolds c) named).symm.map fun c =>
      if s.levelHolds c then Counter.lineStopKept else .lineStopClears
    simp only [Bool.not_not, List.map_append] at hperm
    rw [State.countsOnly, hcount, foldl_bump_perm hperm]
    congr 3
    · exact List.map_congr_left fun c hc => if_neg (by simpa using (List.mem_filter.mp hc).2)
    · exact List.map_congr_left fun c hc => if_pos (List.mem_filter.mp hc).2

end Sys2Proof.Machine
end

section
namespace Sys2Proof.Machine

/-! ## Bytes out of their range (10 R195) -/

theorem ne_of_toNat_lt {b c : Byte} (h : c.toNat < b.toNat) : b ≠ c := by
  rintro rfl
  exact absurd h (Nat.lt_irrefl _)

section
variable {b : Byte}

theorem blockOf_none (h : 9 ≤ b.toNat) : blockOf b = none := List.getElem?_eq_none h

theorem flagOf_none (h : 1 < b.toNat) : flagOf b = none := by
  rw [flagOf, if_neg (ne_of_toNat_lt (c := 0) (Nat.zero_lt_of_lt h)), if_neg (ne_of_toNat_lt (c := 1) h)]

theorem slotOf_none (h : 1 < b.toNat) : slotOf b = none := by
  rw [slotOf, if_neg (ne_of_toNat_lt (c := 0) (Nat.zero_lt_of_lt h)), if_neg (ne_of_toNat_lt (c := 1) h)]

theorem intakeOf_none (h : 2 < b.toNat) : intakeOf b = none := by
  rw [intakeOf, if_neg (ne_of_toNat_lt (c := 0) (Nat.zero_lt_of_lt h)),
    if_neg (ne_of_toNat_lt (c := 1) (Nat.lt_of_succ_lt h)), if_neg (ne_of_toNat_lt (c := 2) h)]

end

/-- A pass entry whose state, source, intake or forward byte is out of its range (07 R149). -/
theorem passEntryOf_none {x source kind intake forward : Byte} (h : 1 < x.toNat ∨
    (x = 1 ∧ (62 < source.toNat ∨ 2 < intake.toNat ∨ 1 < forward.toNat))) :
    passEntryOf x source kind intake forward = none := by
  rcases h with h | ⟨rfl, h⟩
  · rw [passEntryOf, if_neg (ne_of_toNat_lt (c := 0) (Nat.zero_lt_of_lt h)),
      if_neg fun h1 => ne_of_toNat_lt (c := 1) h h1.1]
  · rw [passEntryOf, if_neg (by decide)]
    split_ifs with hs
    · rcases h with h | h | h
      · exact absurd hs.2 (Nat.not_le.mpr h)
      · rw [intakeOf_none h]
      · rw [flagOf_none h]
        cases intakeOf intake <;> rfl
    · rfl

/-- Bytes that are whole words are twice as many as their words. -/
theorem wordsOf_length {run : List Byte} {ws : List Word16} (h : wordsOf run = some ws) :
    run.length = 2 * ws.length := by
  induction run using wordsOf.induct generalizing ws with
  | case1 =>
    obtain rfl := Option.some.inj h
    rfl
  | case2 => cases h
  | case3 hi lo rest ih =>
    obtain ⟨vs, hvs, rfl⟩ := Option.map_eq_some_iff.mp h
    simp only [List.length_cons, ih hvs]
    omega

/-! ## Requests that are malformed or out of range (08 R168) -/

/-- An argument list of another form than `fixed` bytes, or than `fixed` bytes and a run (08 R168). -/
def malformed (fixed : Nat) (run : Bool) (args : List Byte) : Prop :=
  args.length < fixed ∨ (fixed < args.length ∧ run = false)

theorem malformed_fixed {fixed : Nat} {args : List Byte} : malformed fixed false args ↔ args.length ≠ fixed := by
  simp only [malformed, and_true]
  omega

/-- A request whose arguments are out of range is not malformed. -/
theorem outOfRange_formed {c : Instr} {code : Byte} {fixed : Nat} {run : Bool} {args : List Byte}
    (hc : (c, code, fixed, run) ∈ requestForms) (h : outOfRange c args) : ¬ malformed fixed run args := by
  unfold outOfRange at h
  split at h <;> simp_all [requestForms, malformed]

/-- `act`, which serves `c`, refuses what is malformed with BAD_REQUEST and what is out of range with BAD_ARGUMENT;
`answer` is how it answers at once. -/
structure Refuses {β : Type} (answer : Answer → β) (act : State → List Byte → β) (c : Instr) (fixed : Nat)
    (run : Bool) : Prop where
  request : ∀ u args, malformed fixed run args → act u args = answer (u.refuse .badRequest)
  argument : ∀ u args, ¬ malformed fixed run args → outOfRange c args →
    act u args = answer (u.refuse .badArgument)

/-- A request with a fixed number of arguments. -/
theorem Refuses.of_fixed {β : Type} {answer : Answer → β} {act : State → List Byte → β} {c : Instr} {n : Nat}
    (hm : ∀ u args, args.length ≠ n → act u args = answer (u.refuse .badRequest))
    (hr : ∀ u args, args.length = n → outOfRange c args → act u args = answer (u.refuse .badArgument)) :
    Refuses answer act c n false :=
  ⟨fun u args h => hm u args (malformed_fixed.mp h),
    fun u args h => hr u args (not_not.mp fun hn => h (malformed_fixed.mpr hn))⟩

/-- A request without arguments. -/
theorem Refuses.of_nil {β : Type} {answer : Answer → β} {act : State → List Byte → β} {c : Instr}
    (h : ∀ u a as, act u (a :: as) = answer (u.refuse .badRequest)) (hc : ∀ args, ¬ outOfRange c args) :
    Refuses answer act c 0 false :=
  .of_fixed (fun u args hl => by
    cases args with
    | nil => exact absurd rfl hl
    | cons a as => exact h u a as) fun _ args _ hr => absurd hr (hc args)

/-- A request with one argument. -/
theorem Refuses.of_one {β : Type} {answer : Answer → β} {act : State → List Byte → β} {c : Instr}
    (h0 : ∀ u, act u [] = answer (u.refuse .badRequest))
    (h2 : ∀ u a b as, act u (a :: b :: as) = answer (u.refuse .badRequest))
    (hr : ∀ u b, outOfRange c [b] → act u [b] = answer (u.refuse .badArgument)) : Refuses answer act c 1 false :=
  .of_fixed (fun u args hl => by
    match args, hl with
    | [], _ => exact h0 u
    | [_], hl => exact absurd rfl hl
    | a :: b :: as, _ => exact h2 u a b as) fun u args hl h => by
    obtain ⟨b, rfl⟩ := List.length_eq_one_iff.mp hl
    exact hr u b h

theorem refuses_readCounters : Refuses id serveReadCounters .readCounters 2 false := by
  refine .of_fixed (fun u args hl => ?_) fun u args hl h => ?_
  · unfold serveReadCounters
    split
    · exact absurd rfl hl
    · rfl
  · obtain ⟨g, c, rfl⟩ := List.length_eq_two.mp hl
    rcases h with h | h
    · simp only [serveReadCounters, blockOf_none h]
      rfl
    · simp only [serveReadCounters, flagOf_none h]
      cases blockOf g <;> rfl

theorem refuses_clearCounters : Refuses id serveClearCounters .clearCounters 1 false :=
  .of_one (fun _ => rfl) (fun _ _ _ _ => rfl) fun u g ⟨h, hff⟩ => by
    rw [serveClearCounters, if_neg hff, blockOf_none h]
    rfl

theorem refuses_readValve : Refuses id serveReadValve .readValve 1 false :=
  .of_one (fun _ => rfl) (fun _ _ _ _ => rfl) fun _ _ h => if_pos h

theorem refuses_writeSetup : Refuses id serveWriteSetup .writeSetup 2 true where
  request u args h := by
    unfold serveWriteSetup
    split
    · simp [malformed] at h
    · rfl
  argument _ _ _ h := h.elim

theorem refuses_readSetup : Refuses id serveReadSetup .readSetup 2 false := by
  refine .of_fixed (fun u args hl => ?_) fun u args hl h => ?_
  · unfold serveReadSetup
    split
    · exact absurd rfl hl
    · rfl
  · obtain ⟨off, n, rfl⟩ := List.length_eq_two.mp hl
    exact if_pos (h.imp_right .inr)

section
variable {u : State} {i x source kind intake forward : Byte}

theorem serveWritePassEntry_none (h : passEntryOf x source kind intake forward = none) :
    serveWritePassEntry u [i, x, source, kind, intake, forward] = u.refuse .badArgument := by
  simp only [serveWritePassEntry, h]

theorem serveWritePassEntry_some {e : Option PassEntry} (h : passEntryOf x source kind intake forward = some e) :
    serveWritePassEntry u [i, x, source, kind, intake, forward] = if 15 < i.toNat then u.refuse .badArgument
      else (u.onLif fun l => { l with pass := l.pass.setIfInBounds i.toNat e }).okay := by
  simp only [serveWritePassEntry, h]

end

theorem refuses_writePassEntry : Refuses id serveWritePassEntry .writePassEntry 6 false := by
  refine .of_fixed (fun u args hl => ?_) fun u args hl h => ?_
  · unfold serveWritePassEntry
    split
    · exact absurd rfl hl
    · rfl
  · match args, hl with
    | [i, x, source, kind, intake, forward], _ =>
      cases hp : passEntryOf x source kind intake forward with
      | none => exact serveWritePassEntry_none hp
      | some e =>
        have hi : 15 < i.toNat := h.resolve_right fun hx => by
          rw [passEntryOf_none hx] at hp
          cases hp
        exact (serveWritePassEntry_some hp).trans (if_pos hi)

theorem refuses_readPassEntry : Refuses id serveReadPassEntry .readPassEntry 1 false :=
  .of_one (fun _ => rfl) (fun _ _ _ _ => rfl) fun _ _ h => if_pos h

theorem refuses_writeRecipe : Refuses id serveWriteRecipe .writeRecipe 3 true where
  request u args h := by
    match args, h with
    | [], _ => rfl
    | [_], _ => rfl
    | [_, _], _ => rfl
    | _ :: _ :: _ :: _, h =>
      simp [malformed] at h
      omega
  argument u args hm h := by
    match args, hm, h with
    | [], hm, _ | [_], hm, _ | [_, _], hm, _ => simp [malformed] at hm
    | k :: off :: n :: run, _, h =>
      cases hk : slotOf k with
      | none => simp only [serveWriteRecipe, hk, id]
      | some k' =>
        cases hw : wordsOf run with
        | none => simp only [serveWriteRecipe, hk, hw, id]
        | some ws =>
          have hlen := wordsOf_length hw
          have hrange : n = 0 ∨ 64 < n.toNat ∨ ws.length ≠ n.toNat ∨ 256 < off.toNat + n.toNat := by
            rcases h with h | h | h | h | h
            · rw [slotOf_none h] at hk
              cases hk
            · exact .inl h
            · exact .inr (.inl h)
            · exact .inr (.inr (.inl (by omega)))
            · exact .inr (.inr (.inr h))
          simp only [serveWriteRecipe, hk, hw, hrange, if_true, id]

theorem refuses_readRecipe : Refuses id serveReadRecipe .readRecipe 3 false := by
  refine .of_fixed (fun u args hl => ?_) fun u args hl h => ?_
  · unfold serveReadRecipe
    split
    · exact absurd rfl hl
    · rfl
  · obtain ⟨k, off, n, rfl⟩ := List.length_eq_three.mp hl
    rcases h with h | h
    · simp only [serveReadRecipe, slotOf_none h]
      rfl
    · simp only [serveReadRecipe, if_pos h]
      cases slotOf k <;> rfl

theorem refuses_verifyRecipe : Refuses .inl serveVerifyRecipe .verifyRecipe 1 false :=
  .of_one (fun _ => rfl) (fun _ _ _ _ => rfl) fun u k h => by
    simp only [serveVerifyRecipe, slotOf_none h]

theorem refuses_discardRecipe : Refuses id serveDiscardRecipe .discardRecipe 1 false :=
  .of_one (fun _ => rfl) (fun _ _ _ _ => rfl) fun u k h => by
    simp only [serveDiscardRecipe, slotOf_none h]
    rfl

theorem refuses_changeover : Refuses id serveChangeover .changeover 1 false :=
  .of_one (fun _ => rfl) (fun _ _ _ _ => rfl) fun u k h => by
    simp only [serveChangeover, slotOf_none h]
    rfl

theorem refuses_setDate : Refuses id serveSetDate .setDate 1 true where
  request u args h := by
    cases args with
    | nil => rfl
    | cons n text => simp [malformed] at h
  argument u args hm h := by
    cases args with
    | nil => exact h.elim
    | cons n text =>
      refine if_pos (h.imp_right (Or.imp_right fun hb => ?_))
      simpa [printable_iff] using hb

theorem refuses_setValveMode : Refuses id serveSetValveMode .setValveMode 2 false :=
  .of_fixed (fun u args hl => by
    unfold serveSetValveMode
    split
    · exact absurd rfl hl
    · rfl) fun _ _ _ h => h.elim

theorem refuses_clearLineStop : Refuses id serveClearLineStop .clearLineStop 2 false :=
  .of_fixed (fun u args hl => by
    unfold serveClearLineStop
    split
    · exact absurd rfl hl
    · rfl) fun _ _ _ h => h.elim

theorem refuses_holdBlock : Refuses id serveHoldBlock .holdBlock 1 false :=
  .of_one (fun _ => rfl) (fun _ _ _ _ => rfl) fun u b h => by
    simp only [serveHoldBlock, blockOf_none h]
    rfl

theorem refuses_releaseBlock : Refuses id serveReleaseBlock .releaseBlock 1 false :=
  .of_one (fun _ => rfl) (fun _ _ _ _ => rfl) fun u b h => by
    simp only [serveReleaseBlock, blockOf_none h]
    rfl

theorem refuses_calWrite : Refuses .inl serveCalWrite .calWrite 12 false :=
  .of_fixed (fun u args hl => by
    unfold serveCalWrite
    split
    · exact absurd rfl hl
    · rfl) fun _ _ _ h => h.elim

section
variable {s : State} {r : Request} {rest : List Request} (hb : s.begins r rest)
include hb

/-- RESET_PART with arguments is refused (08 R168, 09 R181). -/
theorem State.begins.resetPart_refuses (hc : r.code = 0x4F) (ha : r.args ≠ []) :
    exec .resetPart s = .next (replyTo r ((s.took rest).refuse .badRequest)) := by
  rw [exec, execResetPart, State.resetPart]
  simp only [hb.serviceable, hb.takeRequest, hc, ha, if_true, if_false]

/-- A request of the catalogue that begins, when it is malformed or out of range. -/
def State.refusesRequest (s : State) (r : Request) (rest : List Request) (c : Instr) (code : Byte) (fixed : Nat)
    (run : Bool) : Prop :=
  r.code = code →
    (malformed fixed run r.args → exec c s = .next (replyTo r ((s.took rest).refuse .badRequest))) ∧
    (¬ malformed fixed run r.args → outOfRange c r.args →
      exec c s = .next (replyTo r ((s.took rest).refuse .badArgument)))

variable {c : Instr} {code : Byte} {fixed : Nat} {run : Bool}

theorem State.begins.refuses {act : State → List Byte → Answer} (hexec : exec c s = .next (s.serve code act))
    (h : Refuses id act c fixed run) : s.refusesRequest r rest c code fixed run := fun hc => by
  rw [hexec, hb.serve hc]
  exact ⟨fun hm => next_replyTo (h.request _ _ hm), fun hm hr => next_replyTo (h.argument _ _ hm hr)⟩

theorem State.begins.refusesLong {act : State → List Byte → Answer ⊕ (State × Operation)}
    (hexec : exec c s = .next (s.serveLong code act)) (h : Refuses .inl act c fixed run) :
    s.refusesRequest r rest c code fixed run := fun hc => by
  rw [hexec, hb.serveLong hc]
  exact ⟨fun hm => by rw [h.request _ _ hm], fun hm hr => by rw [h.argument _ _ hm hr]⟩

/-- Every request of the catalogue refuses what is malformed and what is out of range. -/
theorem State.begins.refusesForms : ∀ x ∈ requestForms, s.refusesRequest r rest x.1 x.2.1 x.2.2.1 x.2.2.2 := by
  simp only [requestForms, List.cons_append, List.nil_append, List.forall_mem_cons]
  exact ⟨hb.refuses rfl (.of_nil (fun _ _ _ => rfl) fun _ h => h),
    hb.refuses rfl refuses_readCounters, hb.refuses rfl refuses_clearCounters,
    hb.refuses rfl (.of_nil (fun _ _ _ => rfl) fun _ h => h),
    hb.refuses rfl refuses_readValve, hb.refuses rfl refuses_writeSetup, hb.refuses rfl refuses_readSetup,
    hb.refuses rfl refuses_writePassEntry, hb.refuses rfl refuses_readPassEntry,
    hb.refuses rfl refuses_writeRecipe, hb.refuses rfl refuses_readRecipe,
    hb.refusesLong rfl refuses_verifyRecipe, hb.refuses rfl refuses_discardRecipe,
    hb.refuses rfl refuses_changeover,
    hb.refuses rfl (.of_nil (fun _ _ _ => rfl) fun _ h => h),
    hb.refuses rfl (.of_nil (fun _ _ _ => rfl) fun _ h => h),
    hb.refuses rfl (.of_nil (fun _ _ _ => rfl) fun _ h => h),
    hb.refuses rfl (.of_nil (fun _ _ _ => rfl) fun _ h => h),
    hb.refuses rfl refuses_setDate,
    hb.refuses rfl (.of_nil (fun _ _ _ => rfl) fun _ h => h),
    hb.refuses rfl refuses_setValveMode,
    hb.refuses rfl refuses_clearLineStop, hb.refuses rfl refuses_holdBlock, hb.refuses rfl refuses_releaseBlock,
    hb.refusesLong rfl refuses_calWrite,
    hb.refusesLong rfl (.of_nil (fun _ _ _ => rfl) fun _ h => h),
    hb.refusesLong rfl (.of_nil (fun _ _ _ => rfl) fun _ h => h),
    hb.refuses rfl (.of_nil (fun _ _ _ => rfl) fun _ h => h),
    fun hc => ⟨fun hm => hb.resetPart_refuses hc fun hn => by simp [hn, malformed] at hm, fun _ h => h.elim⟩,
    nofun⟩

end

/-! ## The system requests (07 R149, 08 R166, R168, 09 R181, R192) -/

section
variable {u : State} {m1 m0 : Byte}

theorem serveClearLineStop_range (h : 512 ≤ m1.toNat * 256 + m0.toNat) :
    serveClearLineStop u [m1, m0] = u.refuse .badArgument := by
  simp only [serveClearLineStop, natOfBytes_two, h, if_true]

theorem serveClearLineStop_clears (h : m1.toNat * 256 + m0.toNat < 512) :
    let v := lineStopCauses.foldl (fun t c => t.clearCause (m1.toNat * 256 + m0.toNat) c) u
    serveClearLineStop u [m1, m0] = v.okay (bytesBE 2 v.sup.lineStop.toNat) := by
  simp only [serveClearLineStop, natOfBytes_two, Nat.not_le.mpr h, if_false]

end

theorem intakeOf_eq {b : Byte} {n : Intake} (h : b.toNat = n.ctorIdx) : intakeOf b = some n := by
  have hb : b = BitVec.ofNat 8 n.ctorIdx := by rw [← h, BitVec.ofNat_toNat, BitVec.setWidth_eq]
  rw [hb]
  cases n <;> rfl

theorem flagOf_eq {b : Byte} {x : Bool} (h : b.toNat = x.toNat) : flagOf b = some x := by
  have hb : b = BitVec.ofNat 8 x.toNat := by rw [← h, BitVec.ofNat_toNat, BitVec.setWidth_eq]
  rw [hb]
  cases x <;> rfl

theorem passEntryOf_used {source kind intake forward : Byte} {n : Intake} {x : Bool} (hs : source.toNat ≤ 62)
    (hn : intake.toNat = n.ctorIdx) (hx : forward.toNat = x.toNat) : passEntryOf 1 source kind intake forward =
      some (some { source := source, kind := kind, intake := n, forward := x }) := by
  rw [passEntryOf, if_neg (by decide), if_pos ⟨rfl, hs⟩, intakeOf_eq hn, flagOf_eq hx]

/-- A pass entry below 16 is written (R149). -/
theorem serveWritePassEntry_writes {u : State} (i : Fin 16) {x source kind intake forward : Byte} {e : Option PassEntry}
    (h : passEntryOf x source kind intake forward = some e) :
    serveWritePassEntry u [BitVec.ofNat 8 i, x, source, kind, intake, forward] =
      (u.onLif fun l => { l with pass := l.pass.set i e }).okay := by
  have hi : (BitVec.ofNat 8 (i : Nat)).toNat = i := by
    rw [BitVec.toNat_ofNat]
    omega
  have hset : ∀ v : Vector (Option PassEntry) 16, v.setIfInBounds i e = v.set i e := fun v => by
    ext j hj
    simp [Vector.getElem_setIfInBounds, Vector.getElem_set]
  rw [serveWritePassEntry_some h, hi, if_neg (by omega)]
  simp only [hset]

section
variable {s : State} {r : Request} {rest : List Request} (hb : s.begins r rest)
include hb

theorem State.begins.clearLineStop (hc : r.code = 0x40) :
    exec .clearLineStop s = .next (replyTo r (serveClearLineStop (s.took rest) r.args)) := by
  rw [exec, execClearLineStop, hb.serve hc]

theorem State.begins.writePassEntry (hc : r.code = 0x12) :
    exec .writePassEntry s = .next (replyTo r (serveWritePassEntry (s.took rest) r.args)) := by
  rw [exec, execWritePassEntry, hb.serve hc]

/-- RESET_PART is answered, and no further request is begun (R166, R181). -/
theorem State.begins.resetPart_closes (hc : r.code = 0x4F) (ha : r.args = []) : exec .resetPart s =
    .next (replyTo r ((s.took rest).onMga fun m => { m with closed := true }).okay true) := by
  rw [exec, execResetPart, State.resetPart]
  simp only [hb.serviceable, hb.takeRequest, hc, ha, if_true]

/-- A code that names no request is refused (R168). -/
theorem State.begins.unknownCode (h : ∀ c ∈ requestCodes, r.code ≠ c) :
    exec .unknownRequestCode s = .next (replyTo r ((s.took rest).refuse .badRequest)) := by
  have hnone : requestCodes.contains r.code = false := by
    simpa using fun hm => h r.code hm rfl
  rw [exec, execUnknownRequestCode, State.serveWhere]
  simp only [hb.serviceable, hb.takeRequest, hnone, Bool.not_false, if_true]

end

/-- Settles O58. -/
theorem systemRequestsTakeEffect : Obligations.SystemRequestsTakeEffect := by
  intro s r rest hb u answers
  refine ⟨fun m1 m0 hc ha => ?_, fun i source kind intake forward hc => ?_, hb.resetPart_closes, hb.unknownCode,
    fun c code fixed run hmem hc => ?_⟩
  · intro mask named
    have hexec := hb.clearLineStop hc
    rw [ha] at hexec
    exact ⟨fun h => hexec.trans (next_replyTo (serveClearLineStop_range h)),
      fun h => ⟨_, hexec.trans (next_replyTo (serveClearLineStop_clears h)), u.lineStopCleared mask⟩⟩
  · have hexec := hb.writePassEntry hc
    refine ⟨fun ha => ?_, fun n w ha hn hw => ⟨fun hs => ?_, fun hs => ?_⟩⟩ <;> rw [ha] at hexec
    · exact hexec.trans (next_replyTo (serveWritePassEntry_writes i rfl))
    · exact hexec.trans (next_replyTo (serveWritePassEntry_writes i (passEntryOf_used hs hn hw)))
    · exact hexec.trans (next_replyTo (serveWritePassEntry_none (passEntryOf_none (.inr ⟨rfl, .inl hs⟩))))
  · obtain ⟨hrequest, hargument⟩ := hb.refusesForms _ hmem hc
    exact ⟨hrequest, fun hr => hargument (outOfRange_formed hmem hr) hr⟩

end Sys2Proof.Machine
end

section
/-!
What the limits of the trims rest on (04 R84, R95, R102). `State.dosing` gathers it; the operations beside the Dose
Regulator's own leave it as it is, each shown once.
-/

namespace Sys2Proof.Machine

/-! ## The dosing of a state -/

/-- What the limits of the trims rest on: the trims, the valve count, the hold of the Dose Regulator, the recipes and
which slots are ACTIVE. -/
structure Dosing where
  trims : Nat → Int
  valveCount : Nat
  held : Bool
  image : SlotId → Image
  active : SlotId → Bool

def State.dosing (s : State) : Dosing where
  trims v := (s.valve v).trim
  valveCount := s.valveCount
  held := s.sup.holdDrg
  image := s.image
  active k := decide ((s.rcs.slot k).state = .active)

section
variable {s t : State} (h : t.dosing = s.dosing)
include h

theorem State.trim_of_dosing (v : Nat) : (t.valve v).trim = (s.valve v).trim := congrFun (congrArg Dosing.trims h) v

theorem State.valveCount_of_dosing : t.valveCount = s.valveCount := congrArg Dosing.valveCount h

theorem State.held_of_dosing : t.sup.holdDrg = s.sup.holdDrg := congrArg Dosing.held h

theorem State.image_of_dosing (k : SlotId) : t.image k = s.image k := congrFun (congrArg Dosing.image h) k

theorem State.active_of_dosing (k : SlotId) : (t.rcs.slot k).state = .active ↔ (s.rcs.slot k).state = .active :=
  decide_eq_decide.mp (congrFun (congrArg Dosing.active h) k)

end

/-- Which slots are ACTIVE gives the ACTIVE slot (06 R126). -/
theorem State.activeSlot_congr {s t : State}
    (h : ∀ k, (t.rcs.slot k).state = .active ↔ (s.rcs.slot k).state = .active) : t.activeSlot = s.activeSlot := by
  have h0 := h .s0
  have h1 := h .s1
  unfold State.activeSlot State.slotIn
  simp only [Rcs.slot] at h0 h1
  simp only [h0, h1]

/-- The same dosing keeps the trims within their limits. -/
theorem State.trimsWithin.same {s t : State} (hs : s.trimsWithin) (h : t.dosing = s.dosing) : t.trimsWithin := by
  obtain ⟨hone, hlimit, hinert, hheld⟩ := hs
  refine ⟨fun hb => hone ⟨?_, ?_⟩, fun k hk v hv => ?_, fun v hv hn => ?_, fun hd v hv => ?_⟩
  · exact (State.active_of_dosing h .s0).mp hb.1
  · exact (State.active_of_dosing h .s1).mp hb.2
  · rw [State.activeSlot_congr (State.active_of_dosing h)] at hk
    rw [State.image_of_dosing h, State.trim_of_dosing h]
    exact hlimit k hk v hv
  · rw [State.trim_of_dosing h]
    exact hinert v hv (State.valveCount_of_dosing h ▸ hn)
  · rw [State.trim_of_dosing h]
    exact hheld (State.held_of_dosing h ▸ hd) v hv

/-! ## Updates of one block -/

section
variable (s : State)

@[simp] theorem State.onPins_dosing (f : Pins → Pins) : (s.onPins f).dosing = s.dosing := rfl
@[simp] theorem State.onLif_dosing (f : Lif → Lif) : (s.onLif f).dosing = s.dosing := rfl
@[simp] theorem State.onMga_dosing (f : Mga → Mga) : (s.onMga f).dosing = s.dosing := rfl
@[simp] theorem State.onCtr_dosing (f : Ctr → Ctr) : (s.onCtr f).dosing = s.dosing := rfl
@[simp] theorem State.onWge_dosing (f : Wge → Wge) : (s.onWge f).dosing = s.dosing := rfl
@[simp] theorem State.onCck_dosing (f : Cck → Cck) : (s.onCck f).dosing = s.dosing := rfl
@[simp] theorem State.onGtc_dosing (f : Gtc → Gtc) : (s.onGtc f).dosing = s.dosing := rfl
@[simp] theorem State.onCounters_dosing (f : Vector Count 127 → Vector Count 127) :
    (s.onCounters f).dosing = s.dosing := rfl
@[simp] theorem State.bump_dosing (c : Counter) : (s.bump c).dosing = s.dosing := rfl
@[simp] theorem State.clearCounters_dosing (p : Nat → Bool) : (s.clearCounters p).dosing = s.dosing := rfl
@[simp] theorem State.drawn_dosing : s.drawn.dosing = s.dosing := rfl
@[simp] theorem State.onEntry_dosing (tag : Tag) (f : Entry → Entry) : (s.onEntry tag f).dosing = s.dosing := rfl
@[simp] theorem State.onRecord_dosing (tag : Tag) (f : Occupancy → Occupancy) :
    (s.onRecord tag f).dosing = s.dosing := rfl
@[simp] theorem State.takeRequest_dosing : s.takeRequest.dosing = s.dosing := rfl
@[simp] theorem State.endService_dosing : s.endService.dosing = s.dosing := rfl

@[simp] theorem State.onSup_dosing (f : Sup → Sup) (h : (f s.sup).holdDrg = s.sup.holdDrg) :
    (s.onSup f).dosing = s.dosing := by
  simp only [State.dosing, State.onSup_sup, h]
  rfl

/-- A state's dosing comes from four of its fields. -/
theorem State.dosing_congr {s t : State} (hsup : t.sup = s.sup) (hsetup : t.setup = s.setup) (hdrg : t.drg = s.drg)
    (hrcs : t.rcs = s.rcs) : t.dosing = s.dosing := by
  have himage : t.image = s.image := funext fun k => by rw [State.image, hrcs, State.image]
  simp only [State.dosing, State.valve_congr hdrg, State.valveCount, hsetup, hsup, hrcs, himage]

/-- A valve record changed but for its trim. -/
@[simp] theorem State.onValve_dosing (v : Nat) (f : Valve → Valve) (h : (f (s.valve v)).trim = (s.valve v).trim) :
    (s.onValve v f).dosing = s.dosing := by
  have htrim : ∀ i, ((s.onValve v f).valve i).trim = (s.valve i).trim := fun i => by
    rw [State.onValve_valve]
    split
    · rename_i hi
      rw [h, hi.1]
    · rfl
  simp only [State.dosing, htrim]
  rfl

/-- A slot changed but for its image and for being ACTIVE. -/
theorem State.onSlot_dosing (k : SlotId) (f : Slot → Slot) (himage : (f (s.rcs.slot k)).image = s.image k)
    (hactive : (f (s.rcs.slot k)).state = .active ↔ (s.rcs.slot k).state = .active) :
    (s.onSlot k f).dosing = s.dosing := by
  have hi : (s.onSlot k f).image = s.image := funext fun j => by
    rw [State.image, State.onSlot_slot]
    split
    · rename_i hj
      rw [himage, hj]
    · rfl
  have ha : ∀ j, ((s.onSlot k f).rcs.slot j).state = .active ↔ (s.rcs.slot j).state = .active := fun j => by
    rw [State.onSlot_slot]
    split
    · rename_i hj
      rw [hactive, hj]
    · rfl
  simp only [State.dosing, hi, ha]
  rfl

/-! ## Frames, notices and causes -/

@[simp] theorem State.join_dosing (c : TxClass) (x : Queued) : (s.join c x).dosing = s.dosing :=
  State.dosing_congr (by simp) (by simp) (by simp) (by simp)

@[simp] theorem State.arbitrate_dosing : s.arbitrate.dosing = s.dosing :=
  State.dosing_congr (by simp) (by simp) (by simp) (by simp)

@[simp] theorem State.placeNotice_dosing (d : Byte) (n : Notice) : (s.placeNotice d n).dosing = s.dosing :=
  State.dosing_congr (by simp) (by simp) (by simp) (by simp)

@[simp] theorem State.notify_dosing (n : Notice) : (s.notify n).dosing = s.dosing := s.placeNotice_dosing _ n

@[simp] theorem State.addCause_dosing (c : LineStopCause) : (s.addCause c).dosing = s.dosing := by
  unfold State.addCause
  split
  · rfl
  · rw [State.bump_dosing, State.notify_dosing, State.onSup_dosing _ _ rfl]

@[simp] theorem State.noteWait_dosing : s.noteWait.dosing = s.dosing :=
  State.dosing_congr (by simp) (by simp) (by simp) (by simp)

@[simp] theorem replyTo_dosing (r : Request) (a : Answer) (x : Bool) : (replyTo r a x).dosing = a.state.dosing :=
  State.dosing_congr (by simp) (by simp) (by simp) (by simp)

@[simp] theorem State.sendCanResult_dosing (e : Entry) : (s.sendCanResult e).dosing = s.dosing :=
  State.dosing_congr (by simp) (by simp) (by simp) (by simp)

@[simp] theorem State.sendTrim_dosing (v : Nat) : (s.sendTrim v).dosing = s.dosing := by
  unfold State.sendTrim
  split_ifs <;> simp

@[simp] theorem State.sendTrimClear_dosing (id : Nat) : (s.sendTrimClear id).dosing = s.dosing := by
  unfold State.sendTrimClear
  split_ifs <;> simp

@[simp] theorem State.alert_dosing (v : Nat) (x : AlertReason) : (s.alert v x).dosing = s.dosing :=
  State.dosing_congr (by simp [State.alert]) (by simp [State.alert]) (by simp) (by simp [State.alert])

@[simp] theorem State.countValve_dosing (v : Option Nat) (f : Valve → Valve) (h : ∀ x, (f x).trim = x.trim) :
    (s.countValve v f).dosing = s.dosing := by
  unfold State.countValve
  split
  · rfl
  · split
    · rfl
    · exact s.onValve_dosing _ f (h _)

/-! ## Entries, slots and retirements (01 R1 to R7; 06 R127, R142) -/

@[simp] theorem State.addEntry_dosing (e : Entry) : (s.addEntry e).dosing = s.dosing := by
  unfold State.addEntry
  dsimp only
  split
  · rfl
  · exact State.onSlot_dosing _ _ (fun x => { x with refs := x.refs + 1 }) rfl Iff.rfl

@[simp] theorem State.drainCheck_dosing (k : SlotId) (m : DrainMoment) : (s.drainCheck k m).dosing = s.dosing := by
  rw [State.drainCheck_eq]
  split
  · rename_i h
    rw [State.bump_dosing, State.notify_dosing]
    exact s.onSlot_dosing k (fun x => { x with state := .verified }) rfl (by simp [h.1])
  · rfl

@[simp] theorem State.releaseSlot_dosing (slot : Option SlotId) (m : DrainMoment) :
    (s.releaseSlot slot m).dosing = s.dosing := by
  unfold State.releaseSlot
  split
  · rfl
  · rw [State.drainCheck_dosing]
    exact s.onSlot_dosing _ (fun x => { x with refs := x.refs - 1 }) rfl Iff.rfl

@[simp] theorem State.retire_dosing (out : ExitOutcome) (tag : Tag) : (s.retire out tag).dosing = s.dosing := by
  unfold State.retire
  split
  · rfl
  · dsimp only
    split <;> simp

@[simp] theorem State.flush_dosing : s.flush.dosing = s.dosing := by
  have hall : ∀ (l : List Entry) (u : State), (u.flushEach l).dosing = u.dosing := fun l => by
    induction l with
    | nil => exact fun _ => rfl
    | cons e l ih => exact fun u => (ih _).trans (by simp)
  rw [State.flush_eq, State.onCtr_dosing, State.onWge_dosing, State.onGtc_dosing, hall]

@[simp] theorem State.raiseSlip_dosing : s.raiseSlip.dosing = s.dosing := by
  unfold State.raiseSlip
  split_ifs <;> simp

@[simp] theorem State.expire_dosing (e : Entry) : (s.expire e).dosing = s.dosing := by simp [State.expire]

@[simp] theorem State.expireAll_dosing (n : Nat) : (s.expireAll n).dosing = s.dosing := by
  induction n generalizing s with
  | zero => rfl
  | succ n ih =>
    unfold State.expireAll
    split
    · rfl
    · rw [ih, State.expire_dosing]

/-! ## Epochs (04 R87, R88) -/

theorem State.epochMatch_dosing (v : Nat) : (s.epochMatch v).dosing = s.dosing :=
  ((s.onValve v _).bump_dosing _).trans (s.onValve_dosing v _ (by split <;> rfl))

theorem State.mismatchLimit_dosing (v : Nat) : (s.mismatchLimit v).dosing = s.dosing := by
  unfold State.mismatchLimit
  dsimp only
  split_ifs <;> simp

@[simp] theorem State.takeEpoch_dosing (v : Nat) (epoch : Byte) : (s.takeEpoch v epoch).dosing = s.dosing := by
  unfold State.takeEpoch
  split_ifs
  · rfl
  · exact s.epochMatch_dosing v
  · unfold State.epochMismatch
    dsimp only
    split_ifs <;> simp [State.mismatchLimit_dosing]

/-! ## The Code Checker (03) -/

theorem State.readerRun_dosing (tag : Tag) (cls : CodeClass) : (s.readerRun tag cls).dosing = s.dosing := by
  unfold State.readerRun
  dsimp only
  split
  · split_ifs <;> simp
  · split_ifs <;> simp
  · rfl

@[simp] theorem State.storeCode_dosing (tag : Tag) (c : CodeResult) : (s.storeCode tag c).dosing = s.dosing := rfl

@[simp] theorem State.writeCode_dosing (tag : Tag) (c : CodeResult) : (s.writeCode tag c).dosing = s.dosing :=
  State.readerRun_dosing _ _ _

@[simp] theorem State.readTrigger_dosing (tag : Tag) : (s.readTrigger tag).dosing = s.dosing := by
  unfold State.readTrigger
  split
  · rfl
  · split_ifs <;> simp

@[simp] theorem State.closeCode_dosing (tag : Tag) : (s.closeCode tag).dosing = s.dosing := by
  unfold State.closeCode
  split
  · rfl
  · split_ifs <;> simp

@[simp] theorem State.codeIntake_dosing (payload : List Byte) : (s.codeIntake payload).dosing = s.dosing := by
  unfold State.codeIntake State.matchReply
  split_ifs
  · rfl
  · split
    · rfl
    · split
      · rfl
      · split_ifs
        · split <;> simp
        · rfl

@[simp] theorem State.holdCckBlock_dosing : s.holdCckBlock.dosing = s.dosing :=
  s.holdCckBlock_eq ▸ State.dosing_congr rfl rfl rfl rfl

/-! ## The Gate Controller (05) -/

@[simp] theorem State.queueReject_dosing (e : Entry) : (s.queueReject e).dosing = s.dosing := by
  unfold State.queueReject
  split_ifs <;> simp

@[simp] theorem State.decisionPoint_dosing (tag : Tag) : (s.decisionPoint tag).dosing = s.dosing := by
  refine Eq.trans ?_ (s.closeCode_dosing tag)
  cases he : (s.closeCode tag).entry tag with
  | none => simp only [State.decisionPoint, State.decideEntry, he]
  | some e =>
    rw [State.decisionPoint, State.decideEntry_eq he]
    split_ifs <;> simp

@[simp] theorem State.gateActs_dosing (e : Entry) : (s.gateActs e).dosing = s.dosing := by
  unfold State.gateActs State.fireGate
  split_ifs <;> simp

@[simp] theorem State.retireCounted_dosing (out : ExitOutcome) (tag : Tag) :
    (s.retireCounted out tag).dosing = s.dosing := s.retire_dosing out tag

@[simp] theorem State.gatePoint_dosing (tag : Tag) : (s.gatePoint tag).dosing = s.dosing := by
  unfold State.gatePoint
  split
  · rfl
  · dsimp only
    split_ifs <;> simp

@[simp] theorem State.confirmCloses_dosing (tag : Tag) : (s.confirmCloses tag).dosing = s.dosing := by
  unfold State.confirmCloses
  split <;> simp

@[simp] theorem State.confirmArrives_dosing (y : Pos) : (s.confirmArrives y).dosing = s.dosing := by
  unfold State.confirmArrives State.confirmEntry
  split_ifs
  · rfl
  · rfl
  · split
    · rfl
    · split_ifs <;> simp

/-! ## The Weigh Engine (02) -/

@[simp] theorem State.clearEmpty_dosing : s.clearEmpty.dosing = s.dosing := rfl

@[simp] theorem State.emptyFilter_dosing : s.emptyFilter.dosing = s.dosing := rfl

@[simp] theorem State.notifyZero_dosing : s.notifyZero.dosing = s.dosing := s.notify_dosing _

@[simp] theorem State.discardEmpty_dosing : s.discardEmpty.dosing = s.dosing := by
  unfold State.discardEmpty
  split_ifs <;> rfl

theorem State.evaluateEmpty_dosing (ze : Int) : (s.evaluateEmpty ze).dosing = s.dosing := by
  unfold State.evaluateEmpty State.captureZero State.trackZero State.zeroOutOfBand
  dsimp only
  split_ifs <;> simp

theorem State.produce_dosing (o : Output) : (s.produce o).dosing = s.dosing := by
  unfold State.produce State.emptyTakes
  dsimp only
  split_ifs <;> simp [State.evaluateEmpty_dosing]

theorem State.decimate_dosing (x : FlaggedValue) : (s.decimate x).dosing = s.dosing := by
  unfold State.decimate State.joinHistory
  dsimp only
  split_ifs <;> simp [State.produce_dosing]

@[simp] theorem State.takeSample_dosing (x : FlaggedValue) : (s.takeSample x).dosing = s.dosing := by
  unfold State.takeSample
  dsimp only
  rw [State.decimate_dosing]
  split_ifs <;> simp

@[simp] theorem State.loseSamples_dosing : s.loseSamples.dosing = s.dosing := by simp [State.loseSamples]

@[simp] theorem State.writeWeigh_dosing (tag : Tag) (w : WeighResult) : (s.writeWeigh tag w).dosing = s.dosing := rfl

@[simp] theorem State.handOff_dosing (tag : Tag) (slot : Option SlotId) : (s.handOff tag slot).dosing = s.dosing := by
  unfold State.handOff State.crowded
  split_ifs <;> rfl

@[simp] theorem State.platformEntry_dosing (tag : Tag) : (s.platformEntry tag).dosing = s.dosing := by
  unfold State.platformEntry
  split <;> simp

@[simp] theorem State.settle_dosing (tag : Tag) : (s.settle tag).dosing = s.dosing := by
  unfold State.settle
  split <;> rfl

@[simp] theorem State.leavePlatform_dosing (tag : Tag) : (s.leavePlatform tag).dosing = s.dosing := rfl

@[simp] theorem State.takeCopies_dosing (c : CalRecord) : (s.takeCopies c).dosing = s.dosing := by
  unfold State.takeCopies
  dsimp only
  split_ifs <;> simp

@[simp] theorem State.holdWgeBlock_dosing : s.holdWgeBlock.dosing = s.dosing :=
  s.holdWgeBlock_eq ▸ State.dosing_congr rfl rfl rfl rfl

/-! ## The eyes and the encoder (01 R8 to R10, R21, R22) -/

@[simp] theorem State.recognise_dosing (eye : Eye) (x : Pos) : (s.recognise eye x).dosing = s.dosing := by
  cases eye <;> rfl

@[simp] theorem State.setMonitor_dosing (eye : Eye) (m : EyeMonitor) : (s.setMonitor eye m).dosing = s.dosing := by
  cases eye <;> rfl

@[simp] theorem State.eyeBlocks_dosing (eye : Eye) : (s.eyeBlocks eye).dosing = s.dosing := by
  unfold State.eyeBlocks
  split_ifs <;> simp

@[simp] theorem State.eyeClears_dosing (eye : Eye) : (s.eyeClears eye).dosing = s.dosing := by
  unfold State.eyeClears
  split <;> simp

@[simp] theorem State.debounce_dosing (eye : Eye) : (s.debounce eye).dosing = s.dosing := by
  unfold State.debounce
  split_ifs <;> simp

@[simp] theorem State.minBlockChanged_dosing (eye : Eye) : (s.minBlockChanged eye).dosing = s.dosing := by
  unfold State.minBlockChanged
  split_ifs <;> simp

@[simp] theorem State.watchEye_dosing (eye : Eye) : (s.watchEye eye).dosing = s.dosing := by
  unfold State.watchEye
  split_ifs <;> simp

@[simp] theorem State.polarityChanged_dosing (eye : Eye) : (s.polarityChanged eye).dosing = s.dosing := by
  simp [State.polarityChanged]

@[simp] theorem State.forwardStep_dosing : s.forwardStep.dosing = s.dosing := by
  unfold State.forwardStep State.advance
  split_ifs <;> simp

@[simp] theorem State.reverseStep_dosing : s.reverseStep.dosing = s.dosing := by
  unfold State.reverseStep State.reversalFault
  split_ifs <;> simp

/-! ## The Supervisor and the Loop Interface (07, 09) -/

@[simp] theorem State.watchInputs_dosing : s.watchInputs.dosing = s.dosing := by simp [State.watchInputs]

@[simp] theorem State.readStore_dosing : s.readStore.dosing = s.dosing := by
  unfold State.readStore
  dsimp only
  split_ifs <;> simp

@[simp] theorem State.sayHello_dosing : s.sayHello.dosing = s.dosing := by
  unfold State.sayHello
  dsimp only
  split_ifs <;> simp

@[simp] theorem State.startStoreWrite_dosing : s.startStoreWrite.dosing = s.dosing := by simp [State.startStoreWrite]

@[simp] theorem State.storeWritten_dosing (r : CalRecord) : (s.storeWritten r).dosing = s.dosing := by
  simp [State.storeWritten]

@[simp] theorem State.notifyCal_dosing : s.notifyCal.dosing = s.dosing := s.notify_dosing _

@[simp] theorem State.convert_dosing (code : BitVec 10) : (s.convert code).dosing = s.dosing := by
  unfold State.convert
  dsimp only
  split_ifs <;> simp

@[simp] theorem State.readinessChanged_dosing (i : ReadinessInput) : (s.readinessChanged i).dosing = s.dosing := by
  cases i <;> simp [State.readinessChanged]

@[simp] theorem State.conditioned_dosing (i : ReadinessInput) : (s.conditioned i).dosing = s.dosing := by
  cases i <;> (unfold State.conditioned; dsimp only; split_ifs) <;> simp

theorem State.restartBin_dosing : s.restartBin.dosing = s.dosing := s.onSup_dosing _ rfl

theorem State.restartAir_dosing : s.restartAir.dosing = s.dosing := s.onSup_dosing _ rfl

@[simp] theorem State.clearCause_dosing (mask : Nat) (c : LineStopCause) : (s.clearCause mask c).dosing = s.dosing := by
  unfold State.clearCause
  split_ifs <;> simp

@[simp] theorem State.mgmtIntake_dosing (source : Byte) (payload : List Byte) :
    (s.mgmtIntake source payload).dosing = s.dosing := by
  unfold State.mgmtIntake
  split
  · split_ifs <;> simp
  · rfl

@[simp] theorem State.discharge_dosing (d : Discharge) : (s.discharge d).dosing = s.dosing := by
  rw [State.discharge_eq]
  unfold State.epochCompared
  split_ifs <;> simp

@[simp] theorem State.handTo_dosing (i : Intake) (f : Frame) : (s.handTo i f).dosing = s.dosing := by
  unfold State.handTo State.dischargeIntake
  split
  · rfl
  · split
    · split_ifs <;> simp
    · rfl
  · simp

@[simp] theorem State.forward_dosing (f : Frame) : (s.forward f).dosing = s.dosing := by
  unfold State.forward
  split_ifs <;> simp

@[simp] theorem State.handAndForward_dosing (i : Intake) (f : Frame) : (s.handAndForward i f).dosing = s.dosing := by
  unfold State.handAndForward
  split_ifs <;> simp

theorem State.classify_dosing (f : Frame) : (s.classify f).dosing = s.dosing := by
  unfold State.classify
  split_ifs
  · unfold State.classifyOwn
    split_ifs
    · simp
    · split <;> simp
  · unfold State.classifyBroadcast
    split
    · simp
    · split_ifs <;> simp
  · unfold State.classifyOther
    split
    · simp
    · split_ifs <;> simp

@[simp] theorem State.receive_dosing (bytes : List Byte) : (s.receive bytes).dosing = s.dosing := by
  unfold State.receive
  dsimp only
  split
  · rfl
  · split
    · rfl
    · rw [State.classify_dosing, State.bump_dosing]

end

end Sys2Proof.Machine
end

section
/-!
What each operation of the Dose Regulator does to a valve's record (04 R87 to R97), and what it sends and counts.
-/

namespace Sys2Proof.Machine

/-! ## Frames to the filler and alerts (04 R89, R106) -/

section
variable (s : State)

@[simp] theorem State.bump_valve (c : Counter) (i : Nat) : (s.bump c).valve i = s.valve i := rfl
@[simp] theorem State.onEntry_valve (tag : Tag) (f : Entry → Entry) (i : Nat) :
    (s.onEntry tag f).valve i = s.valve i := rfl
@[simp] theorem State.sendTrim_valve (v i : Nat) : (s.sendTrim v).valve i = s.valve i :=
  State.valve_congr (s.sendTrim_drg v) i
@[simp] theorem State.alert_valve (v : Nat) (x : AlertReason) (i : Nat) : (s.alert v x).valve i = s.valve i :=
  State.valve_congr (s.alert_drg v x) i

end

namespace SameVoice

variable {cs : List Counter} {s t : State} (h : SameVoice cs s t)
include h

/-- A frame for the filler goes the same from both (R89, R100). -/
theorem toFiller_both (c : Counter) (x : Queued) : SameVoice cs (s.toFiller c x) (t.toFiller c x) := by
  have hstation : t.fillerStation = s.fillerStation := by rw [State.fillerStation, h.setup]; rfl
  unfold State.toFiller
  rw [hstation, h.lif]
  split_ifs
  · exact h.bump_both _
  · exact h.bump_both _
  · exact (h.join_both _ _).bump_both _

/-- A VALVE_ALERT goes the same from both (R106). -/
theorem alerted_both (n : Notice) : SameVoice cs (s.alerted n) (t.alerted n) := by
  have hstation : t.noticeStation = s.noticeStation := by rw [State.noticeStation, h.setup]; rfl
  unfold State.alerted
  rw [hstation, h.lif]
  split_ifs
  · exact (h.notify_both _).bump_both _
  · exact h.notify_both _

/-- The valve's trim goes from `t` as the DOSE_TRIM that its record there gives. -/
theorem sendTrim_both {v : Nat} {x : Valve} (hx : t.valve v = x) :
    SameVoice cs (s.toFiller .trimsQueued (.own s.fillerStation 0x53
      ([BitVec.ofNat 8 v, x.epoch] ++ signedBE 4 x.trim) false)) (t.sendTrim v) := by
  have hstation : t.fillerStation = s.fillerStation := by rw [State.fillerStation, h.setup]; rfl
  rw [State.sendTrim_eq, hx, hstation]
  exact h.toFiller_both _ _

/-- The alert goes from `t` as the valve's record there gives it. -/
theorem alert_both {v : Nat} {x : Valve} (hx : t.valve v = x) (reason : AlertReason) :
    SameVoice cs (s.alerted (.valveAlert v reason x.trim x.epoch x.state)) (t.alert v reason) := by
  rw [State.alert, State.alertWith_eq, hx]
  exact h.alerted_both _

end SameVoice

/-! ## Epochs (R87, R88) -/

section
variable {s : State} {v : Nat}

theorem State.takeEpoch_held (h : s.sup.holdDrg = true) (epoch : Byte) : s.takeEpoch v epoch = s := if_pos h

theorem State.takeEpoch_match (h : s.sup.holdDrg = false) {epoch : Byte} (he : epoch = (s.valve v).epoch) :
    s.takeEpoch v epoch = s.epochMatch v := by
  rw [State.takeEpoch, if_neg (by simp [h]), if_pos he]

/-- `s` once another epoch at valve `v` is counted (R88). -/
def State.mismatched (s : State) (v : Nat) : State :=
  (s.onValve v fun x => { x with mismatchRun := (s.valve v).mismatchRun + 1 }).bump .epochMismatches

theorem State.takeEpoch_mismatch (h : s.sup.holdDrg = false) {epoch : Byte} (he : epoch ≠ (s.valve v).epoch) :
    s.takeEpoch v epoch = if s.resendCount ≤ (s.valve v).mismatchRun + 1 then
      ((s.mismatched v).mismatchLimit v).onValve v fun x => { x with mismatchRun := 0 } else s.mismatched v := by
  rw [State.takeEpoch, if_neg (by simp [h]), if_neg he]
  rfl

theorem State.mismatched_valve (hv : v < 96) :
    (s.mismatched v).valve v = { s.valve v with mismatchRun := (s.valve v).mismatchRun + 1 } := by
  simp [State.mismatched, State.onValve_valve, hv]

theorem State.mismatched_voice : SameVoice [] (s.bump .epochMismatches) (s.mismatched v) :=
  ((SameVoice.refl s).onValve v _).bump_both _

/-- An UNCONFIRMED valve stays as it is at the limit. -/
theorem State.mismatchLimit_unconfirmed (h : (s.valve v).state = .unconfirmed) : s.mismatchLimit v = s := if_pos h

/-- A trim sent fewer than three times is sent again. -/
theorem State.mismatchLimit_resends (h : (s.valve v).state ≠ .unconfirmed) (hs : (s.valve v).sends < 3) :
    s.mismatchLimit v =
      ((s.sendTrim v).onValve v fun y => { y with sends := y.sends + 1, state := .awaitingConfirm }).bump
        .trimResends := (if_neg h).trans (if_pos hs)

/-- A trim sent three times is given up. -/
theorem State.mismatchLimit_gives_up (h : (s.valve v).state ≠ .unconfirmed) (hs : 3 ≤ (s.valve v).sends) :
    s.mismatchLimit v = (s.onValve v fun y => { y with state := .unconfirmed }).alert v .unconfirmed :=
  (if_neg h).trans (if_neg (Nat.not_lt.mpr hs))

theorem State.mismatchLimit_valve_ne {i : Nat} (hi : i ≠ v) : (s.mismatchLimit v).valve i = s.valve i := by
  unfold State.mismatchLimit
  dsimp only
  split_ifs <;> simp [State.onValve_valve, hi]

theorem State.takeEpoch_valve_ne {i : Nat} (hi : i ≠ v) (epoch : Byte) :
    (s.takeEpoch v epoch).valve i = s.valve i := by
  unfold State.takeEpoch State.epochMatch State.epochMismatch
  dsimp only
  split_ifs <;> simp [State.onValve_valve, State.mismatchLimit_valve_ne, hi]

end

/-- Settles O42. -/
theorem epochsConfirmTheTrim : Obligations.EpochsConfirmTheTrim := by
  intro s v epoch hv x t
  have hall : s.changesOnly t [.drg, .lif, .mga, .counters] :=
    ((s.takeEpoch_touches v epoch).mono (by decide) (List.Subset.refl _)).parts
  refine ⟨fun hh => State.takeEpoch_held hh epoch, fun hh he => ?_, fun hh he => ?_,
    fun i _ hi => State.takeEpoch_valve_ne hi epoch, hall⟩
  · have ht : t = s.epochMatch v := State.takeEpoch_match hh he
    rw [ht]
    refine ⟨?_, rfl, (((Touches.refl (cs := [.epochMatches]) s).onValve v _).bump _).parts⟩
    have hvalve : (s.epochMatch v).valve v = if x.state = .collecting then { x with mismatchRun := 0 }
        else { x with mismatchRun := 0, state := .collecting, sends := 0 } := by
      simp [State.epochMatch, State.onValve_valve, hv, x]
    rw [hvalve]
    split_ifs with hc
    · rw [← hc]
    · rfl
  · intro u
    have hvalve : (s.mismatched v).valve v = { x with mismatchRun := x.mismatchRun + 1 } := State.mismatched_valve hv
    have hdone : Touches [.drg, .counters] [.epochMismatches] s (s.mismatched v) :=
      ((Touches.refl s).onValve v _).bump _
    refine ⟨fun hlt => ?_, fun hle => ?_⟩
    · have ht : t = s.mismatched v := (State.takeEpoch_mismatch hh he).trans (if_neg (Nat.not_le.mpr hlt))
      rw [ht]
      exact ⟨hvalve, rfl, hdone.parts⟩
    · have ht : t = ((s.mismatched v).mismatchLimit v).onValve v fun x => { x with mismatchRun := 0 } :=
        (State.takeEpoch_mismatch hh he).trans (if_pos hle)
      refine ⟨fun hx => ?_, fun hx hs => ?_, fun hx hs => ?_⟩
      · rw [ht, State.mismatchLimit_unconfirmed (by rw [hvalve]; exact hx)]
        refine ⟨?_, rfl, (hdone.onValve v _).parts⟩
        simp [State.onValve_valve, hv, hvalve]
      · rw [ht, State.mismatchLimit_resends (by rw [hvalve]; exact hx) (by rw [hvalve]; exact hs)]
        refine ⟨?_, ?_⟩
        · simp [State.onValve_valve, hv, hvalve]
        · intro w
          have hw : SameVoice [.trimResends] w (((((s.mismatched v).sendTrim v).onValve v fun y =>
              { y with sends := y.sends + 1, state := .awaitingConfirm }).bump .trimResends).onValve v fun x =>
              { x with mismatchRun := 0 }) :=
            (((State.mismatched_voice.sendTrim_both hvalve).onValve v _).bump _).onValve v _
          refine ⟨hw.lif, hw.counts, ?_⟩
          have hsent : Touches [.drg, .lif, .counters] (.epochMismatches :: .trimResends :: trimCounts) s
              ((s.mismatched v).sendTrim v) := (((Touches.refl s).onValve v _).bump _).sendTrim v
          exact (((hsent.onValve v _).bump _).onValve v _).parts
      · rw [ht, State.mismatchLimit_gives_up (by rw [hvalve]; exact hx) (by rw [hvalve]; exact hs)]
        refine ⟨?_, ?_⟩
        · simp [State.onValve_valve, hv, hvalve]
        · intro w
          have hgone : ((s.mismatched v).onValve v fun y => { y with state := .unconfirmed }).valve v =
              { x with mismatchRun := x.mismatchRun + 1, state := .unconfirmed } := by
            simp [State.onValve_valve, hv, hvalve]
          have hw : SameVoice [] w ((((s.mismatched v).onValve v fun y => { y with state := .unconfirmed }).alert v
              .unconfirmed).onValve v fun x => { x with mismatchRun := 0 }) :=
            ((State.mismatched_voice.onValve v _).alert_both hgone .unconfirmed).onValve v _
          exact ⟨hw.lif, hw.mga, hw.counts⟩

end Sys2Proof.Machine
end

section
/-!
The evaluation of a batch (04 R94 to R97): what becomes of the valve's record, said on the record alone, and what goes
to the filler and to the notice station.
-/

namespace Sys2Proof.Machine

/-! ## The record of a valve -/

/-- A value brought into a range that is not empty. -/
theorem clampInt_eq {lo hi : Int} (h : lo ≤ hi) (x : Int) : clampInt lo hi x = max lo (min hi x) := by
  unfold clampInt
  split_ifs <;> omega

theorem nextTrim_eq (img : Image) (trim m : Int) : nextTrim img trim m = max (-(img.trimLimit : Int))
    (min img.trimLimit (trim + max (-(img.maxStep : Int)) (min img.maxStep (-(roundDiv (m * img.gain) 16))))) := by
  rw [nextTrim, correction, clampInt_eq (by omega), clampInt_eq (by omega)]

/-- A record whose new trim is `trim` (R96). -/
def Valve.applied (x : Valve) (trim : Int) : Valve :=
  if trim = x.trim then x
  else { x with trim := trim, epoch := x.epoch + 1, sends := 1, mismatchRun := 0, state := .awaitingConfirm }

/-- The saturation is set at an evaluation whose new trim is `trim` (R97). -/
def Valve.saturates (x : Valve) (img : Image) (trim : Int) : Bool :=
  decide (trim.natAbs = img.trimLimit) && !x.saturated && decide (img.satCount ≤ min 15 (x.satRun + 1))

/-- A record after an evaluation whose new trim is `trim`: its saturation run (R97). -/
def Valve.saturation (x : Valve) (img : Image) (trim : Int) : Valve :=
  if trim.natAbs = img.trimLimit then
    { x with satRun := min 15 (x.satRun + 1), saturated := x.saturated || x.saturates img trim }
  else { x with satRun := 0, saturated := false }

/-- The trim that a batch asks for (R95). -/
def Valve.nextTrim (x : Valve) (img : Image) : Int := Machine.nextTrim img x.trim (roundDiv x.sum img.batch)

/-- A record after the evaluation of its batch (R94 to R97). -/
def Valve.evaluated (x : Valve) (img : Image) : Valve :=
  let y :=
    if x.erratic then x
    else if (roundDiv x.sum img.batch).natAbs ≤ img.deadBand then { x with satRun := 0, saturated := false }
    else (x.applied (x.nextTrim img)).saturation img (x.nextTrim img)
  { y with sum := 0, n := 0 }

@[simp] theorem Valve.applied_trim (x : Valve) (trim : Int) : (x.applied trim).trim = trim := by
  unfold Valve.applied
  split_ifs with h
  · exact h.symm
  · rfl

@[simp] theorem Valve.saturation_trim (x : Valve) (img : Image) (trim : Int) :
    (x.saturation img trim).trim = x.trim := by
  unfold Valve.saturation
  split_ifs <;> rfl

/-- A batch moves the trim within the trim limit, or not at all (R95). -/
theorem Valve.evaluated_trim (x : Valve) (img : Image) : (x.evaluated img).trim = x.trim ∨
    -(img.trimLimit : Int) ≤ (x.evaluated img).trim ∧ (x.evaluated img).trim ≤ img.trimLimit := by
  unfold Valve.evaluated
  dsimp only
  split_ifs
  · exact .inl rfl
  · exact .inl rfl
  · right
    rw [Valve.saturation_trim, Valve.applied_trim, Valve.nextTrim, nextTrim_eq]
    omega

/-! ## What the evaluation does to the records -/

section
variable (s : State) (v : Nat) (img : Image) (trim : Int)

theorem lands_iff : (trim = img.trimLimit ∨ trim = -(img.trimLimit : Int)) ↔ trim.natAbs = img.trimLimit := by omega

theorem State.applyTrim_valve (i : Nat) : (s.applyTrim v trim).valve i =
    if i = v ∧ v < 96 then (s.valve v).applied trim else s.valve i := by
  unfold State.applyTrim Valve.applied
  by_cases hi : i = v ∧ v < 96
  · rw [if_pos hi, hi.1]
    split_ifs <;> simp [State.onValve_valve, hi.2]
  · rw [if_neg hi]
    split_ifs <;> simp [State.onValve_valve, hi]

theorem State.saturation_valve (i : Nat) : (s.saturation v img trim).valve i =
    if i = v ∧ v < 96 then (s.valve v).saturation img trim else s.valve i := by
  unfold State.saturation Valve.saturation Valve.saturates
  simp only [lands_iff]
  by_cases hi : i = v ∧ v < 96
  · rw [if_pos hi, hi.1]
    by_cases hl : trim.natAbs = img.trimLimit
    · by_cases hs : img.satCount ≤ min 15 ((s.valve v).satRun + 1) ∧ (s.valve v).saturated = false
      · rw [if_pos hl, if_pos hl, if_pos hs]
        simp [State.onValve_valve, hi.2, hl, hs.2, le_min_iff.mp hs.1]
      · have hkeep : ((s.valve v).saturated || decide (trim.natAbs = img.trimLimit) && !(s.valve v).saturated &&
            decide (img.satCount ≤ min 15 ((s.valve v).satRun + 1))) = (s.valve v).saturated := by
          cases hx : (s.valve v).saturated
          · rw [decide_eq_false fun h => hs ⟨h, hx⟩, Bool.and_false, Bool.or_false]
          · rfl
        rw [if_pos hl, if_pos hl, if_neg hs, hkeep]
        simp [State.onValve_valve, hi.2]
    · rw [if_neg hl, if_neg hl]
      simp [State.onValve_valve, hi.2]
  · rw [if_neg hi]
    split_ifs <;> simp [State.onValve_valve, hi]

theorem State.evaluate_valve (i : Nat) : (s.evaluate v img).valve i =
    if i = v ∧ v < 96 then (s.valve v).evaluated img else s.valve i := by
  unfold State.evaluate Valve.evaluated Valve.nextTrim
  dsimp only
  by_cases hi : i = v ∧ v < 96
  · rw [if_pos hi, hi.1]
    split_ifs <;> simp [State.onValve_valve, State.saturation_valve, State.applyTrim_valve, hi.2]
  · rw [if_neg hi]
    split_ifs <;> simp [State.onValve_valve, State.saturation_valve, State.applyTrim_valve, hi]

/-! ## What the evaluation sends and counts -/

/-- The counters of an evaluation but for its own (R106). -/
def evaluationCounts : List Counter :=
  [.evalSuppressed, .evalDeadband, .evalUnchanged, .trimChanges, .valveAlerts] ++ trimCounts ++ noticeCounts

/-- The evaluation of a batch before the collection starts again (R94). -/
def State.batchEvaluated : State :=
  if (s.valve v).erratic then s.bump .evalSuppressed
  else if (roundDiv (s.valve v).sum img.batch).natAbs ≤ img.deadBand then
    (s.onValve v fun y => { y with satRun := 0, saturated := false }).bump .evalDeadband
  else (s.applyTrim v ((s.valve v).nextTrim img)).saturation v img ((s.valve v).nextTrim img)

theorem State.evaluate_eq : s.evaluate v img =
    ((s.batchEvaluated v img).onValve v fun y => { y with sum := 0, n := 0 }).bump .evaluations := rfl

theorem State.batchEvaluated_touches :
    Touches [.drg, .lif, .mga, .counters] evaluationCounts s (s.batchEvaluated v img) := by
  have h := Touches.refl (ps := [.drg, .lif, .mga, .counters]) (cs := evaluationCounts) s
  have happly : Touches [.drg, .lif, .mga, .counters] evaluationCounts s
      (s.applyTrim v ((s.valve v).nextTrim img)) := by
    unfold State.applyTrim
    split_ifs
    · exact h.bump _
    · exact (((h.onValve v _).sendTrim v).onValve v _).bump _
  unfold State.batchEvaluated
  split_ifs
  · exact h.bump _
  · exact (h.onValve v _).bump _
  · unfold State.saturation
    dsimp only
    split_ifs
    · exact (happly.onValve v _).alert v _
    · exact happly.onValve v _
    · exact happly.onValve v _

/-- A new trim goes to the filler when it differs (R89, R96). -/
theorem State.applyTrim_voice (hv : v < 96) : SameVoice []
    (if trim = (s.valve v).trim then s.bump .evalUnchanged
      else (s.toFiller .trimsQueued (.own s.fillerStation 0x53
        ([BitVec.ofNat 8 v, (s.valve v).epoch + 1] ++ signedBE 4 trim) false)).bump .trimChanges)
    (s.applyTrim v trim) := by
  unfold State.applyTrim
  split_ifs
  · exact (SameVoice.refl s).bump_both _
  · have hx : (s.onValve v fun x => { x with trim := trim, epoch := x.epoch + 1 }).valve v =
        { s.valve v with trim := trim, epoch := (s.valve v).epoch + 1 } := by simp [State.onValve_valve, hv]
    exact ((((SameVoice.refl s).onValve v _).sendTrim_both hx).onValve v _).bump_both _

variable {s v}

/-- An alert goes when the saturation is set (R97). -/
theorem SameVoice.saturation_both {a : State} {cs : List Counter} (h : SameVoice cs a s) (hv : v < 96) {x : Valve}
    (hx : s.valve v = x) : SameVoice cs
      (if x.saturates img trim then a.alerted (.valveAlert v .saturated x.trim x.epoch x.state) else a)
      (s.saturation v img trim) := by
  unfold State.saturation Valve.saturates
  simp only [lands_iff, hx]
  by_cases hl : trim.natAbs = img.trimLimit
  · by_cases hs : img.satCount ≤ min 15 (x.satRun + 1) ∧ x.saturated = false
    · have hy : (s.onValve v fun y => { y with satRun := min 15 (x.satRun + 1), saturated := true }).valve v =
          { x with satRun := min 15 (x.satRun + 1), saturated := true } := by simp [State.onValve_valve, hv, hx]
      rw [if_pos hl, if_pos hs, if_pos (by simpa [hl] using hs.symm)]
      exact (h.onValve v _).alert_both hy .saturated
    · rw [if_pos hl, if_neg hs, if_neg (by simpa [hl] using fun h1 h2 => hs ⟨h2, h1⟩)]
      exact h.onValve v _
  · rw [if_neg hl, if_neg (by simp [hl])]
    exact h.onValve v _

end

/-- Settles O44. -/
theorem evaluationMovesTheTrim : Obligations.EvaluationMovesTheTrim := by
  intro s v img hv x t m wanted step next
  have hvalve : t.valve v = x.evaluated img := (s.evaluate_valve v img v).trans (if_pos ⟨rfl, hv⟩)
  have htouch := s.batchEvaluated_touches v img
  have hnext : x.nextTrim img = next := nextTrim_eq _ _ _
  have hdone : Touches [.drg, .lif, .mga, .counters] evaluationCounts s
      ((s.batchEvaluated v img).onValve v fun y => { y with sum := 0, n := 0 }) := htouch.onValve v _
  refine ⟨by rw [hvalve]; rfl, by rw [hvalve]; rfl, ?_, ?_, fun he => ?_, fun he hm => ?_, fun he hm => ?_,
    fun i _ hi => ?_, ?_⟩
  · rw [hvalve]
    unfold Valve.evaluated Valve.saturation Valve.applied
    dsimp only
    split_ifs <;> rfl
  · rw [show t = _ from s.evaluate_eq v img, State.counter_bump, if_pos rfl, hdone.counter .evaluations]
  · have ht : t = ((s.bump .evalSuppressed).onValve v fun y => { y with sum := 0, n := 0 }).bump .evaluations := by
      rw [show t = _ from s.evaluate_eq v img, State.batchEvaluated, if_pos he]
    refine ⟨?_, by rw [ht]; rfl, ?_⟩
    · rw [hvalve, Valve.evaluated]
      simp only [he, if_true]
    · rw [ht]
      exact ((((Touches.refl (cs := [.evalSuppressed, .evaluations]) s).bump _).onValve v _).bump _).parts
  · have ht : t = (((s.onValve v fun y => { y with satRun := 0, saturated := false }).bump .evalDeadband).onValve v
        fun y => { y with sum := 0, n := 0 }).bump .evaluations := by
      rw [show t = _ from s.evaluate_eq v img, State.batchEvaluated, if_neg (by rw [he]; decide), if_pos hm]
    refine ⟨?_, by rw [ht]; rfl, ?_⟩
    · rw [hvalve, Valve.evaluated, if_neg (by rw [he]; decide), if_pos hm]
    · rw [ht]
      exact (((((Touches.refl (cs := [.evalDeadband, .evaluations]) s).onValve v _).bump _).onValve v _).bump _).parts
  · intro moves epoch state lands run sets
    have hbeyond : s.batchEvaluated v img = (s.applyTrim v next).saturation v img next := by
      rw [State.batchEvaluated, if_neg (by rw [he]; decide), if_neg (Nat.not_le.mpr hm), ← hnext]
    have happlied : (s.applyTrim v next).valve v = x.applied next :=
      (s.applyTrim_valve v next v).trans (if_pos ⟨rfl, hv⟩)
    have hfields : x.applied next = { x with
        trim := next, epoch := epoch, state := state, sends := if moves then 1 else x.sends
        mismatchRun := if moves then 0 else x.mismatchRun } := by
      unfold Valve.applied
      by_cases hn : next = x.trim <;> simp [epoch, state, moves, hn]
    have hsets : (x.applied next).saturates img next = sets := by
      rw [hfields]
      rfl
    refine ⟨?_, ?_⟩
    · rw [hvalve, Valve.evaluated, if_neg (by rw [he]; decide), if_neg (Nat.not_le.mpr hm), hnext,
        Valve.saturation, hsets, hfields]
      by_cases hl : next.natAbs = img.trimLimit <;> simp [hl, lands, run]
    · intro a b
      have ha : a = if next = (s.valve v).trim then s.bump .evalUnchanged
          else (s.toFiller .trimsQueued (.own s.fillerStation 0x53
            ([BitVec.ofNat 8 v, (s.valve v).epoch + 1] ++ signedBE 4 next) false)).bump .trimChanges := by
        by_cases hn : next = x.trim <;> simp [a, epoch, moves, hn, x]
      have hvoice : SameVoice [] b (s.batchEvaluated v img) := by
        have h := SameVoice.saturation_both (img := img) (trim := next) (ha ▸ s.applyTrim_voice v next hv) hv happlied
        rw [hsets, hfields] at h
        rw [hbeyond]
        exact h
      have hend : SameVoice [.evaluations] b t := (hvoice.onValve v _).bump .evaluations
      exact ⟨hend.lif, hend.mga, hend.counts⟩
  · exact (s.evaluate_valve v img i).trans (if_neg fun h => hi h.1)
  · exact ((hdone.mono (List.Subset.refl _) (List.subset_cons_self .evaluations _)).bump .evaluations).parts

end Sys2Proof.Machine
end

section
/-!
The offers of weigh results (04 R91 to R93): the tests in their order, and what a net that is taken does.
-/

namespace Sys2Proof.Machine

/-! ## The recent nets (R92, R93) -/

/-- A spread above a limit is that of two of the nets. -/
theorem lt_spread_iff {nets : List Int} (h : nets ≠ []) (limit : Int) :
    limit < spread nets ↔ ∃ a ∈ nets, ∃ b ∈ nets, limit < a - b := by
  cases nets with
  | nil => exact absurd rfl h
  | cons x xs =>
    obtain ⟨hmax, habove⟩ := List.max?_eq_some_iff.mp (List.max?_cons' (x := x) (xs := xs))
    obtain ⟨hmin, hbelow⟩ := List.min?_eq_some_iff.mp (List.min?_cons' (x := x) (xs := xs))
    constructor
    · exact fun hlt => ⟨_, hmax, _, hmin, hlt⟩
    · rintro ⟨a, ha, b, hb, hlt⟩
      have h1 := habove a ha
      have h2 := hbelow b hb
      simp only [spread]
      omega

theorem joinRecent_eq {recent : List Int} (hl : recent.length ≤ 8) (net : Int) : joinRecent recent net =
    if (recent ++ [net]).length = 9 then (recent ++ [net]).tail else recent ++ [net] := by
  by_cases h : recent.length < 8
  · rw [joinRecent, if_pos h, if_neg (by simp; omega)]
  · rw [joinRecent, if_neg h, if_pos (by simp; omega)]

/-- The ERRATIC of a record at its check (R93). -/
def Valve.isErratic (x : Valve) (img : Image) : Bool :=
  if x.recent.length < 8 then x.erratic else decide ((img.spreadLimit : Int) < spread x.recent)

/-- With 8 nets held the check compares each two of them. -/
theorem Valve.isErratic_eq {x : Valve} (hl : x.recent.length ≤ 8) (img : Image) : x.isErratic img =
    if x.recent.length = 8 then
      x.recent.any fun a => x.recent.any fun b => decide ((img.spreadLimit : Int) < a - b) else x.erratic := by
  unfold Valve.isErratic
  by_cases h8 : x.recent.length = 8
  · have hne : x.recent ≠ [] := fun hn => by simp [hn] at h8
    rw [if_neg (by omega), if_pos h8, Bool.eq_iff_iff]
    simp [lt_spread_iff hne]
  · rw [if_pos (by omega), if_neg h8]

/-- A record once a net is taken (R92, R93). -/
def Valve.withNet (x : Valve) (img : Image) (net : Int) : Valve :=
  { x with recent := joinRecent x.recent net
           erratic := ({ x with recent := joinRecent x.recent net } : Valve).isErratic img
           sum := x.sum + (net - img.target), n := x.n + 1 }

/-! ## The check for ERRATIC (R93) -/

section
variable (s : State) (v : Nat) (img : Image)

theorem State.erraticCheck_valve (i : Nat) : (s.erraticCheck v img).valve i =
    if i = v ∧ v < 96 then { s.valve v with erratic := (s.valve v).isErratic img } else s.valve i := by
  unfold State.erraticCheck Valve.isErratic
  dsimp only
  by_cases hi : i = v ∧ v < 96
  · rw [if_pos hi, hi.1]
    split_ifs with hl hw he
    · rfl
    · rw [decide_eq_true hw, ← he]
    · simp [State.onValve_valve, hi.2, hw]
    · simp [State.onValve_valve, hi.2, hw]
  · rw [if_neg hi]
    split_ifs <;> simp [State.onValve_valve, hi]

theorem State.erraticCheck_touches :
    Touches [.drg, .lif, .mga, .counters] (.valveAlerts :: noticeCounts) s (s.erraticCheck v img) := by
  have h := Touches.refl (ps := [.drg, .lif, .mga, .counters]) (cs := .valveAlerts :: noticeCounts) s
  unfold State.erraticCheck
  dsimp only
  split_ifs
  · exact h
  · exact h
  · exact (h.onValve v _).alert v _
  · exact h.onValve v _

variable {s v}

/-- An alert goes when ERRATIC is newly set (R93). -/
theorem SameVoice.erraticCheck_both {a : State} {cs : List Counter} (h : SameVoice cs a s) (hv : v < 96) {x : Valve}
    (hx : s.valve v = x) : SameVoice cs
      (if x.isErratic img = true ∧ x.erratic = false then
        a.alerted (.valveAlert v .erratic x.trim x.epoch x.state) else a) (s.erraticCheck v img) := by
  unfold State.erraticCheck Valve.isErratic
  simp only [hx]
  by_cases hl : x.recent.length < 8
  · rw [if_pos hl, if_pos hl, if_neg (by simp)]
    exact h
  · by_cases hw : (img.spreadLimit : Int) < spread x.recent
    · by_cases he : x.erratic = true
      · rw [if_neg hl, if_neg hl, if_pos hw, if_pos he, if_neg (by simp [he])]
        exact h
      · have hy : (s.onValve v fun y => { y with erratic := true }).valve v = { x with erratic := true } := by
          simp [State.onValve_valve, hv, hx]
        rw [if_neg hl, if_neg hl, if_pos hw, if_neg he, if_pos ⟨by simpa using hw, by simpa using he⟩]
        exact (h.onValve v _).alert_both hy .erratic
    · rw [if_neg hl, if_neg hl, if_neg hw, if_neg (by simp [hw])]
      exact h.onValve v _

end

/-! ## A net that is taken (R92) -/

/-- `s` once a net of valve `v` is taken, before the batch is evaluated. -/
def State.netTaken (s : State) (tag : Tag) (v : Nat) (img : Image) (net : Int) : State :=
  (((((s.onValve v fun x => { x with recent := joinRecent x.recent net }).erraticCheck v img).onValve v fun x =>
    { x with sum := x.sum + (net - img.target), n := x.n + 1 }).onEntry tag fun e =>
      { e with offered := true })).bump .offersTaken

section
variable (s : State) (tag : Tag) (v : Nat) (img : Image) (net : Int)

theorem State.netTaken_valve (i : Nat) : (s.netTaken tag v img net).valve i =
    if i = v ∧ v < 96 then (s.valve v).withNet img net else s.valve i := by
  unfold State.netTaken Valve.withNet
  by_cases hi : i = v ∧ v < 96
  · rw [if_pos hi, hi.1]
    simp [State.onValve_valve, State.erraticCheck_valve, hi.2]
  · rw [if_neg hi]
    simp [State.onValve_valve, State.erraticCheck_valve, hi]

theorem State.takeNet_eq : s.takeNet tag v img net =
    if img.batch ≤ ((s.netTaken tag v img net).valve v).n then (s.netTaken tag v img net).evaluate v img
    else s.netTaken tag v img net := rfl

/-- `s` before the entry is marked. -/
theorem State.netJoined_touches : Touches [.drg, .lif, .mga, .counters] (.valveAlerts :: noticeCounts) s
    (((s.onValve v fun x => { x with recent := joinRecent x.recent net }).erraticCheck v img).onValve v fun x =>
      { x with sum := x.sum + (net - img.target), n := x.n + 1 }) :=
  (((Touches.refl s).onValve v _).trans (State.erraticCheck_touches _ v img)).onValve v _

theorem State.netTaken_changes :
    s.changesOnly (s.netTaken tag v img net) [.ctr, .drg, .lif, .mga, .counters] := by
  have h := (s.netJoined_touches v img net).mono (ps' := [.ctr, .drg, .lif, .mga, .counters])
    (cs' := .offersTaken :: .valveAlerts :: noticeCounts) (by decide) (by decide)
  exact ((h.onEntry tag _).bump .offersTaken).parts

theorem State.netTaken_ctr : (s.netTaken tag v img net).ctr =
    { s.ctr with queue := s.ctr.queue.map fun y => if y.tag = tag then { y with offered := true } else y } := by
  have h := (s.netJoined_touches v img net).part .ctr
  rw [State.netTaken, State.bump_ctr, State.onEntry, State.onCtr_ctr, h]
  simp

theorem State.netTaken_offersTaken :
    (s.netTaken tag v img net).counter .offersTaken = satInc (s.counter .offersTaken) := by
  rw [State.netTaken, State.counter_bump, if_pos rfl]
  exact congrArg satInc ((s.netJoined_touches v img net).counter .offersTaken)

theorem State.evaluate_touches : Touches [.drg, .lif, .mga, .counters] (.evaluations :: evaluationCounts) s
    (s.evaluate v img) :=
  (((s.batchEvaluated_touches v img).onValve v _).mono (List.Subset.refl _)
    (List.subset_cons_self .evaluations _)).bump .evaluations

/-- The evaluation touches neither the entries nor the count of the nets taken. -/
theorem State.takeNet_keeps : (s.takeNet tag v img net).ctr = (s.netTaken tag v img net).ctr ∧
    (s.takeNet tag v img net).counter .offersTaken = (s.netTaken tag v img net).counter .offersTaken := by
  have h := (s.netTaken tag v img net).evaluate_touches v img
  rw [State.takeNet_eq]
  split_ifs
  · exact ⟨h.part .ctr, h.counter .offersTaken⟩
  · exact ⟨rfl, rfl⟩

variable {s v}

/-- A net that is taken sends no more than the alert of an ERRATIC that it sets. -/
theorem SameVoice.netTaken_both {a : State} (h : SameVoice [] a s) (hv : v < 96) {x : Valve} (hx : s.valve v = x) :
    SameVoice [.offersTaken]
      (if (x.withNet img net).erratic = true ∧ x.erratic = false then
        a.alerted (.valveAlert v .erratic x.trim x.epoch x.state) else a) (s.netTaken tag v img net) := by
  have hy : (s.onValve v fun x => { x with recent := joinRecent x.recent net }).valve v =
      { x with recent := joinRecent x.recent net } := by simp [State.onValve_valve, hv, hx]
  exact ((((h.onValve v _).erraticCheck_both img hv hy).onValve v _).onEntry tag _).bump .offersTaken

end

/-! ## The tests of an offer (R91) -/

/-- `s` once a result of valve `v` is counted as weighed, if it has a net (R105). -/
def State.weighedAt (s : State) (v : Nat) (w : WeighResult) : State :=
  if w.net = none then s else s.onValve v fun x => { x with weighed := satInc x.weighed }

section
variable {s : State} {e : Entry} {v : Nat} (w : WeighResult)

theorem State.offer_unfilled (h : e.origin = .stray ∨ e.valve = none) : s.offer e w = s := by
  unfold State.offer
  rcases h with h | h
  · simp [h]
  · cases e.origin <;> simp [h]

theorem State.offer_filled (ho : e.origin = .filled) (hv : e.valve = some v) : s.offer e w =
    if s.valveCount ≤ v then s else (s.weighedAt v w).testOffer e v w := by
  unfold State.offer State.weighedAt State.inert
  rw [ho, hv]
  cases w.net <;> simp

theorem State.weighedAt_valve (i : Nat) : (s.weighedAt v w).valve i = if i = v ∧ v < 96 then
    { s.valve v with weighed := if w.net = none then (s.valve v).weighed else satInc (s.valve v).weighed }
    else s.valve i := by
  unfold State.weighedAt
  split_ifs with hn hi hi
  · rw [hi.1]
  · rfl
  · rw [State.onValve_valve, if_pos hi]
  · rw [State.onValve_valve, if_neg hi]

theorem State.weighedAt_touches (s : State) (v : Nat) : Touches [.drg] [] s (s.weighedAt v w) := by
  unfold State.weighedAt
  split_ifs
  · exact .refl s
  · exact (Touches.refl s).onValve v _

theorem State.weighedAt_voice (s : State) (v : Nat) : SameVoice [] s (s.weighedAt v w) := by
  unfold State.weighedAt
  split_ifs
  · exact .refl s
  · exact (SameVoice.refl s).onValve v _

variable {w} {k : SlotId}

theorem State.testOffer_held (h : s.sup.holdDrg = true) : s.testOffer e v w = s.bump .offersHeld := if_pos h

theorem State.testOffer_otherSlot (h : s.sup.holdDrg = false) (hk : e.slot = none ∨ s.activeSlot ≠ e.slot) :
    s.testOffer e v w = s.bump .offersOtherSlot := by
  rw [State.testOffer, if_neg (by simp [h])]
  split
  · rfl
  · rename_i k hslot
    exact if_pos (hslot ▸ hk.resolve_left (by simp [hslot]))

variable (h : s.sup.holdDrg = false) (hk : e.slot = some k) (ha : s.activeSlot = some k)
include h hk ha

theorem State.testOffer_unfit (hw : w.status ≠ .ok ∨ w.zone = some .grossUnder ∨ w.zone = some .grossOver) :
    s.testOffer e v w = s.bump .offersUnfit := by
  rw [State.testOffer, if_neg (by simp [h]), hk]
  exact (if_neg (by simp [ha])).trans (if_pos hw)

variable (hw : ¬ (w.status ≠ .ok ∨ w.zone = some .grossUnder ∨ w.zone = some .grossOver))
include hw

/-- The last three tests, those of the valve's mode and of the entry's epoch. -/
theorem State.testOffer_fit : s.testOffer e v w =
    if (s.valve v).mode = .excluded then s.bump .offersExcluded
    else if e.stale then (s.onValve v fun x => { x with stale := satInc x.stale }).bump .offersStale
    else if e.epoch ≠ some (s.valve v).epoch then
      (s.onValve v fun x => { x with stale := satInc x.stale }).bump .offersSuperseded
    else s.takeNet e.tag v (s.image k) (w.net.getD 0) := by
  rw [State.testOffer, if_neg (by simp [h]), hk]
  exact (if_neg (by simp [ha])).trans (if_neg hw)

end

/-- Settles O43. -/
theorem offersPassTheTests : Obligations.OffersPassTheTests := by
  intro s e w v
  refine ⟨State.offer_unfilled w, fun ho hv hin => (State.offer_filled w ho hv).trans (if_pos hin),
    fun ho hval hlt hv => ?_⟩
  intro u stale
  have hu : s.offer e w = u.testOffer e v w := (State.offer_filled w ho hval).trans (if_neg (Nat.not_le.mpr hlt))
  have htouch : Touches [.drg] [] s u := s.weighedAt_touches w v
  have hvalve : ∀ i, u.valve i = if i = v ∧ v < 96 then
      { s.valve v with weighed := if w.net = none then (s.valve v).weighed else satInc (s.valve v).weighed }
      else s.valve i := State.weighedAt_valve w
  have hx := (hvalve v).trans (if_pos ⟨rfl, hv⟩)
  have hsup : u.sup = s.sup := htouch.part .sup
  have hrcs : u.rcs = s.rcs := htouch.part .rcs
  have hactive : u.activeSlot = s.activeSlot := by simp only [State.activeSlot, State.slotIn, hrcs]
  have himage : ∀ k, u.image k = s.image k := fun k => by rw [State.image, hrcs, State.image]
  refine ⟨fun hh => ?_, fun hh hk => ?_, fun k hh hk ha => ⟨fun hw => ?_, fun hw1 hw2 hw3 => ?_⟩⟩
  · rw [hu, State.testOffer_held (hsup ▸ hh)]
  · rw [hu, State.testOffer_otherSlot (hsup ▸ hh) (hactive ▸ hk)]
  · rw [hu, State.testOffer_unfit (hsup ▸ hh) hk (hactive.trans ha) hw]
  · have hfit := hu.trans (State.testOffer_fit (v := v) (hsup ▸ hh) hk (hactive.trans ha)
      (not_or.mpr ⟨not_not.mpr hw1, not_or.mpr ⟨hw2, hw3⟩⟩))
    have hmode : (u.valve v).mode = (s.valve v).mode := by rw [hx]
    have hepoch : (u.valve v).epoch = (s.valve v).epoch := by rw [hx]
    have hincluded : (s.valve v).mode = .included → (u.valve v).mode ≠ .excluded := fun h => by
      rw [hmode, h]
      decide
    rw [hfit]
    refine ⟨fun hm => if_pos (hmode.trans hm), fun hm hs => ?_, fun hm hs he => ?_, fun hm hs he => ?_⟩
    · rw [if_neg (hincluded hm), if_pos hs]
      rfl
    · rw [if_neg (hincluded hm), if_neg (by simp [hs]), if_pos (hepoch.symm ▸ he)]
      rfl
    · rw [if_neg (hincluded hm), if_neg (by simp [hs]), if_neg (by simp [he, hepoch]), himage]
      let c := u.netTaken e.tag v (s.image k) (w.net.getD 0)
      have hc : c.valve v = (u.valve v).withNet (s.image k) (w.net.getD 0) :=
        (u.netTaken_valve _ v _ _ v).trans (if_pos ⟨rfl, hv⟩)
      have hn : (c.valve v).n = (s.valve v).n + 1 := by rw [hc, hx]; rfl
      obtain ⟨hkctr, hkcount⟩ := u.takeNet_keeps e.tag v (s.image k) (w.net.getD 0)
      refine ⟨?_, fun hb => ?_, ?_, ?_⟩
      · rw [hkcount, State.netTaken_offersTaken, htouch.counter .offersTaken]
      · rw [State.takeNet_eq, if_neg (by rw [hn]; omega)]
        change (c.valve v).sum = _ ∧ (c.valve v).n = _ ∧ (c.valve v).trim = _
        rw [hc, hx]
        exact ⟨rfl, rfl, rfl⟩
      · rw [hkctr, State.netTaken_ctr, htouch.part .ctr]
      · intro net hnet hl x img nets recent wide erratic
        have hl' : x.recent.length ≤ 8 := by rw [show x = _ from hx]; exact hl
        have hrecent : joinRecent x.recent net = recent := joinRecent_eq hl' net
        have herratic : (x.withNet img net).erratic = erratic := by
          have hlen := joinRecent_length net hl'
          rw [hrecent] at hlen
          simp only [Valve.withNet, hrecent]
          exact Valve.isErratic_eq (x := { x with recent := recent }) hlen img
        have hc' : c = u.netTaken e.tag v img net := by simp only [c, hnet, Option.getD_some, img]
        refine ⟨c, ?_, ?_, fun i _ hi => ?_, ?_, ?_⟩
        · rw [State.takeNet_eq]
          change (if img.batch ≤ (c.valve v).n then c.evaluate v img else c) = _
          rw [hn, show x.n = (s.valve v).n by rw [show x = _ from hx]]
        · rw [hc, hnet, Option.getD_some]
          change x.withNet img net = _
          rw [← herratic, ← hrecent]
          rfl
        · exact ((u.netTaken_valve _ v _ _ i).trans (if_neg fun h => hi h.1)).trans
            ((hvalve i).trans (if_neg fun h => hi h.1))
        · intro a
          have hvoice := (s.weighedAt_voice w v).netTaken_both e.tag img net hv (x := x) rfl
          rw [herratic] at hvoice
          rw [hc']
          exact ⟨hvoice.lif, hvoice.mga, hvoice.counts⟩
        · exact (htouch.mono (ps' := [.ctr, .drg, .lif, .mga, .counters]) (cs' := []) (by decide)
            (List.Subset.refl _)).parts.trans (State.netTaken_changes ..)

end Sys2Proof.Machine
end

section
/-!
The trims stay within their limits (04 R84, R95, R102): what moves a trim, what moves a slot, and every command.
-/

namespace Sys2Proof.Machine

/-! ## An offer (R91 to R95) -/

theorem State.trimsWithin.ite {p : Prop} [Decidable p] {s t : State} (hs : s.trimsWithin) (ht : t.trimsWithin) :
    (if p then s else t).trimsWithin := by
  split
  · exact hs
  · exact ht

/-- One trim moves within the limit of the ACTIVE recipe. -/
theorem State.trimsWithin.moved {s t : State} {k : SlotId} {v : Nat} (hs : s.trimsWithin)
    (ht : s.changesOnly t [.ctr, .drg, .lif, .mga, .counters]) (hk : s.activeSlot = some k)
    (hd : s.sup.holdDrg = false) (hv : v < s.valveCount) (htrim : ∀ i, (t.valve i).trim = (s.valve i).trim ∨
      i = v ∧ -((s.image k).trimLimit : Int) ≤ (t.valve i).trim ∧ (t.valve i).trim ≤ (s.image k).trimLimit) :
    t.trimsWithin := by
  have hrcs : t.rcs = s.rcs := ht.2 .rcs (by decide)
  have hsup : t.sup = s.sup := ht.2 .sup (by decide)
  have hsetup : t.setup = s.setup := ht.2 .setup (by decide)
  obtain ⟨hone, hlimit, hinert, hheld⟩ := hs
  refine ⟨hrcs ▸ hone, fun j hj i hi => ?_, fun i hi hn => ?_, fun hh => ?_⟩
  · have hjk : j = k := by
      rw [State.activeSlot, State.slotIn, hrcs] at hj
      exact Option.some.inj (hj.symm.trans hk)
    rw [hjk, State.image, hrcs]
    rcases htrim i with h | ⟨_, h⟩
    · rw [h]
      exact hlimit k hk i hi
    · exact h
  · rw [State.valveCount, hsetup] at hn
    rcases htrim i with h | ⟨rfl, _⟩
    · rw [h]
      exact hinert i hi hn
    · exact absurd hv (Nat.not_lt.mpr hn)
  · rw [hsup, hd] at hh
    cases hh

/-- A net that is taken moves no trim but its own valve's, and that within the limit. -/
theorem State.takeNet_trim (s : State) (tag : Tag) (v : Nat) (img : Image) (net : Int) (i : Nat) :
    ((s.takeNet tag v img net).valve i).trim = (s.valve i).trim ∨ i = v ∧
      -(img.trimLimit : Int) ≤ ((s.takeNet tag v img net).valve i).trim ∧
      ((s.takeNet tag v img net).valve i).trim ≤ img.trimLimit := by
  have hnet : ∀ j, ((s.netTaken tag v img net).valve j).trim = (s.valve j).trim := fun j => by
    rw [State.netTaken_valve]
    split_ifs with hj
    · rw [hj.1]
      rfl
    · rfl
  rw [State.takeNet_eq]
  split_ifs
  · rw [State.evaluate_valve]
    split_ifs with hi
    · rw [← hnet i, hi.1]
      exact (Valve.evaluated_trim _ img).imp_right fun h => ⟨rfl, h⟩
    · exact .inl (hnet i)
  · exact .inl (hnet i)

theorem State.takeNet_changes (s : State) (tag : Tag) (v : Nat) (img : Image) (net : Int) :
    s.changesOnly (s.takeNet tag v img net) [.ctr, .drg, .lif, .mga, .counters] := by
  rw [State.takeNet_eq]
  split_ifs
  · exact (s.netTaken_changes tag v img net).trans
      ((State.evaluate_touches _ v img).mono (by decide) (List.Subset.refl _)).parts
  · exact s.netTaken_changes tag v img net

theorem State.trimsWithin.testOffer {s : State} (hs : s.trimsWithin) (e : Entry) {v : Nat} (hv : v < s.valveCount)
    (w : WeighResult) : (s.testOffer e v w).trimsWithin := by
  unfold State.testOffer
  by_cases hh : s.sup.holdDrg = true
  · rw [if_pos hh]
    exact hs.same (by simp)
  · rw [if_neg hh]
    split
    · exact hs.same (by simp)
    · rename_i k _
      by_cases hk : s.activeSlot = some k
      · rw [if_neg (not_not.mpr hk)]
        have htaken := hs.moved (s.takeNet_changes e.tag v (s.image k) (w.net.getD 0)) hk
          (Bool.eq_false_iff.mpr hh) hv (s.takeNet_trim e.tag v (s.image k) (w.net.getD 0))
        exact .ite (hs.same (by simp)) (.ite (hs.same (by simp)) (.ite (hs.same (by simp))
          (.ite (hs.same (by simp)) htaken)))
      · rw [if_pos hk]
        exact hs.same (by simp)

theorem State.trimsWithin.offer {s : State} (hs : s.trimsWithin) (e : Entry) (w : WeighResult) :
    (s.offer e w).trimsWithin := by
  unfold State.offer
  split
  · rename_i v _ _
    split
    · exact hs
    · rename_i hv
      have hlt : v < s.valveCount := by simpa [State.inert] using hv
      have hweighed := hs.same (s.onValve_dosing v (fun x => { x with weighed := satInc x.weighed }) rfl)
      split_ifs
      · exact hweighed.testOffer e hlt w
      · exact hs.testOffer e hlt w
  · exact hs

/-! ## Points and arrivals -/

section
variable {s : State} (hs : s.trimsWithin)
include hs

theorem State.trimsWithin.endWindow (tag : Tag) : (s.endWindow tag).trimsWithin := by
  unfold State.endWindow
  split
  · exact hs
  · dsimp only
    split
    · exact hs.same (by simp)
    · exact State.trimsWithin.offer (hs.same (by simp)) _ _

theorem State.trimsWithin.point (p : Point) (tag : Tag) : (p.act s tag).trimsWithin := by
  cases p
  case endOfWindow => exact hs.endWindow tag
  case readTrigger => exact hs.same (s.readTrigger_dosing tag)
  case platformEntry => exact hs.same (s.platformEntry_dosing tag)
  case settle => exact hs.same (s.settle_dosing tag)
  case exit => exact hs.same (s.leavePlatform_dosing tag)
  case decision => exact hs.same (s.decisionPoint_dosing tag)
  case gate => exact hs.same (s.gatePoint_dosing tag)
  case confirmClose => exact hs.same (s.confirmCloses_dosing tag)

theorem State.trimsWithin.atPoint (p : Point) (tag : Tag) : (s.atPoint tag p p.act).trimsWithin :=
  .ite (State.trimsWithin.point (hs.same (by simp)) p tag) hs

/-- What every state of a fold keeps. -/
theorem State.trimsWithin.foldl {α : Type} (l : List α) {f : State → α → State}
    (hf : ∀ u a, u.trimsWithin → (f u a).trimsWithin) : (l.foldl f s).trimsWithin := by
  induction l generalizing s with
  | nil => exact hs
  | cons a l ih => exact ih (hf s a hs)

theorem State.trimsWithin.arrived (tag : Tag) (slot : Option SlotId) : (s.arrived tag slot).trimsWithin := by
  have hoff : (s.handOff tag slot).trimsWithin := hs.same (by simp)
  unfold State.arrived State.announceGoneBy
  split
  · exact hoff
  · refine hoff.foldl _ fun u p hu => ?_
    unfold State.announce
    split
    · exact hu
    · exact hu.point p tag

theorem State.trimsWithin.strayArrives (q : Pos) : (s.strayArrives q).trimsWithin :=
  .ite (State.trimsWithin.arrived (hs.same (by simp)) _ _) (hs.same (by simp))

theorem State.trimsWithin.infeedArrives (q : Pos) : (s.infeedArrives q).trimsWithin := by
  have hcount : (s.bump .arrivals).trimsWithin := hs.same (by simp)
  refine .ite (hs.same (by simp)) ?_
  split
  · exact hcount.strayArrives q
  · exact .ite (State.trimsWithin.arrived (hcount.same (by simp)) _ _) (hcount.strayArrives q)

theorem State.trimsWithin.takeOutstanding : s.takeOutstanding.trimsWithin := by
  have hin : s.takeInfeed.trimsWithin :=
    hs.foldl _ fun u q hu => State.trimsWithin.infeedArrives (hu.same (by simp)) q
  have hconfirm : s.takeInfeed.takeConfirm.trimsWithin := hin.foldl _ fun u y hu => hu.same (by simp)
  have hexpired : s.takeInfeed.takeConfirm.takeExpiries.trimsWithin := hconfirm.same (State.expireAll_dosing _ _)
  exact hexpired.foldl _ fun u d hu => hu.atPoint d.point d.tag

theorem State.trimsWithin.encoderChange (a b : Bool) : (s.encoderChange a b).trimsWithin := by
  have hall : (s.onPins fun p => { p with encA := a, encB := b }).takeOutstanding.trimsWithin :=
    State.trimsWithin.takeOutstanding (hs.same (by simp))
  exact .ite (hall.same (by simp)) (.ite (hall.same (by simp)) (hall.same (by simp)))

theorem State.trimsWithin.eyeChanged (eye : Eye) : (s.eyeChanged eye).trimsWithin :=
  .ite (State.trimsWithin.same (.ite hs.takeOutstanding hs) (State.eyeBlocks_dosing _ eye)) (hs.same (by simp))

/-! ## Slots (06 R128, R130, R136 to R141) -/

/-- A slot that is not ACTIVE afterwards bears on no limit. -/
theorem State.trimsWithin.onSlot {k : SlotId} {f : Slot → Slot} (hf : (f (s.rcs.slot k)).state ≠ .active) :
    (s.onSlot k f).trimsWithin := by
  obtain ⟨hone, hlimit, hinert, hheld⟩ := hs
  have hkept : ∀ j, ((s.onSlot k f).rcs.slot j).state = .active →
      (s.onSlot k f).rcs.slot j = s.rcs.slot j := fun j hj => by
    rw [State.onSlot_slot] at hj ⊢
    split at hj
    · exact absurd hj hf
    · rename_i hjk
      exact if_neg hjk
  have hactive : ∀ j, ((s.onSlot k f).rcs.slot j).state = .active → (s.rcs.slot j).state = .active := fun j hj =>
    hkept j hj ▸ hj
  refine ⟨fun hb => hone ⟨hactive .s0 hb.1, hactive .s1 hb.2⟩, fun j hj v hv => ?_, hinert, hheld⟩
  have hj' := State.activeSlot_active hj
  have hsj : s.activeSlot = some j := by
    have hja := hactive j hj'
    unfold State.activeSlot State.slotIn
    cases j
    · exact if_pos hja
    · rw [if_neg fun h0 => hone ⟨h0, hja⟩]
      exact if_pos hja
  rw [State.image, hkept j hj']
  exact hlimit j hsj v hv

end

/-- Trims that are all 0 lie within every limit. -/
theorem State.trimsWithin_zero {s : State} (hone : ¬ (s.rcs.slot0.state = .active ∧ s.rcs.slot1.state = .active))
    (hz : ∀ v < 96, (s.valve v).trim = 0) : s.trimsWithin := by
  refine ⟨hone, fun k _ v hv => ?_, fun v hv _ => hz v hv, fun _ => hz⟩
  rw [hz v hv]
  omega

/-- The clear of the table leaves no trim, the inert valves' being 0 before (R84, R99). -/
theorem State.clearTable_trim {s : State} (hinert : ∀ v < 96, s.valveCount ≤ v → (s.valve v).trim = 0) (id : Nat)
    {v : Nat} (hv : v < 96) : ((s.clearTable id).valve v).trim = 0 := by
  have h : (s.clearTable id).valve v = s.tableCleared.valve v := State.valve_congr (State.sendTrimClear_drg _ id) v
  rw [h, State.tableCleared_valve s hv]
  split_ifs with hlt
  · rfl
  · exact hinert v hv (Nat.not_lt.mp hlt)

theorem State.clearTable_rcs (s : State) (id : Nat) : (s.clearTable id).rcs = s.rcs :=
  ((SameCans.refl s).clearTable id).rcs

theorem State.changeTo_eq (s : State) (k : SlotId) : s.changeTo k =
    ((if (s.activated k).sup.holdDrg then s.activated k
      else (s.activated k).clearTable ((s.activated k).image k).recipeId).drainCheck k.other .atDrain).bump
      .changeovers := rfl

/-- What an activation leaves but the slots. -/
theorem State.activated_touches (s : State) (k : SlotId) : Touches [.rcs] [] s (s.activated k) := by
  unfold State.activated
  dsimp only
  split_ifs
  · exact ((Touches.refl s).onRcs _).onRcs _
  · exact (Touches.refl s).onRcs _

theorem State.activated_one (s : State) (k : SlotId) :
    ¬ ((s.activated k).rcs.slot0.state = .active ∧ (s.activated k).rcs.slot1.state = .active) := by
  have hother : ((s.activated k).rcs.slot k.other).state ≠ .active := by
    rw [State.activated_slot, if_neg (SlotId.other_ne k)]
    split_ifs with h
    · simp
    · exact h
  cases k
  · exact fun h => hother h.2
  · exact fun h => hother h.1

section
variable {s : State} (hs : s.trimsWithin)
include hs

/-- A changeover starts with every trim at 0 (R99, R102). -/
theorem State.trimsWithin.changeTo (k : SlotId) : (s.changeTo k).trimsWithin := by
  obtain ⟨_, _, hinert, hheld⟩ := hs
  have ht := s.activated_touches k
  have hvalve : ∀ v, (s.activated k).valve v = s.valve v := State.valve_congr (ht.part .drg)
  have hcount : (s.activated k).valveCount = s.valveCount := congrArg (setupNum · 47 1) (ht.part .setup)
  have hone := s.activated_one k
  rw [State.changeTo_eq]
  refine State.trimsWithin.same (s := if (s.activated k).sup.holdDrg then s.activated k
      else (s.activated k).clearTable ((s.activated k).image k).recipeId) ?_ (by simp)
  split_ifs with hh
  · rw [show (s.activated k).sup = s.sup from ht.part .sup] at hh
    exact State.trimsWithin_zero hone fun v hv => (hvalve v).symm ▸ hheld hh v hv
  · refine State.trimsWithin_zero (by rwa [State.clearTable_rcs]) fun v hv => ?_
    exact State.clearTable_trim (fun i hi hn => (hvalve i).symm ▸ hinert i hi (hcount ▸ hn)) _ hv

theorem State.trimsWithin.stopProduct (k : SlotId) : (s.stopProduct k).trimsWithin :=
  State.trimsWithin.same (hs.onSlot (k := k) (f := fun x => { x with state := .draining }) (by simp))
    (by simp [State.stopProduct])

/-! ## Holds and releases (04 R102, R104) -/

theorem State.trimsWithin.hold (b : Block) : ((s.setHold b true).holdAction b).trimsWithin := by
  cases b
  case wge => exact hs.same ((State.holdWgeBlock_dosing _).trans (s.onSup_dosing _ rfl))
  case cck => exact hs.same ((State.holdCckBlock_dosing _).trans (s.onSup_dosing _ rfl))
  case drg =>
    refine State.trimsWithin_zero hs.1 fun v hv => ?_
    exact congrArg Valve.trim ((s.setHold .drg true).onValves_valve (fun _ x => x.heldReset) hv)
  all_goals exact hs

theorem State.trimsWithin.release (b : Block) : ((s.setHold b false).releaseAction b).trimsWithin := by
  cases b
  case wge => exact hs.same (s.onSup_dosing _ rfl)
  case cck => exact hs.same (s.onSup_dosing _ rfl)
  case drg =>
    obtain ⟨hone, _, hinert, _⟩ := hs
    refine State.trimsWithin_zero ?_ fun v hv =>
      State.clearTable_trim (s := s.setHold .drg false) (fun i hi hn => hinert i hi hn) 0 hv
    rw [show (s.setHold .drg false).releaseAction .drg = (s.setHold .drg false).clearTable 0 from rfl,
      State.clearTable_rcs]
    exact hone
  all_goals exact hs

end

/-! ## A written setup (04 R85; 08 R171) -/

theorem State.ifChanged_dosing (s : State) (old : SetupImage) (off size : Nat) {f : State → State}
    (hf : ∀ u, (f u).dosing = u.dosing) : (s.ifChanged old off size f).dosing = s.dosing := by
  unfold State.ifChanged
  split_ifs
  · rfl
  · exact hf s

/-- The effects of a written setup before that of the valve count. -/
def State.effectsBeforeValves (s : State) (old : SetupImage) : State :=
  ((((((s.eyeEffects old).ifChanged old 28 1 State.emptyFilter).ifChanged old 29 1 State.emptyFilter).ifChanged
    old 30 1 State.clearEmpty).ifChanged old 42 1 State.restartBin).ifChanged old 43 1 State.restartAir)

theorem State.setupEffects_split (s : State) (old : SetupImage) : s.setupEffects old =
    (s.effectsBeforeValves old).ifChanged old 47 1 fun t =>
      t.valveCountChanged (setupNum old 47 1) t.valveCount := rfl

theorem State.effectsBeforeValves_dosing (s : State) (old : SetupImage) :
    (s.effectsBeforeValves old).dosing = s.dosing := by
  have heyes : (s.eyeEffects old).dosing = s.dosing := by
    unfold State.eyeEffects
    rw [State.ifChanged_dosing _ _ _ _ fun u => u.polarityChanged_dosing _,
      State.ifChanged_dosing _ _ _ _ fun u => u.polarityChanged_dosing _, State.ifChanged_dosing]
    exact fun u => by simp
  unfold State.effectsBeforeValves
  rw [State.ifChanged_dosing _ _ _ _ fun u => u.restartAir_dosing,
    State.ifChanged_dosing _ _ _ _ fun u => u.restartBin_dosing,
    State.ifChanged_dosing _ _ _ _ fun u => u.clearEmpty_dosing,
    State.ifChanged_dosing _ _ _ _ fun u => u.emptyFilter_dosing,
    State.ifChanged_dosing _ _ _ _ fun u => u.emptyFilter_dosing, heyes]

theorem State.valveCountChanged_trim (s : State) (old new : Nat) {v : Nat} (hv : v < 96) :
    ((s.valveCountChanged old new).valve v).trim =
      if min old new ≤ v ∧ v < max old new then 0 else (s.valve v).trim := by
  rw [State.valveCountChanged, State.onValves_valve _ _ hv]
  split_ifs <;> rfl

/-- A record between the old and the new valve count is reset, so the inert trims are 0 under the new count too. -/
theorem State.trimsWithin.written {s : State} (hs : s.trimsWithin) (f : SetupImage → SetupImage) :
    ((s.onSetup f).setupEffects s.setup).trimsWithin := by
  have hw : ((s.onSetup f).effectsBeforeValves s.setup).dosing = (s.onSetup f).dosing :=
    State.effectsBeforeValves_dosing _ _
  rw [State.setupEffects_split]
  generalize (s.onSetup f).effectsBeforeValves s.setup = w at hw
  have htrim : ∀ v, (w.valve v).trim = (s.valve v).trim :=
    State.trim_of_dosing (s := s.onSetup f) hw
  unfold State.ifChanged
  split_ifs with hcount
  · refine hs.same (hw.trans ?_)
    have h : (s.onSetup f).valveCount = s.valveCount :=
      (State.valveCount_of_dosing (s := s.onSetup f) hw).symm.trans hcount.symm
    simp only [State.dosing, h]
    rfl
  · obtain ⟨hone, hlimit, hinert, hheld⟩ := hs
    have hactive : ∀ k, (w.rcs.slot k).state = .active ↔ (s.rcs.slot k).state = .active :=
      State.active_of_dosing (s := s.onSetup f) hw
    refine ⟨fun hb => hone ⟨(hactive .s0).mp hb.1, (hactive .s1).mp hb.2⟩, fun k hk v hv => ?_, fun v hv hn => ?_,
      fun hh v hv => ?_⟩
    · have hks : s.activeSlot = some k := (State.activeSlot_congr hactive).symm.trans hk
      have himage : (w.valveCountChanged (setupNum s.setup 47 1) w.valveCount).image k = s.image k :=
        State.image_of_dosing (s := s.onSetup f) hw k
      rw [State.valveCountChanged_trim _ _ _ hv, himage]
      split_ifs
      · omega
      · rw [htrim]
        exact hlimit k hks v hv
    · rw [State.valveCountChanged_trim _ _ _ hv]
      split_ifs with hin
      · rfl
      · rw [htrim]
        refine hinert v hv ?_
        have hn' : w.valveCount ≤ v := hn
        change setupNum s.setup 47 1 ≤ v
        omega
    · have hh' : s.sup.holdDrg = true := (State.held_of_dosing (s := s.onSetup f) hw).symm.trans hh
      rw [State.valveCountChanged_trim _ _ _ hv, htrim, hheld hh' v hv, ite_self]

end Sys2Proof.Machine
end

section
/-!
Every command keeps the trims within their limits.
-/

namespace Sys2Proof.Machine

/-! ## Requests -/

/-- A request's own work keeps the trims within their limits. -/
def KeepsTrims (act : State → List Byte → Answer) : Prop :=
  ∀ (u : State) (args : List Byte), u.trimsWithin → (act u args).state.trimsWithin

theorem State.trimsWithin.serveWhere {s : State} (hs : s.trimsWithin) (p : Byte → Bool)
    {act : State → List Byte → Answer} (h : KeepsTrims act) : (s.serveWhere p act).trimsWithin := by
  unfold State.serveWhere
  split
  · exact hs
  · exact .ite (State.trimsWithin.same (h _ _ (hs.same s.takeRequest_dosing)) (replyTo_dosing ..)) hs

/-- A request that may start an operation. -/
theorem State.trimsWithin.serveLong {s : State} (hs : s.trimsWithin) (code : Byte)
    {act : State → List Byte → Answer ⊕ (State × Operation)}
    (h : ∀ (u : State) (args : List Byte), u.trimsWithin → (act u args).elim (fun a => a.state.trimsWithin)
      fun x => x.1.trimsWithin) : (s.serveLong code act).trimsWithin := by
  unfold State.serveLong
  split
  · exact hs
  · rename_i r _
    have hact := h _ r.args (hs.same s.takeRequest_dosing)
    refine .ite ?_ hs
    cases ha : act s.takeRequest r.args with
    | inl a =>
      rw [ha] at hact
      exact State.trimsWithin.same hact (replyTo_dosing ..)
    | inr x =>
      rw [ha] at hact
      exact State.trimsWithin.same hact (State.onMga_dosing _ _)

/-- A request that leaves the dosing as it is. -/
theorem KeepsTrims.of_dosing {act : State → List Byte → Answer}
    (h : ∀ u args, (act u args).state.dosing = u.dosing) : KeepsTrims act := fun u args hu => hu.same (h u args)

/-! The requests that only read. -/

theorem keepsTrims_readPlatform : KeepsTrims serveReadPlatform := fun u args hu => by
  unfold serveReadPlatform
  split <;> exact hu

theorem keepsTrims_readValve : KeepsTrims serveReadValve := fun u args hu => by
  unfold serveReadValve
  split
  · split <;> exact hu
  · exact hu

theorem keepsTrims_readSetup : KeepsTrims serveReadSetup := fun u args hu => by
  unfold serveReadSetup
  split
  · split <;> exact hu
  · exact hu

theorem keepsTrims_readPassEntry : KeepsTrims serveReadPassEntry := fun u args hu => by
  unfold serveReadPassEntry
  split
  · split <;> exact hu
  · exact hu

theorem keepsTrims_readRecipe : KeepsTrims serveReadRecipe := fun u args hu => by
  unfold serveReadRecipe
  split
  · split
    · exact hu
    · split <;> exact hu
  · exact hu

theorem keepsTrims_readCal : KeepsTrims serveReadCal := fun u args hu => by
  unfold serveReadCal
  split <;> exact hu

theorem keepsTrims_readState : KeepsTrims serveReadState := fun u args hu => by
  unfold serveReadState
  split
  · exact State.trimsWithin.ite (hu.same u.drawn_dosing) hu
  · exact hu

/-- Every record changed but for its trim. -/
theorem State.onValves_dosing (s : State) {f : Nat → Valve → Valve} (hf : ∀ i x, (f i x).trim = x.trim) :
    (s.onValves f).dosing = s.dosing := by
  have htrim : ∀ i, ((s.onValves f).valve i).trim = (s.valve i).trim := fun i => by
    by_cases hi : i < 96
    · rw [State.onValves_valve _ _ hi, hf]
    · rw [State.valve_eq_getElem, State.valve_eq_getElem, Vector.getElem?_eq_none (by omega),
        Vector.getElem?_eq_none (by omega)]
  simp only [State.dosing, htrim]
  rfl

theorem State.clearValveCounters_dosing (s : State) : s.clearValveCounters.dosing = s.dosing :=
  s.onValves_dosing fun _ _ => rfl

theorem State.clearGroup_dosing (s : State) (b : Block) : (s.clearGroup b).dosing = s.dosing := by
  unfold State.clearGroup
  dsimp only
  split_ifs
  · rw [State.clearValveCounters_dosing, State.clearCounters_dosing]
  · rfl

theorem keepsTrims_readCounters : KeepsTrims serveReadCounters := fun u args hu => by
  unfold serveReadCounters
  split
  · split
    · exact State.trimsWithin.ite (hu.same (u.clearGroup_dosing _)) hu
    · exact hu
  · exact hu

theorem keepsTrims_clearCounters : KeepsTrims serveClearCounters := .of_dosing fun u args => by
  unfold serveClearCounters
  split
  · split_ifs
    · exact State.clearValveCounters_dosing _
    · split
      · exact u.clearGroup_dosing _
      · rfl
  · rfl

theorem keepsTrims_writePassEntry : KeepsTrims serveWritePassEntry := .of_dosing fun u args => by
  unfold serveWritePassEntry
  split
  · split
    · rfl
    · split_ifs <;> rfl
  · rfl

theorem keepsTrims_startTracking : KeepsTrims serveStartTracking := .of_dosing fun u args => by
  unfold serveStartTracking
  split
  · split_ifs
    · rfl
    · split <;> rfl
  · rfl

theorem keepsTrims_stopTracking : KeepsTrims serveStopTracking := .of_dosing fun u args => by
  unfold serveStopTracking
  split
  · exact (State.onCtr_dosing _ _).trans u.flush_dosing
  · rfl

theorem keepsTrims_flushTracking : KeepsTrims serveFlushTracking := .of_dosing fun u args => by
  unfold serveFlushTracking
  split
  · exact u.flush_dosing
  · rfl

theorem keepsTrims_setDate : KeepsTrims serveSetDate := .of_dosing fun u args => by
  unfold serveSetDate
  split
  · rfl
  · split_ifs <;> rfl

theorem keepsTrims_zeroNow : KeepsTrims serveZeroNow := .of_dosing fun u args => by
  unfold serveZeroNow
  split
  · split_ifs <;> rfl
  · rfl

theorem keepsTrims_setValveMode : KeepsTrims serveSetValveMode := .of_dosing fun u args => by
  unfold serveSetValveMode
  split
  · split
    · rfl
    · split_ifs
      · rfl
      · rfl
      · split
        · exact u.onValve_dosing _ (fun x => { x with mode := .included }) rfl
        · exact u.onValve_dosing _ (fun x => { x with mode := .excluded, sum := 0, n := 0 }) rfl
  · rfl

theorem keepsTrims_clearLineStop : KeepsTrims serveClearLineStop := fun u args hu => by
  unfold serveClearLineStop
  split
  · dsimp only
    split_ifs
    · exact hu
    · exact hu.foldl _ fun v c hv => hv.same (v.clearCause_dosing _ c)
  · exact hu

theorem keepsTrims_holdBlock : KeepsTrims serveHoldBlock := fun u args hu => by
  unfold serveHoldBlock
  split
  · split
    · exact hu
    · split
      · exact hu
      · exact hu
      · exact (hu.hold _).same (State.bump_dosing _ _)
  · exact hu

theorem keepsTrims_releaseBlock : KeepsTrims serveReleaseBlock := fun u args hu => by
  unfold serveReleaseBlock
  split
  · split
    · exact hu
    · split
      · exact hu
      · exact hu
      · exact (hu.release _).same (State.bump_dosing _ _)
  · exact hu

theorem keepsTrims_writeSetup : KeepsTrims serveWriteSetup := fun u args hu => by
  unfold serveWriteSetup
  split
  · split
    · exact hu
    · exact (hu.written _).same (State.bump_dosing _ _)
  · exact hu

theorem keepsTrims_writeRecipe : KeepsTrims serveWriteRecipe := fun u args hu => by
  unfold serveWriteRecipe
  split
  · split
    · split_ifs
      · exact hu
      · exact hu
      · exact State.trimsWithin.same (hu.onSlot (by simp)) (State.bump_dosing _ _)
    · exact hu
  · exact hu

theorem keepsTrims_discardRecipe : KeepsTrims serveDiscardRecipe := fun u args hu => by
  unfold serveDiscardRecipe
  split
  · split
    · exact hu
    · split_ifs
      · exact hu
      · exact hu.onSlot (by simp)
  · exact hu

theorem keepsTrims_changeover : KeepsTrims serveChangeover := fun u args hu => by
  unfold serveChangeover
  split
  · split
    · exact hu
    · split_ifs
      · exact hu
      · exact hu
      · split
        · exact hu.same (State.bump_dosing _ _)
        · exact hu.changeTo _
  · exact hu

theorem keepsTrims_stopProduct : KeepsTrims serveStopProduct := fun u args hu => by
  unfold serveStopProduct
  split
  · split
    · exact hu
    · split_ifs
      · exact hu
      · exact hu.stopProduct _
  · exact hu

/-! ## The commands that are more than their operation -/

section
variable {s : State} (hs : s.trimsWithin)
include hs

theorem State.trimsWithin.verifyRecipe : (s.serveLong 0x22 serveVerifyRecipe).trimsWithin :=
  hs.serveLong _ fun u args hu => by
    rcases serveVerifyRecipe_cases u args with ⟨a, ha, hau⟩ | ⟨k, _, hk⟩
    · rw [ha]
      show a.state.trimsWithin
      rwa [hau]
    · rw [hk]
      exact hu.onSlot (by simp)

theorem State.trimsWithin.finishVerify (k : SlotId) : (s.finishVerify k).state.trimsWithin := by
  unfold State.finishVerify
  split
  · exact State.trimsWithin.same (hs.onSlot (by simp)) (State.bump_dosing _ _)
  · exact State.trimsWithin.same (hs.onSlot (by simp)) (State.bump_dosing _ _)

/-- A request that only starts a store write, when it is not answered at once. -/
theorem State.trimsWithin.serveStore (code : Byte) {act : State → List Byte → Answer ⊕ (State × Operation)}
    (hact : ∀ u args, (∃ a, act u args = .inl a ∧ a.state = u) ∨
      ∃ op, act u args = .inr (u.startStoreWrite, op)) :
    (s.serveLong code act).trimsWithin :=
  hs.serveLong _ fun u args hu => by
    rcases hact u args with ⟨a, ha, hau⟩ | ⟨op, hop⟩
    · rw [ha]
      show a.state.trimsWithin
      rwa [hau]
    · rw [hop]
      exact hu.same u.startStoreWrite_dosing

theorem State.trimsWithin.calWrite : (s.serveLong 0x48 serveCalWrite).trimsWithin :=
  hs.serveStore _ fun u args => by
    cases hx : serveCalWrite u args with
    | inl a => exact .inl ⟨a, rfl, serveCalWrite_inl hx⟩
    | inr x =>
      obtain ⟨v, op⟩ := x
      obtain ⟨rfl, _⟩ := serveCalWrite_inr hx
      exact .inr ⟨op, rfl⟩

theorem State.trimsWithin.resetPart : s.resetPart.trimsWithin := by
  unfold State.resetPart
  split
  · split_ifs
    · exact hs.same (replyTo_dosing ..)
    · exact hs.same (replyTo_dosing ..)
    · exact hs
  · exact hs

omit hs in
/-- A reset leaves no trim and no recipe. -/
theorem State.trimsWithin_reset (s : State) (cause : ResetCause) (phase : Phase) :
    (s.assertReset cause phase).trimsWithin :=
  State.trimsWithin_zero (by simp [State.assertReset, Rcs.reset, Slot.reset]) fun v hv => by
    simp [State.valve_eq_getElem, State.assertReset, Drg.reset, Valve.reset, hv]

theorem State.trimsWithin.transmissionEnd {t : State} (h : execTransmissionEnd s = .next t) : t.trimsWithin := by
  cases h
  split
  · dsimp only
    refine .ite (State.trimsWithin_reset ..) (State.trimsWithin.same ?_ (State.onLif_dosing _ _))
    exact .ite hs hs
  · exact hs

end

/-! ## Every command -/

theorem State.release_dosing (s : State) (address : BitVec 6) (calwe : Bool) :
    (s.release address calwe).dosing = s.dosing := rfl

theorem State.trimsWithin.arrivalTaken {s t : State} (hs : s.trimsWithin) (h : execInfeedArrival s = .next t) :
    t.trimsWithin := by
  cases h
  split
  · exact State.trimsWithin.infeedArrives (hs.same (State.onCtr_dosing _ _)) _
  · exact hs

theorem State.trimsWithin.verificationComplete {s t : State} (hs : s.trimsWithin)
    (h : execVerificationComplete s = .next t) : t.trimsWithin := by
  cases h
  split
  · exact State.trimsWithin.same (State.trimsWithin.finishVerify (hs.same s.endService_dosing) _) (replyTo_dosing ..)
  · exact hs

theorem State.trimsWithin.readinessInput {s t : State} (hs : s.trimsWithin) {input : ReadinessInput} {level : Bool}
    (h : execReadinessInputChange input level s = .next t) : t.trimsWithin := by
  cases h
  cases input <;> exact .ite (hs.same (by simp)) (hs.same (by simp))

/-- Every command keeps the trims within their limits. -/
theorem exec_keeps_trims (c : Instr) (s t : State) (hs : s.trimsWithin) (h : exec c s = .next t) :
    t.trimsWithin := by
  cases c with
  | powerOnReset => cases h; exact State.trimsWithin_reset ..
  | pinReset => cases h; exact State.trimsWithin_reset ..
  | powerOnRelease address calwe => cases h; exact .ite (hs.same (s.release_dosing ..)) hs
  | pinRelease address calwe => cases h; exact .ite (hs.same (s.release_dosing ..)) hs
  | calibrationRead => cases h; exact .ite (hs.same (by simp)) hs
  | startUpCompletion => cases h; exact .ite (hs.same (by simp)) hs
  | encoderStep a b => cases h; exact .ite (hs.encoderChange a b) (hs.same (by simp))
  | infeedEyeChange level =>
    have ht := hs.same (s.onPins_dosing fun p => { p with eyeIn := level })
    cases h; exact .ite (ht.eyeChanged .infeed) ht
  | confirmEyeChange level =>
    have ht := hs.same (s.onPins_dosing fun p => { p with eyeConf := level })
    cases h; exact .ite (ht.eyeChanged .confirm) ht
  | infeedArrival => exact hs.arrivalTaken h
  | missingExpiry => cases h; split <;> exact hs.same (by simp)
  | readTriggerPoint tag => cases h; exact hs.atPoint .readTrigger tag
  | platformEntryPoint tag => cases h; exact hs.atPoint .platformEntry tag
  | settlePoint tag => cases h; exact hs.atPoint .settle tag
  | endPoint tag => cases h; exact hs.atPoint .endOfWindow tag
  | exitPoint tag => cases h; exact hs.atPoint .exit tag
  | decisionPoint tag => cases h; exact hs.atPoint .decision tag
  | gatePoint tag => cases h; exact hs.atPoint .gate tag
  | gatePulseExpiry => cases h; exact .ite (hs.same (by simp)) hs
  | confirmArrival => cases h; split <;> exact hs.same (by simp)
  | confirmWindowClose tag => cases h; exact hs.atPoint .confirmClose tag
  | sampleArrival value overrange => cases h; exact .ite (hs.same (by simp)) hs
  | sampleGapExpiry => cases h; exact .ite (hs.same (by simp)) hs
  | excitationConversion code => cases h; exact .ite (hs.same (by simp)) hs
  | readinessInputChange input level => exact hs.readinessInput h
  | readinessConditionedChange input => cases h; exact .ite (hs.same (by simp)) hs
  | frameCompletion bytes => cases h; exact .ite hs (hs.same (by simp))
  | transmissionEnd => exact hs.transmissionEnd h
  | portFree => cases h; split <;> exact hs.same (by simp)
  | readState => cases h; exact hs.serveWhere _ keepsTrims_readState
  | readCounters => cases h; exact hs.serveWhere _ keepsTrims_readCounters
  | clearCounters => cases h; exact hs.serveWhere _ keepsTrims_clearCounters
  | readPlatform => cases h; exact hs.serveWhere _ keepsTrims_readPlatform
  | readValve => cases h; exact hs.serveWhere _ keepsTrims_readValve
  | writeSetup => cases h; exact hs.serveWhere _ keepsTrims_writeSetup
  | readSetup => cases h; exact hs.serveWhere _ keepsTrims_readSetup
  | writePassEntry => cases h; exact hs.serveWhere _ keepsTrims_writePassEntry
  | readPassEntry => cases h; exact hs.serveWhere _ keepsTrims_readPassEntry
  | writeRecipe => cases h; exact hs.serveWhere _ keepsTrims_writeRecipe
  | readRecipe => cases h; exact hs.serveWhere _ keepsTrims_readRecipe
  | verifyRecipe => cases h; exact hs.verifyRecipe
  | verificationComplete => exact hs.verificationComplete h
  | discardRecipe => cases h; exact hs.serveWhere _ keepsTrims_discardRecipe
  | changeover => cases h; exact hs.serveWhere _ keepsTrims_changeover
  | stopProduct => cases h; exact hs.serveWhere _ keepsTrims_stopProduct
  | startTracking => cases h; exact hs.serveWhere _ keepsTrims_startTracking
  | stopTracking => cases h; exact hs.serveWhere _ keepsTrims_stopTracking
  | flushTracking => cases h; exact hs.serveWhere _ keepsTrims_flushTracking
  | setDate => cases h; exact hs.serveWhere _ keepsTrims_setDate
  | zeroNow => cases h; exact hs.serveWhere _ keepsTrims_zeroNow
  | setValveMode => cases h; exact hs.serveWhere _ keepsTrims_setValveMode
  | clearLineStop => cases h; exact hs.serveWhere _ keepsTrims_clearLineStop
  | holdBlock => cases h; exact hs.serveWhere _ keepsTrims_holdBlock
  | releaseBlock => cases h; exact hs.serveWhere _ keepsTrims_releaseBlock
  | calWrite => cases h; exact hs.calWrite
  | calWriteComplete => cases h; split <;> exact hs.same (by simp [State.okay])
  | calLock =>
    cases h
    exact hs.serveStore _ fun u args => (serveCalLock_cases u args).imp_right fun ⟨c, hc⟩ => ⟨_, hc⟩
  | calLockComplete => cases h; split <;> exact hs.same (by simp [State.okay])
  | calClear =>
    cases h
    exact hs.serveStore _ fun u args => (serveCalClear_cases u args).imp_right fun ⟨c, hc⟩ => ⟨_, hc⟩
  | calClearComplete => cases h; split <;> exact hs.same (by simp [State.okay])
  | readCal => cases h; exact hs.serveWhere _ keepsTrims_readCal
  | resetPart => cases h; exact hs.resetPart
  | unknownRequestCode => cases h; exact hs.serveWhere _ fun u _ hu => hu

/-- Settles O9: every command keeps the trims within their limits, by what it does to the dosing. -/
theorem trimsStayWithinLimit : Obligations.TrimsStayWithinLimit := by
  unfold Obligations.TrimsStayWithinLimit
  intro s t hs h
  unfold step at h
  split at h
  · cases h
    exact hs
  · rename_i rest _
    exact exec_keeps_trims _ { s with pending := rest } t hs h

end Sys2Proof.Machine
end

section
/-!
The clearing of counters by group (08 R174, R175; 04 R105).
-/

namespace Sys2Proof.Machine

/-- The names of the groups are 0 to 8. -/
theorem blockOf_ctorIdx {g : Byte} {b : Block} (h : g.toNat = b.ctorIdx) : blockOf g = some b := by
  rw [blockOf, h]
  cases b <;> rfl

section
variable (s : State)

theorem State.clearCounters_counter (p : Nat → Bool) (c : Counter) :
    (s.clearCounters p).counter c = if p c.ctorIdx then 0 else s.counter c := by
  simp [State.counter, State.clearCounters, State.onCounters, Counter.place]

theorem State.clearValveCounters_counter (c : Counter) : s.clearValveCounters.counter c = s.counter c := rfl

theorem State.clearValveCounters_valve {i : Nat} (hi : i < 96) : s.clearValveCounters.valve i =
    { s.valve i with weighed := 0, rejected := 0, missing := 0, stale := 0 } := s.onValves_valve _ hi

theorem State.clearCounters_changes (p : Nat → Bool) : s.changesOnly (s.clearCounters p) [.counters, .drg] :=
  State.changesOnly_part .counters (by decide) rfl fun p hp => by cases p <;> simp_all [Part.same]

theorem State.clearValveCounters_changes : s.changesOnly s.clearValveCounters [.counters, .drg] :=
  State.changesOnly_part .drg (by decide) rfl fun p hp => by
    cases p <;> simp_all [Part.same, State.clearValveCounters, State.onValves]

/-- The places of a group are those of its span. -/
theorem Block.holds_iff (b : Block) (i : Nat) : b.holds i = true ↔ b.span.1 ≤ i ∧ i < b.span.1 + b.span.2 := by
  simp [Block.holds]

theorem State.clearGroup_counter (b : Block) (c : Counter) : (s.clearGroup b).counter c =
    if b.span.1 ≤ c.ctorIdx ∧ c.ctorIdx < b.span.1 + b.span.2 then 0 else s.counter c := by
  have h : (s.clearGroup b).counter c = (s.clearCounters b.holds).counter c := by
    unfold State.clearGroup
    dsimp only
    split_ifs
    · exact State.clearValveCounters_counter _ c
    · rfl
  rw [h, State.clearCounters_counter]
  exact if_congr (b.holds_iff _) rfl rfl

theorem State.clearGroup_valve (b : Block) {i : Nat} (hi : i < 96) : (s.clearGroup b).valve i = if b = .drg then
    { s.valve i with weighed := 0, rejected := 0, missing := 0, stale := 0 } else s.valve i := by
  unfold State.clearGroup
  dsimp only
  split_ifs
  · exact State.clearValveCounters_valve _ hi
  · rfl

theorem State.clearGroup_changes (b : Block) : s.changesOnly (s.clearGroup b) [.counters, .drg] := by
  unfold State.clearGroup
  dsimp only
  split_ifs
  · exact (s.clearCounters_changes _).trans (State.clearValveCounters_changes _)
  · exact s.clearCounters_changes _

end

/-- Settles O53: the group's clear on the counters, on the valves' records and on the rest. -/
theorem countersAreClearedByGroup : Obligations.CountersAreClearedByGroup := by
  intro s r rest hb u spans cleared
  have hspan : ∀ b : Block, spans.getD b.ctorIdx (0, 0) = (b.span.1, b.span.1 + b.span.2) := fun b => by
    cases b <;> rfl
  have hgroup : ∀ b, cleared (u.clearGroup b) (some b) := fun b => by
    refine ⟨u.clearGroup_changes b, fun c => ?_, fun i hi => ?_⟩
    · rw [State.clearGroup_counter]
      simp only [Option.some.injEq, forall_eq', hspan]
      rfl
    · rw [State.clearGroup_valve _ _ hi]
      simp only [reduceCtorEq, Option.some.injEq, false_or]
      rfl
  have hall : cleared (u.clearCounters fun _ => true).clearValveCounters none := by
    refine ⟨(u.clearCounters_changes _).trans (State.clearValveCounters_changes _), fun c => ?_, fun i hi => ?_⟩
    · rw [State.clearValveCounters_counter, State.clearCounters_counter]
      simp
    · rw [State.clearValveCounters_valve _ hi]
      rfl
  refine ⟨fun g b hc ha hg => ⟨_, ?_, hgroup b⟩, fun g b hc ha hg => ⟨_, ?_, hgroup b⟩,
    fun hc ha => ⟨_, ?_, hall⟩⟩
  · rw [exec, execReadCounters, hb.serve hc, ha, serveReadCounters, blockOf_ctorIdx hg]
    rfl
  · have hne : g ≠ 0xFF := fun h => by
      have : b.ctorIdx < 9 := by cases b <;> decide
      rw [← hg, h] at this
      exact absurd this (by decide)
    rw [exec, execClearCounters, hb.serve hc, ha, serveClearCounters, if_neg hne, blockOf_ctorIdx hg]
    rfl
  · rw [exec, execClearCounters, hb.serve hc, ha]
    rfl

end Sys2Proof.Machine
end

section
/-!
CHANGEOVER and STOP_PRODUCT (06 R138 to R142; 04 R99, R100): what becomes of the slots and of the valves, and what is
sent.
-/

namespace Sys2Proof.Machine

/-! ## The clear of the valve table under any recipe id (04 R99, R100) -/

theorem bytesBE_two (n : Nat) : bytesBE 2 n = [BitVec.ofNat 8 (n / 256), BitVec.ofNat 8 n] := by
  simp [bytesBE]

/-- A cleared valve's epoch has advanced. -/
theorem State.tableCleared_epochs (s : State) :
    (s.tableCleared.drg.valves.toList.take s.valveCount).map (·.epoch) =
      (List.range (min s.valveCount 96)).map fun v => (s.valve v).epoch + 1 := by
  rw [State.take_valves, List.map_map]
  refine List.map_congr_left fun v hv => ?_
  have hv := List.mem_range.mp hv
  rw [Function.comp_apply, s.tableCleared_valve (by omega), if_pos (by omega)]
  rfl

/-- The TRIM_CLEAR tells the recipe id and the advanced epochs. -/
theorem State.clearTable_eq (s : State) (id : Nat) :
    s.clearTable id = s.tableCleared.toFiller .trimClears (s.trimClear id) := by
  have hclear : s.clearTable id = s.tableCleared.toFiller .trimClears (.own s.fillerStation 0x54
      (trimClearPayload id ((s.tableCleared.drg.valves.toList.take s.valveCount).map (·.epoch))) false) :=
    State.sendTrimClear_eq _ id
  rw [hclear, State.tableCleared_epochs]
  simp only [State.trimClear, trimClearPayload, counted, List.length_map, List.length_range, bytesBE_two]
  rfl

/-- The TRIM_CLEAR comes of the setup and of the valves. -/
theorem State.trimClear_congr {s t : State} (hsetup : t.setup = s.setup) (hdrg : t.drg = s.drg) (id : Nat) :
    t.trimClear id = s.trimClear id := by
  have hcount : t.valveCount = s.valveCount := congrArg (setupNum · 47 1) hsetup
  have hstation : t.fillerStation = s.fillerStation := by rw [State.fillerStation, hsetup]; rfl
  unfold State.trimClear
  simp only [hcount, hstation, State.valve_congr hdrg]

/-! ## The slots -/

theorem slotOf_byte (k : SlotId) : slotOf (if k = .s0 then 0 else 1) = some k := by cases k <;> rfl

/-- Some slot is DRAINING. -/
theorem State.drainingSlot_isSome_iff (s : State) :
    s.drainingSlot.isSome = true ↔ s.rcs.slot0.state = .draining ∨ s.rcs.slot1.state = .draining := by
  unfold State.drainingSlot State.slotIn
  split_ifs <;> simp_all

theorem State.activeSlot_none {s : State} (h : ∀ j, (s.rcs.slot j).state ≠ .active) : s.activeSlot = none := by
  cases hk : s.activeSlot with
  | none => rfl
  | some k => exact absurd (State.activeSlot_active hk) (h k)

/-! Tests 6 and 7 of R131 in turn: the end of the weigh window before the decision, then the heaviest can within the
capacity. -/

section
variable {s : State} {img : Image}

theorem State.conflict_window (hw : s.decisionOffset ≤ img.endOffset) :
    s.conflict img = some { reason := .windowVsSetup, index := 25 } := by
  simp [State.conflict, firstFault, windowVsSetupTest, Nat.not_lt.mpr hw]

variable (hw : img.endOffset < s.decisionOffset)
include hw

theorem State.conflict_capacity (hc : s.wge.capacity < img.h2 + img.tare) :
    s.conflict img = some { reason := .capacity, index := 19 } := by
  simp [State.conflict, firstFault, windowVsSetupTest, capacityTest, hw, Nat.not_le.mpr hc]

theorem State.conflict_fits (hc : img.h2 + img.tare ≤ s.wge.capacity) : s.conflict img = none := by
  simp [State.conflict, firstFault, windowVsSetupTest, capacityTest, hw, hc]

end

namespace SameVoice

variable {cs : List Counter} {s t : State} (h : SameVoice cs s t)
include h

theorem onRcs (f : Rcs → Rcs) : SameVoice cs s (t.onRcs f) := { h with }

theorem onValves (f : Nat → Valve → Valve) : SameVoice cs s (t.onValves f) := { h with }

theorem slotReported_both {k : SlotId} (himage : t.image k = s.image k) (m : DrainMoment) :
    SameVoice cs (s.slotReported k m) (t.slotReported k m) := by
  unfold State.slotReported
  rw [himage]
  exact (h.notify_both _).bump_both _

/-- The draining check on `t` is heard as its report from `s`. -/
theorem drainCheck {k : SlotId} (himage : t.image k = s.image k) (m : DrainMoment) :
    SameVoice cs (if (t.rcs.slot k).state = .draining ∧ (t.rcs.slot k).refs = 0 then s.slotReported k m else s)
      (t.drainCheck k m) := by
  rw [State.drainCheck_eq]
  split_ifs
  · have hsame : (t.onRcs fun r => r.setSlot k { r.slot k with state := .verified }).image k = s.image k := by
      rw [State.image, State.onRcs_rcs, Rcs.setSlot_slot]
      exact himage
    have hreport := (h.onRcs _).slotReported_both hsame m
    simpa only [State.slotReported, hsame, himage] using hreport
  · exact h

end SameVoice

theorem Touches.drainCheck {ps : List Part} {cs : List Counter} {s t : State} (h : Touches ps cs s t) (k : SlotId)
    (m : DrainMoment) (hp : [.rcs, .lif, .mga, .counters] ⊆ ps := by decide)
    (hc : .slotRetirements :: noticeCounts ⊆ cs := by decide) : Touches ps cs s (t.drainCheck k m) := by
  rw [State.drainCheck_eq]
  split_ifs
  · exact ((h.onRcs _ (hp (by decide))).notify _ (List.cons_subset.mp hp).2 (List.cons_subset.mp hc).2).bump _
      (hp (by decide)) (List.cons_subset.mp hc).1
  · exact h

theorem State.drainCheck_slot (s : State) (k j : SlotId) (m : DrainMoment) :
    (s.drainCheck k m).rcs.slot j = if j = k then (s.rcs.slot k).settled else s.rcs.slot j := by
  rw [(s.drainCheck_settles k m).rcs, State.onSlot_slot]

/-! ## STOP_PRODUCT (R141, R142) -/

/-- The counters of a slot that drains, its retirement and the notice of it. -/
def drainCounts : List Counter := .slotRetirements :: noticeCounts

theorem State.stopProduct_slot (s : State) (k j : SlotId) : (s.stopProduct k).rcs.slot j =
    if j = k then { s.rcs.slot k with state := if (s.rcs.slot k).refs = 0 then .verified else .draining }
    else s.rcs.slot j := by
  have h : (s.stopProduct k).rcs.slot j =
      ((s.onSlot k fun x => { x with state := .draining }).drainCheck k .atDrain).rcs.slot j := rfl
  rw [h, State.drainCheck_slot, State.onSlot_slot, State.onSlot_slot, if_pos rfl]
  by_cases hj : j = k
  · rw [if_pos hj, if_pos hj, Slot.settled]
    by_cases hr : (s.rcs.slot k).refs = 0 <;> simp [hr]
  · simp only [if_neg hj]

/-- The state in which the product has been stopped, before it is counted. -/
theorem State.stopProduct_touches (s : State) (k : SlotId) :
    Touches [.rcs, .lif, .mga, .counters] drainCounts s
      ((s.onSlot k fun x => { x with state := .draining }).drainCheck k .atDrain) :=
  ((Touches.refl s).onRcs _).drainCheck k .atDrain

theorem State.stopProduct_counted (s : State) (k : SlotId) :
    (s.stopProduct k).counter .productStops = satInc (s.counter .productStops) := by
  rw [State.stopProduct, State.counter_bump, if_pos rfl, (s.stopProduct_touches k).counter .productStops]

theorem State.stopProduct_changes (s : State) (k : SlotId) :
    s.changesOnly (s.stopProduct k) [.rcs, .lif, .mga, .counters] :=
  (((s.stopProduct_touches k).mono (List.Subset.refl _) (List.subset_cons_self .productStops _)).bump
    .productStops).parts

theorem State.stopProduct_voice (s : State) (k : SlotId) :
    SameVoice [.productStops] (if (s.rcs.slot k).refs = 0 then s.slotReported k .atDrain else s) (s.stopProduct k) := by
  have himage : (s.onSlot k fun x => { x with state := .draining }).image k = s.image k := by
    rw [State.image, State.onSlot_slot, if_pos rfl]
    rfl
  have h := (((SameVoice.refl s).onRcs fun r => r.setSlot k { r.slot k with state := .draining }).drainCheck
    himage .atDrain).bump .productStops
  have hslot : (s.onSlot k fun x => { x with state := .draining }).rcs.slot k =
      { s.rcs.slot k with state := .draining } := by rw [State.onSlot_slot, if_pos rfl]
  rw [State.onSlot] at hslot
  simp only [hslot, true_and] at h
  exact h

/-! ## CHANGEOVER (R139, R142) -/

/-- A changeover to slot `k` once the valves are cleared, before the slot it leaves is checked for draining. -/
def State.changedBeforeDrain (s : State) (k : SlotId) : State :=
  if (s.activated k).sup.holdDrg then s.activated k else (s.activated k).clearTable ((s.activated k).image k).recipeId

/-- What a changeover to slot `k` tells the filler: the recipe id, unless the DRG is held. -/
def State.toldRecipe (s : State) (k : SlotId) : State :=
  if s.sup.holdDrg then s else s.toFiller .trimClears (s.trimClear (s.image k).recipeId)

section
variable (s : State) (k : SlotId)

theorem State.changeTo_drains : s.changeTo k =
    ((s.changedBeforeDrain k).drainCheck k.other .atDrain).bump .changeovers := rfl

theorem State.activated_image (j : SlotId) : (s.activated k).image j = s.image j := by
  rw [State.image, State.activated_slot]
  split_ifs with hj
  · rw [hj]
    rfl
  · rfl
  · rfl

theorem State.activated_holdDrg : (s.activated k).sup.holdDrg = s.sup.holdDrg :=
  congrArg Sup.holdDrg ((s.activated_touches k).part .sup)

theorem State.changedBeforeDrain_rcs : (s.changedBeforeDrain k).rcs = (s.activated k).rcs := by
  unfold State.changedBeforeDrain
  split_ifs
  · rfl
  · exact State.clearTable_rcs ..

theorem State.changedBeforeDrain_eq : s.changedBeforeDrain k = if s.sup.holdDrg then s.activated k
    else (s.activated k).tableCleared.toFiller .trimClears (s.trimClear (s.image k).recipeId) := by
  have ht := s.activated_touches k
  unfold State.changedBeforeDrain
  rw [State.activated_holdDrg, State.clearTable_eq, State.trimClear_congr (ht.part .setup) (ht.part .drg),
    State.activated_image]

/-- The clear of the valves, and what it leaves. -/
theorem State.changedBeforeDrain_touches :
    Touches [.rcs, .drg, .lif, .counters] [.trimClears, .trimOverflow, .trimNoStation] s (s.changedBeforeDrain k) := by
  have ht := (s.activated_touches k).mono (ps' := [.rcs, .drg, .lif, .counters])
    (cs' := [.trimClears, .trimOverflow, .trimNoStation]) (by decide) (by decide)
  rw [State.changedBeforeDrain_eq]
  split_ifs
  · exact ht
  · exact (ht.onValves _).toFiller _ _

theorem State.changedBeforeDrain_voice : SameVoice [] (s.toldRecipe k) (s.changedBeforeDrain k) := by
  have ht := s.activated_touches k
  have hsame : SameVoice [] s (s.activated k) :=
    ⟨ht.part .sup, ht.part .lif, ht.part .mga, ht.part .setup, ht.part .counters⟩
  rw [State.changedBeforeDrain_eq, State.toldRecipe]
  split_ifs
  · exact hsame
  · exact (hsame.onValves _).toFiller_both _ _

theorem State.changedBeforeDrain_valve {i : Nat} (hi : i < 96) : (s.changedBeforeDrain k).valve i =
    if s.sup.holdDrg = false ∧ i < s.valveCount then (s.valve i).cleared else s.valve i := by
  have ht := s.activated_touches k
  have hvalve : (s.activated k).valve i = s.valve i := State.valve_congr (ht.part .drg) i
  have hcount : (s.activated k).valveCount = s.valveCount := congrArg (setupNum · 47 1) (ht.part .setup)
  rw [State.changedBeforeDrain_eq]
  cases s.sup.holdDrg with
  | true => simpa using hvalve
  | false =>
    have hsent : Touches [.lif, .counters] [.trimClears, .trimOverflow, .trimNoStation] (s.activated k).tableCleared
        ((s.activated k).tableCleared.toFiller .trimClears (s.trimClear (s.image k).recipeId)) :=
      (Touches.refl _).toFiller _ _
    rw [if_neg (by simp), State.valve_congr (hsent.part .drg), State.tableCleared_valve _ hi, hvalve, hcount]
    simp only [true_and]

/-- The slot that comes into use. -/
theorem State.changeTo_slot : (s.changeTo k).rcs.slot k = { s.rcs.slot k with state := .active } := by
  have h : (s.changeTo k).rcs.slot k = ((s.changedBeforeDrain k).drainCheck k.other .atDrain).rcs.slot k := rfl
  rw [h, State.drainCheck_slot, if_neg (SlotId.other_ne k).symm, State.changedBeforeDrain_rcs, State.activated_slot,
    if_pos rfl]

/-- The slot that is left drains from there. -/
theorem State.changedBeforeDrain_other : (s.changedBeforeDrain k).rcs.slot k.other =
    if (s.rcs.slot k.other).state = .active then { s.rcs.slot k.other with state := .draining }
    else s.rcs.slot k.other := by
  rw [State.changedBeforeDrain_rcs, State.activated_slot, if_neg (SlotId.other_ne k)]

/-- Where no slot drains, the one that is left drains exactly when it was ACTIVE. -/
theorem State.changedBeforeDrain_drains (hd : (s.rcs.slot k.other).state ≠ .draining) :
    ((s.changedBeforeDrain k).rcs.slot k.other).state = .draining ∧
        ((s.changedBeforeDrain k).rcs.slot k.other).refs = 0 ↔
      (s.rcs.slot k.other).state = .active ∧ (s.rcs.slot k.other).refs = 0 := by
  rw [State.changedBeforeDrain_other]
  split_ifs with ha <;> simp [ha, hd]

theorem State.changeTo_other (hd : (s.rcs.slot k.other).state ≠ .draining) :
    (s.changeTo k).rcs.slot k.other = { s.rcs.slot k.other with state :=
      if (s.rcs.slot k.other).state = .active then if (s.rcs.slot k.other).refs = 0 then .verified else .draining
      else (s.rcs.slot k.other).state } := by
  have h : (s.changeTo k).rcs.slot k.other =
      ((s.changedBeforeDrain k).drainCheck k.other .atDrain).rcs.slot k.other := rfl
  rw [h, State.drainCheck_slot, if_pos rfl, State.changedBeforeDrain_other, Slot.settled]
  by_cases ha : (s.rcs.slot k.other).state = .active
  · by_cases hr : (s.rcs.slot k.other).refs = 0 <;> simp [ha, hr]
  · simp [ha, hd]

theorem State.changeTo_voice (hd : (s.rcs.slot k.other).state ≠ .draining) :
    SameVoice [.changeovers] (if (s.rcs.slot k.other).state = .active ∧ (s.rcs.slot k.other).refs = 0
      then (s.toldRecipe k).slotReported k.other .atDrain else s.toldRecipe k) (s.changeTo k) := by
  have himage : (s.changedBeforeDrain k).image k.other = (s.toldRecipe k).image k.other := by
    have htold : (s.toldRecipe k).rcs = s.rcs := by
      unfold State.toldRecipe State.toFiller
      split_ifs <;> simp
    rw [State.image, State.changedBeforeDrain_rcs, State.image, htold]
    exact s.activated_image k k.other
  have h := ((s.changedBeforeDrain_voice k).drainCheck himage .atDrain).bump .changeovers
  simp only [s.changedBeforeDrain_drains k hd] at h
  exact h

theorem State.changeTo_valve (i : Nat) : (s.changeTo k).valve i = (s.changedBeforeDrain k).valve i :=
  State.valve_congr (State.drainCheck_drg _ k.other .atDrain) i

/-- What a changeover leaves, before it is counted. -/
theorem State.changeTo_touches : Touches [.rcs, .drg, .lif, .mga, .counters]
    (drainCounts ++ [.trimClears, .trimOverflow, .trimNoStation]) s
    ((s.changedBeforeDrain k).drainCheck k.other .atDrain) :=
  ((s.changedBeforeDrain_touches k).mono (by decide) (by decide)).drainCheck k.other .atDrain

theorem State.changeTo_counted : (s.changeTo k).counter .changeovers = satInc (s.counter .changeovers) := by
  rw [State.changeTo_drains, State.counter_bump, if_pos rfl, (s.changeTo_touches k).counter .changeovers]

theorem State.changeTo_changes : s.changesOnly (s.changeTo k) [.rcs, .drg, .lif, .mga, .counters] :=
  (((s.changeTo_touches k).mono (List.Subset.refl _) (List.subset_cons_self .changeovers _)).bump .changeovers).parts

end

/-! ## The requests served -/

section
variable {u : State} {k : SlotId}

theorem serveChangeover_state (hx : (u.rcs.slot k).state ≠ .verified) :
    serveChangeover u [if k = .s0 then 0 else 1] = u.refuse .slotState := by
  simp only [serveChangeover, slotOf_byte]
  exact if_pos hx

variable (hx : (u.rcs.slot k).state = .verified)
include hx

theorem serveChangeover_busy (hd : u.drainingSlot.isSome = true) :
    serveChangeover u [if k = .s0 then 0 else 1] = u.refuse .changeoverBusy := by
  simp only [serveChangeover, slotOf_byte]
  rw [if_neg (not_not.mpr hx), if_pos hd]

variable (hd : ¬ u.drainingSlot.isSome = true)
include hd

theorem serveChangeover_conflict {f : SlotFault} (hf : u.conflict (u.image k) = some f) :
    serveChangeover u [if k = .s0 then 0 else 1] =
      (u.bump .changeoverConflicts).refuse .recipeConflict (faultBytes f) := by
  simp only [serveChangeover, slotOf_byte, hf]
  rw [if_neg (not_not.mpr hx), if_neg hd]

theorem serveChangeover_changes (hf : u.conflict (u.image k) = none) :
    serveChangeover u [if k = .s0 then 0 else 1] = (u.changeTo k).okay (u.changeTo k).slotsData := by
  simp only [serveChangeover, slotOf_byte, hf]
  rw [if_neg (not_not.mpr hx), if_neg hd]

end

section
variable {u : State}

theorem serveStopProduct_state (hk : u.activeSlot = none) : serveStopProduct u [] = u.refuse .slotState := by
  simp only [serveStopProduct, hk]

theorem serveStopProduct_busy {k : SlotId} (hk : u.activeSlot = some k) (hd : u.drainingSlot.isSome = true) :
    serveStopProduct u [] = u.refuse .changeoverBusy := by
  simp only [serveStopProduct, hk]
  exact if_pos hd

theorem serveStopProduct_stops {k : SlotId} (hk : u.activeSlot = some k) (hd : ¬ u.drainingSlot.isSome = true) :
    serveStopProduct u [] = (u.stopProduct k).okay (u.stopProduct k).slotsData := by
  simp only [serveStopProduct, hk]
  exact if_neg hd

end

/-- Settles O56: each request by the tests it fails, and a request that passes them by the slots, the valves and what
is sent. -/
theorem changeoverMovesBothSlots : Obligations.ChangeoverMovesBothSlots := by
  intro s r rest k hb u x y left refused states draining
  have hdrain : u.drainingSlot.isSome = true ↔ draining := u.drainingSlot_isSome_iff
  have hother : ¬ draining → y.state ≠ .draining := fun hd hy => hd (by
    cases k
    · exact .inr hy
    · exact .inl hy)
  refine ⟨fun hc ha => ?_, fun hc ha => ?_⟩
  · have hexec : exec .changeover s = .next (replyTo r (serveChangeover u [if k = .s0 then 0 else 1])) := by
      rw [exec, execChangeover, hb.serve hc, ha]
    refine ⟨fun hx => hexec.trans (next_replyTo (serveChangeover_state (u := u) hx)),
      fun hx hd => hexec.trans (next_replyTo (serveChangeover_busy (u := u) hx (hdrain.mpr hd))),
      fun hx hd hw => hexec.trans (next_replyTo
        (serveChangeover_conflict (u := u) hx (mt hdrain.mp hd) (State.conflict_window hw))),
      fun hx hd hw hcap => hexec.trans (next_replyTo
        (serveChangeover_conflict (u := u) hx (mt hdrain.mp hd) (State.conflict_capacity hw hcap))),
      fun hx hd hw hcap => ⟨u.changeTo k, hexec.trans (next_replyTo
        (serveChangeover_changes (u := u) hx (mt hdrain.mp hd) (State.conflict_fits hw hcap))),
        u.changeTo_slot k, u.changeTo_other k (hother hd),
        fun i hi => (u.changeTo_valve k i).trans (u.changedBeforeDrain_valve k hi), u.changeTo_counted k, ?_,
        u.changeTo_changes k⟩⟩
    have hvoice := u.changeTo_voice k (hother hd)
    exact ⟨hvoice.lif, hvoice.mga, hvoice.counts⟩
  · have hexec : exec .stopProduct s = .next (replyTo r (serveStopProduct u [])) := by
      rw [exec, execStopProduct, hb.serve hc, ha]
    refine ⟨fun hj => hexec.trans (next_replyTo (serveStopProduct_state (u := u) (State.activeSlot_none hj))),
      fun hk hd => hexec.trans (next_replyTo (serveStopProduct_busy (u := u) hk (hdrain.mpr hd))),
      fun hk hd => ⟨u.stopProduct k,
        hexec.trans (next_replyTo (serveStopProduct_stops (u := u) hk (mt hdrain.mp hd))),
        (u.stopProduct_slot k k).trans (if_pos rfl),
        (u.stopProduct_slot k k.other).trans (if_neg (SlotId.other_ne k)), u.stopProduct_counted k, ?_,
        u.stopProduct_changes k⟩⟩
    have hvoice := u.stopProduct_voice k
    exact ⟨hvoice.lif, hvoice.mga, hvoice.counts⟩

end Sys2Proof.Machine
end
